-- ==== Sys2Proof/Word.lean ====
section
/-!
DEFINITION. The word types of the LQ5120 model: registers are 32 bits (R2), memory is counted in bytes.
-/
namespace Sys2Proof

/-- A 32-bit register, lane or instruction word (R2, R93, R102). -/
abbrev Word := BitVec 32

/-- One byte. -/
abbrev Byte := BitVec 8

/-- A byte string as it lies on a link, in flash or in memory: lowest address first. -/
abbrev Bytes := List Byte

end Sys2Proof
end

