-- ==== Sys2Proof/Syntax.lean ====
section
/-!
DEFINITION. The commands of the LQ5120: one constructor per row of spec/opcode_table.json, with the row's operands.
Every command but an engine instruction carries `t`, the time-clock edge (2 ns, counted from reset release, R223 and
R340) at which it takes place; an engine instruction names its engine and the fields of its words (R102).
-/
namespace Sys2Proof

/-- An output, 0–3 (R250). -/
abbrev Output := Fin 4
/-- A codec unit, 0–15. -/
abbrev CodecUnit := Fin 16
/-- A DRAM channel, 0–7 (R216). -/
abbrev Channel := Fin 8
/-- A camera port, 0–7 (R380). -/
abbrev Port := Fin 8
/-- A Caravan lane, 0–31 (R294). -/
abbrev Lane := Fin 32
/-- A ray engine: 16 × cluster + engine in the cluster (R90). -/
abbrev EngineId := Fin 512
/-- An engine cluster, 0–31. -/
abbrev Cluster := Fin 32
/-- A supply monitor, 0–15 (R424). -/
abbrev Monitor := Fin 16
/-- A sleep group, 0–7 (R418). -/
abbrev SleepGroup := Fin 8
/-- A power domain, PD00–PD47 (R413). -/
abbrev Domain := Fin 48

/-- The two hops of a tile (R294). -/
inductive Hop where
  | up
  | dn
  deriving DecidableEq, Repr, Inhabited

/-- The access paths of R7: the service port, the wall bus (which only reads) and the Concierge. -/
inductive Path where
  | service
  | wallBus
  | concierge
  deriving DecidableEq, Repr, Inhabited

/-- The shared units of a cluster (R92). -/
inductive SharedUnit where
  | sample
  | calib
  | overlay
  | sfu
  | output
  deriving DecidableEq, Repr, Inhabited

/-- Why a cluster leaves service by a double-bit error (R126). -/
inductive LeaveCause where
  | instructionMemory
  | cacheTags
  deriving DecidableEq, Repr, Inhabited

/-- The classes behind class A (R29). -/
inductive LowerClass where
  | b
  | c
  | d
  deriving DecidableEq, Repr, Inhabited

/-- A unit that drains after an abort (R195). -/
inductive WorkUnit where
  | codec (u : CodecUnit)
  | blitter
  deriving DecidableEq, Repr, Inhabited

/-- What starts an abrupt loss (R289). -/
inductive LossTrigger where
  | pfail
  | vddIo
  deriving DecidableEq, Repr, Inhabited

/-- The fields of an engine instruction's words (R102); `imm` is the second word of the 64-bit form. -/
structure Form where
  pg : Fin 8 := 0
  pn : Bool := false
  d : Fin 64 := 0
  a : Fin 64 := 0
  b : Fin 64 := 0
  as : Bool := false
  bs : Bool := false
  imm : Option Word := none
  deriving DecidableEq, Repr, Inhabited

/-- A 64-byte line of a view cache: address space and line number within it (R117). -/
structure CacheKey where
  space : Fin 16
  line : Nat
  deriving DecidableEq, Repr, Inhabited

/-- What the ECC decoder sees in one 64-bit word of a 64-byte unit (R220): a single-bit error that it corrects, or a
double-bit error, with the syndrome. -/
structure WordErr where
  word : Fin 8
  double : Bool
  syndrome : Byte
  deriving DecidableEq, Repr, Inhabited

/-- A write that does not cover whole words of its unit (R221): byte offset in the unit and the bytes. -/
structure MergeWrite where
  offset : Nat
  data : Bytes
  deriving DecidableEq, Repr, Inhabited

/-- What struck the memories of a cluster until an engine reaches a clock (R124, R126): single-bit errors corrected in its
instruction memory, its local memories and its view cache, and the words of the engine's local memory that a double-bit
error has made unreadable. -/
structure SoftHits where
  corrected : Nat := 0
  lost : List Nat := []
  deriving DecidableEq, Repr, Inhabited

/-- A double-bit error that a shared unit's reads meet: in the data of a view-cache line (R117), or in an alcove of the
calibration store, numbered from 0 within the store (R209). -/
structure UnitHit where
  line : Option CacheKey := none
  alcove : Option (Fin 128) := none
  deriving DecidableEq, Repr, Inhabited

/-- An error of a room table entry that a translation reads (R204): its index, and whether it is a double-bit error. -/
structure TableHit where
  index : Fin 131072
  double : Bool
  deriving DecidableEq, Repr, Inhabited

/-- A double-bit error in one of the two alcoves of the Porter queue (R208, R209), and the positions in the class queues of
the entries that stand in it. -/
structure QueueHit where
  alcove : Fin 2
  a : List Nat := []
  b : List Nat := []
  c : List Nat := []
  d : List Nat := []
  deriving DecidableEq, Repr, Inhabited

/-- A double-bit error in a codec unit's band window (R168, R209): the alcove of the window, and a pixel of the leg whose
64-bit word it makes unreadable. -/
structure WindowHit where
  alcove : Fin 16
  pixel : Nat
  deriving DecidableEq, Repr, Inhabited

/-- A double-bit error that the taking of a line meets (R209, R388): in the port's line buffer or in the image pipeline's
working store, the alcove there, and the 64-bit word of the line that it makes unreadable. -/
structure IspHit where
  store : Bool
  alcove : Fin 32
  word : Nat
  deriving DecidableEq, Repr, Inhabited

/-- Where a codec unit stalls for a reason outside the leg (R172): after so many pixels of the leg, for write-back
(false) or for a DRAM source read (true). -/
structure DecodeLimit where
  pixels : Nat
  source : Bool
  deriving DecidableEq, Repr, Inhabited

/-- The DRAM command that an ALERT_n pulse names, as in the freeze history, with the unit and requester behind it. -/
structure DramCmd where
  code : BitVec 4
  rank : Bool
  bg : BitVec 2
  bank : BitVec 2
  addr : BitVec 17
  phys : Nat
  req : BitVec 6
  deriving DecidableEq, Repr, Inhabited

/-- The sense readings of one output's rails, in signed mV (R285). -/
structure RailMv where
  avdd : Int
  vgh : Int
  vgl : Int
  vcom : Int
  deriving DecidableEq, Repr, Inhabited

/-- A block of one lane (R302): sync header as it is written, payload with bit 0 sent first. -/
structure Block where
  sync : BitVec 2
  data : BitVec 64
  deriving DecidableEq, Repr, Inhabited

/-- What bring-up finds on one receive lane (R299, R306, R307): the first marker block within 2 marker intervals, if any. -/
structure LaneTrain where
  cdr : Bool
  fom : Byte
  ctle : BitVec 4
  slips : Nat
  marker : Option Block
  skewNs : Nat
  deriving DecidableEq, Repr, Inhabited

/-- The settings that training leaves in a channel's delay lines and Vref (R236): read and write delay of each data bit and of
each strobe in 1/64 UI (0–127), CA delay of each pin in 1/64 of a clock (0–127), controller read Vref (0–63), VrefDQ of each
device (MR6). -/
structure TrainDelays where
  read : List (BitVec 7) := []
  write : List (BitVec 7) := []
  readStrobe : List (BitVec 7) := []
  writeStrobe : List (BitVec 7) := []
  ca : List (BitVec 7) := []
  readVref : BitVec 6 := 0
  vrefDq : List Byte := []
  deriving DecidableEq, Repr, Inhabited

/-- The result of training one DRAM channel (R235–R238): attempts made, the step at which the last attempt failed (0 if
none did), the margins of DRC_CH_MARGIN, the settings found, and per data bit the errors of the last pattern read. -/
structure ChannelTrain where
  attempts : Nat
  failStep : BitVec 4
  ca : Byte
  vrefdq : Byte
  write : Byte
  read : Byte
  delays : TrainDelays := {}
  errors : List (BitVec 16) := List.replicate 72 0
  deriving DecidableEq, Repr, Inhabited

/-- A Caravan wagon as it arrives: header, payload and CRC-32C (R311), and the rows of 8 blocks that came between its own
rows (R303). -/
structure Wagon where
  bytes : Bytes
  between : List (List Block) := []
  deriving DecidableEq, Repr, Inhabited

/-- A wall-bus frame as the MAC receives or sends it (R359, R364): addresses, EtherType, payload, whether the FCS is
good, its bytes on the wire as R360 counts them, and, where PLCA tells, the node whose transmit opportunity it occupies
and whether it is a second frame of that opportunity (R379). -/
structure Frame where
  dst : BitVec 48
  src : BitVec 48
  etype : BitVec 16
  payload : Bytes
  fcsOk : Bool := true
  wire : Nat
  opNode : Option (Fin 32) := none
  second : Bool := false
  deriving DecidableEq, Repr, Inhabited

/-- A staging message: an NVMSTAGE frame of the wall bus, or a STAGE wagon of Caravan (R470). -/
inductive StageMsg where
  | wallBus (f : Frame)
  | caravan (w : Wagon)
  deriving DecidableEq, Repr, Inhabited

/-- The header ECC of a CSI-2 packet (R380, R381). -/
inductive HdrEcc where
  | ok
  | corrected
  | bad
  deriving DecidableEq, Repr, Inhabited

/-- A CSI-2 packet header: virtual channel with its VCX bits, data type, word count (R380). -/
structure CsiHdr where
  vc : BitVec 4
  dtype : BitVec 6
  wc : BitVec 16
  ecc : HdrEcc := .ok
  deriving DecidableEq, Repr, Inhabited

/-- The result of the Concierge's AE and AWB on one statistics record (R395): the two white-balance registers and the
values for the AE script. -/
structure AeAwb where
  rg : Word
  bg : Word
  exposure : BitVec 16
  analog : BitVec 16
  digital : BitVec 16
  deriving DecidableEq, Repr, Inhabited

/-- What stands at the pins and the flash when reset is released: straps (R446), whether the PLLs lock (R464) and
whether the quad read of each slot completes (R455 cause 8); and the PHY write of the WALLBUS record that fails, if one
does (R357). -/
structure PorInput where
  tileId : BitVec 4 := 0
  bootSafe : Bool := false
  pllOk : Bool := true
  readOkA : Bool := true
  readOkB : Bool := true
  mdioFail : Option (Fin 32) := none
  deriving DecidableEq, Repr, Inhabited

/-- The commands, one constructor per row of the table of operations and events. -/
inductive Instr where
  /-- TICK (R18): At each tick of an output the tick service runs in order: aborts, half swap, context commit, counter increment, room frees, pending changes and the commit-status wagon. -/
  | tick (t : Nat) (o : Output) (hit : Option QueueHit)
  /-- TICK_SERVICE_END (R190): At t = +2 us the decode serial is fixed, the lead span rows are released and classes B, C and D resume. -/
  | tickServiceEnd (t : Nat) (o : Output)
  /-- SPAN_ROW_RELEASE (R14): A span row is released into the class A queue at the end of the transmit of the line whose ring slots it reuses. -/
  | spanRowRelease (t : Nat) (o : Output) (row : Nat)
  /-- TRACKING_CUTOFF (R369): At t = -400 us the position set for the coming tick is built from the latest accepted TRACK, with extrapolation. -/
  | trackingCutoff (t : Nat) (o : Output)
  /-- DECODE_CUTOFF (R20): At t = -250 us the frame is marked ready or not, and unfinished class B waybills of the output are aborted as LATE. -/
  | decodeCutoff (t : Nat) (o : Output)
  /-- CLASS_C_D_CUTOFF (R194): At t = -50 us running class C and D waybills of the output are aborted and queued class C entries return to data. -/
  | classCDCutoff (t : Nat) (o : Output)
  /-- SPAN_DISPATCH (R187): When an engine becomes free it receives a span of the earliest-deadline entry, from its own stripe or by stealing. -/
  | spanDispatch (t : Nat) (e : EngineId)
  /-- CLUSTER_LEAVE_SERVICE (R126): A cluster with a double-bit error in instruction memory or cache tags leaves service, and its spans trap CLUSTER_LOST. -/
  | clusterLeaveService (t : Nat) (cl : Cluster) (cause : LeaveCause)
  /-- NOP (R110): Does nothing. -/
  | nop (e : EngineId) (f : Form)
  /-- MOV (R110): Copies operand b to the destination vector register on active lanes. -/
  | mov (e : EngineId) (f : Form)
  /-- IADD (R110): Adds two integer operands modulo 2^32 per lane. -/
  | iadd (e : EngineId) (f : Form)
  /-- ISUB (R110): Subtracts integer operands modulo 2^32 per lane. -/
  | isub (e : EngineId) (f : Form)
  /-- IMUL (R110): Writes the low 32 bits of the integer product per lane. -/
  | imul (e : EngineId) (f : Form)
  /-- IMAD (R110): Adds the low 32 bits of a times b to the destination per lane. -/
  | imad (e : EngineId) (f : Form)
  /-- IMIN (R110): Signed minimum per lane. -/
  | imin (e : EngineId) (f : Form)
  /-- IMAX (R110): Signed maximum per lane. -/
  | imax (e : EngineId) (f : Form)
  /-- UMIN (R110): Unsigned minimum per lane. -/
  | umin (e : EngineId) (f : Form)
  /-- UMAX (R110): Unsigned maximum per lane. -/
  | umax (e : EngineId) (f : Form)
  /-- AND (R110): Bitwise AND per lane. -/
  | vand (e : EngineId) (f : Form)
  /-- OR (R110): Bitwise OR per lane. -/
  | vor (e : EngineId) (f : Form)
  /-- XOR (R110): Bitwise XOR per lane. -/
  | vxor (e : EngineId) (f : Form)
  /-- SHL (R110): Shifts left by b mod 32 per lane. -/
  | shl (e : EngineId) (f : Form)
  /-- SHR (R110): Logical shift right by b mod 32 per lane. -/
  | shr (e : EngineId) (f : Form)
  /-- SAR (R110): Arithmetic shift right by b mod 32 per lane. -/
  | sar (e : EngineId) (f : Form)
  /-- FADD (R97): fp32 addition per lane under the engine's rounding rules. -/
  | fadd (e : EngineId) (f : Form)
  /-- FSUB (R97): fp32 subtraction per lane. -/
  | fsub (e : EngineId) (f : Form)
  /-- FMUL (R97): fp32 multiplication per lane. -/
  | fmul (e : EngineId) (f : Form)
  /-- FMA (R110): fp32 fused multiply-add into the destination, rounded once. -/
  | fma (e : EngineId) (f : Form)
  /-- FMIN (R100): fp32 minimum with the engine's NaN and signed-zero rules. -/
  | fmin (e : EngineId) (f : Form)
  /-- FMAX (R100): fp32 maximum with the engine's NaN and signed-zero rules. -/
  | fmax (e : EngineId) (f : Form)
  /-- FABS (R110): Clears bit 31 of b. -/
  | fabs (e : EngineId) (f : Form)
  /-- FNEG (R110): Inverts bit 31 of b. -/
  | fneg (e : EngineId) (f : Form)
  /-- FFLOOR (R110): fp32 floor per lane. -/
  | ffloor (e : EngineId) (f : Form)
  /-- FFRAC (R110): fp32 fractional part per lane, never returning 1.0. -/
  | ffrac (e : EngineId) (f : Form)
  /-- FSAT (R110): Clamps an fp32 value to 0-1, with NaN giving +0. -/
  | fsat (e : EngineId) (f : Form)
  /-- HADD2 (R98): Packed fp16 addition. -/
  | hadd2 (e : EngineId) (f : Form)
  /-- HSUB2 (R98): Packed fp16 subtraction. -/
  | hsub2 (e : EngineId) (f : Form)
  /-- HMUL2 (R98): Packed fp16 multiplication. -/
  | hmul2 (e : EngineId) (f : Form)
  /-- HFMA2 (R98): Packed fp16 fused multiply-add. -/
  | hfma2 (e : EngineId) (f : Form)
  /-- HMIN2 (R100): Packed fp16 minimum. -/
  | hmin2 (e : EngineId) (f : Form)
  /-- HMAX2 (R100): Packed fp16 maximum. -/
  | hmax2 (e : EngineId) (f : Form)
  /-- I2F (R101): Converts a signed integer to fp32. -/
  | i2f (e : EngineId) (f : Form)
  /-- U2F (R101): Converts an unsigned integer to fp32. -/
  | u2f (e : EngineId) (f : Form)
  /-- F2I (R101): Converts fp32 to int32, truncating and saturating. -/
  | f2i (e : EngineId) (f : Form)
  /-- F2IF (R101): Converts fp32 to int32, rounding toward minus infinity. -/
  | f2if (e : EngineId) (f : Form)
  /-- F2IR (R101): Converts fp32 to int32, rounding to nearest even. -/
  | f2ir (e : EngineId) (f : Form)
  /-- H2F (R110): Converts the low fp16 half to fp32. -/
  | h2f (e : EngineId) (f : Form)
  /-- H2FH (R110): Converts the high fp16 half to fp32. -/
  | h2fh (e : EngineId) (f : Form)
  /-- F2H2 (R110): Packs two fp32 values into two fp16 halves. -/
  | f2h2 (e : EngineId) (f : Form)
  /-- ISEQ (R110): Sets predicate bits where a equals b. -/
  | iseq (e : EngineId) (f : Form)
  /-- ISNE (R110): Sets predicate bits where a differs from b. -/
  | isne (e : EngineId) (f : Form)
  /-- ISLT (R110): Signed less-than compare into a predicate. -/
  | islt (e : EngineId) (f : Form)
  /-- ISLE (R110): Signed less-or-equal compare into a predicate. -/
  | isle (e : EngineId) (f : Form)
  /-- IULT (R110): Unsigned less-than compare into a predicate. -/
  | iult (e : EngineId) (f : Form)
  /-- IULE (R110): Unsigned less-or-equal compare into a predicate. -/
  | iule (e : EngineId) (f : Form)
  /-- FSEQ (R100): fp32 ordered equality compare into a predicate. -/
  | fseq (e : EngineId) (f : Form)
  /-- FSNE (R100): fp32 inequality compare, true on NaN. -/
  | fsne (e : EngineId) (f : Form)
  /-- FSLT (R100): fp32 ordered less-than compare. -/
  | fslt (e : EngineId) (f : Form)
  /-- FSLE (R100): fp32 ordered less-or-equal compare. -/
  | fsle (e : EngineId) (f : Form)
  /-- PAND (R110): Predicate AND. -/
  | pand (e : EngineId) (f : Form)
  /-- POR (R110): Predicate OR. -/
  | por (e : EngineId) (f : Form)
  /-- PXOR (R110): Predicate XOR. -/
  | pxor (e : EngineId) (f : Form)
  /-- PANDN (R110): Predicate AND NOT. -/
  | pandn (e : EngineId) (f : Form)
  /-- PSET (R110): Sets a predicate from the low byte of a scalar. -/
  | pset (e : EngineId) (f : Form)
  /-- PGET (R110): Copies a predicate, zero-extended, into a scalar. -/
  | pget (e : EngineId) (f : Form)
  /-- SMOV (R110): Scalar move. -/
  | smov (e : EngineId) (f : Form)
  /-- SADD (R110): Scalar add. -/
  | sadd (e : EngineId) (f : Form)
  /-- SSUB (R110): Scalar subtract. -/
  | ssub (e : EngineId) (f : Form)
  /-- SMUL (R110): Scalar multiply, low 32 bits. -/
  | smul (e : EngineId) (f : Form)
  /-- SAND (R110): Scalar bitwise AND. -/
  | sand (e : EngineId) (f : Form)
  /-- SOR (R110): Scalar bitwise OR. -/
  | sor (e : EngineId) (f : Form)
  /-- SXOR (R110): Scalar bitwise XOR. -/
  | sxor (e : EngineId) (f : Form)
  /-- SSHL (R110): Scalar shift left. -/
  | sshl (e : EngineId) (f : Form)
  /-- SSHR (R110): Scalar logical shift right. -/
  | sshr (e : EngineId) (f : Form)
  /-- SSAR (R110): Scalar arithmetic shift right. -/
  | ssar (e : EngineId) (f : Form)
  /-- SMIN (R110): Scalar signed minimum. -/
  | smin (e : EngineId) (f : Form)
  /-- SMAX (R110): Scalar signed maximum. -/
  | smax (e : EngineId) (f : Form)
  /-- SSEQ (R110): Sets a scalar to 1 if a equals b, otherwise 0. -/
  | sseq (e : EngineId) (f : Form)
  /-- SSLT (R110): Sets a scalar to 1 if a < b signed, otherwise 0. -/
  | sslt (e : EngineId) (f : Form)
  /-- SSLTU (R110): Sets a scalar to 1 if a < b unsigned, otherwise 0. -/
  | ssltu (e : EngineId) (f : Form)
  /-- VLANE (R110): Writes each lane's number into the destination. -/
  | vlane (e : EngineId) (f : Form)
  /-- VEXT (R110): Extracts one lane of a vector register into a scalar. -/
  | vext (e : EngineId) (f : Form)
  /-- LDC (R121): Reads a word of the output constant table into a scalar, trapping CONST_RANGE at index 128 or more. -/
  | ldc (e : EngineId) (f : Form)
  /-- BRA (R112): Branches by its condition field to the word address plus imm. -/
  | bra (e : EngineId) (f : Form)
  /-- LOOP (R112): Decrements a scalar and branches while it is non-zero. -/
  | loop (e : EngineId) (f : Form)
  /-- END (R123): Waits for outstanding shared-unit work, checks every subpixel was written, and marks the span valid or raises INCOMPLETE. -/
  | endSpan (e : EngineId) (f : Form)
  /-- TRAP (R124): Raises the SOFT trap with code imm[15:0]. -/
  | trap (e : EngineId) (f : Form)
  /-- LDV (R111): Loads a local-memory word per lane, trapping LM_RANGE on a bad address. -/
  | ldv (e : EngineId) (f : Form)
  /-- STV (R111): Stores a vector register word per lane to local memory. -/
  | stv (e : EngineId) (f : Form)
  /-- LDS (R111): Loads a local-memory word into a scalar. -/
  | lds (e : EngineId) (f : Form)
  /-- STS (R111): Stores a scalar to local memory. -/
  | sts (e : EngineId) (f : Form)
  /-- RCP (R112): SFU reciprocal within 1 ulp. -/
  | rcp (e : EngineId) (f : Form)
  /-- RSQ (R112): SFU reciprocal square root within 1 ulp. -/
  | rsq (e : EngineId) (f : Form)
  /-- SQRT (R112): SFU correctly rounded square root. -/
  | sqrt (e : EngineId) (f : Form)
  /-- EXP2 (R112): SFU base-2 exponential within 2 ulp. -/
  | exp2 (e : EngineId) (f : Form)
  /-- LOG2 (R112): SFU base-2 logarithm. -/
  | log2 (e : EngineId) (f : Form)
  /-- SINP (R112): SFU sin(2 pi b). -/
  | sinp (e : EngineId) (f : Form)
  /-- COSP (R112): SFU cos(2 pi b). -/
  | cosp (e : EngineId) (f : Form)
  /-- CALQ (R113): Calibration query returning colour, centre, view-grid direction, lobes and warp gain for each lane's subpixel. -/
  | calq (e : EngineId) (f : Form)
  /-- SMPA (R114): Angular-bilinear view sample. -/
  | smpa (e : EngineId) (f : Form)
  /-- SMPS (R114): Spatial-bilinear view sample. -/
  | smps (e : EngineId) (f : Form)
  /-- SMPCD (R114): Colour and depth sample. -/
  | smpcd (e : EngineId) (f : Form)
  /-- SMPD (R114): Depth point sample. -/
  | smpd (e : EngineId) (f : Form)
  /-- OVL (R118): Overlay fetch of linearised colour and alpha from a plane's front buffer. -/
  | ovl (e : EngineId) (f : Form)
  /-- OUT (R119): Hands a linear value to the output unit, which formats it and writes the line-buffer entry. -/
  | out (e : EngineId) (f : Form)
  /-- SHARED_UNIT_RESULT (R109): A shared unit returns the result of an issued instruction into its destination registers. -/
  | sharedUnitResult (t : Nat) (e : EngineId) (unit : SharedUnit) (clk : Nat) (stall : Nat) (hit : UnitHit)
  /-- SPAN_WATCHDOG (R125): A span whose counted clocks exceed its budget traps WATCHDOG. -/
  | spanWatchdog (t : Nat) (e : EngineId) (clk : Nat) (hits : SoftHits)
  /-- VIEW_CACHE_FILL (R117): A view-cache line fill completes from DRAM through translation, or raises MAP or ECC in the waiting engines. -/
  | viewCacheFill (t : Nat) (cl : Cluster) (line : CacheKey) (errs : List WordErr) (evict : Option CacheKey) (tbl : Option Bool)
  /-- LEG_DISPATCH (R169): A free codec unit takes the oldest class B leg, checks it and claims its target, or fails it. -/
  | legDispatch (t : Nat) (u : CodecUnit) (lim : Option DecodeLimit)
  /-- CODEC_STALL_RESUME (R172): A stalled codec unit resumes once write-back space, compressed bytes or a DRAM source become available. -/
  | codecStallResume (t : Nat) (u : CodecUnit) (lim : Option DecodeLimit)
  /-- LEG_COMPLETE (R165): A leg that completes without error writes its context record into the chain's pending slot. -/
  | legComplete (t : Nat) (u : CodecUnit) (hit : Option WindowHit)
  /-- CAPTURE_ENCODE_START (R181): An encode-enabled unit starts a capture leg only if its charge completes before the output's -50 us cutoff. -/
  | captureEncodeStart (t : Nat) (u : CodecUnit)
  /-- CAPTURE_LEG_COMPLETE (R182): The encoder finishes a capture leg and its trailer is sent. -/
  | captureLegComplete (t : Nat) (u : CodecUnit) (blocks : Bytes) (blockCount : Nat)
  /-- UNIT_FREE_AFTER_ABORT (R195): An aborted waybill's unit drains and becomes free within 1 us. -/
  | unitFreeAfterAbort (t : Nat) (unit : WorkUnit)
  /-- QUEUE_ENTRY_ADMIT (R185): Work waiting for a full class quota enters the queue in ready order as entries free. -/
  | queueEntryAdmit (t : Nat) (cls : LowerClass)
  /-- OVERLAY_LIST_DISPATCH (R191): The blitter takes the next overlay list of an output in arrival order. -/
  | overlayListDispatch (t : Nat) (o : Output) (hit : Option (Fin 8))
  /-- STATIC_CARD_RENDER (R412): A static-card waybill draws the card into the card plane's back buffer. -/
  | staticCardRender (t : Nat) (o : Output) (hit : Option (Fin 8))
  /-- CARD_SHOW (R412): After card_after consecutive ticks without a swap, with no playlist playing, the card is scheduled and EV237 is raised. -/
  | cardShow (t : Nat) (o : Output)
  /-- STATISTICS_WAYBILL (R394): A class D statistics waybill writes a closed frame's histograms and zone means to TAP. -/
  | statisticsWaybill (t : Nat) (p : Port)
  /-- TOKEN_BUCKET_REFILL (R192): Every 1 us each lower-class bucket gains its rate in tokens up to its depth. -/
  | tokenBucketRefill (t : Nat)
  /-- AUTO_PLAYLIST_START (R213): After 8 consecutive ticks without a flip marker the automatic playlist of an output starts. -/
  | autoPlaylistStart (t : Nat) (o : Output)
  /-- LEG_INTAKE_STALL_RESUME (R207): Stalled VC1 intake resumes when a LEG room is freed. -/
  | legIntakeStallResume (t : Nat)
  /-- DRAM_READ (R220): A DRAM read completes, with single-bit errors corrected and written back and double-bit errors freezing. -/
  | dramRead (t : Nat) (req : Nat) (unit : Nat) (errs : List WordErr) (merge : Option MergeWrite) (tbl : Option TableHit)
  /-- REFRESH (R228): Each rank receives an all-bank REF every tREFI. -/
  | refresh (t : Nat) (c : Channel) (rank : Bool)
  /-- DRAM_TEMPERATURE_READ (R229): Every 32 ms after a REF the MPR temperature is read and the refresh granularity may change. -/
  | dramTemperatureRead (t : Nat) (c : Channel) (readings : List (Fin 3))
  /-- SCRUB (R222): Each channel reads its next 64-byte unit at the scrub rate, raising EV063 at the end of a pass. -/
  | scrub (t : Nat) (c : Channel) (errs : List WordErr)
  /-- SEC_INTERVAL (R223): At the end of each 1 s interval corrected-error counting restarts; EV048+c fires when the threshold is reached. -/
  | secInterval (t : Nat)
  /-- SELF_REFRESH_ENTRY (R232): An idle channel with no forecast class A demand issues SRE. -/
  | selfRefreshEntry (t : Nat) (c : Channel)
  /-- SELF_REFRESH_EXIT (R233): A request arriving in self-refresh causes SRX and is served within 1.2 us as a bounce. -/
  | selfRefreshExit (t : Nat) (c : Channel)
  /-- BOUNCE_INTERVAL (R234): At the end of each bounce interval SR_IDLE doubles or halves by the bounce count. -/
  | bounceInterval (t : Nat)
  /-- ALERT_N_PULSE (R240): An ALERT_n pulse is classified by width as write CRC or CA parity error. -/
  | alertNPulse (t : Nat) (c : Channel) (width : Nat) (cmd : DramCmd)
  /-- RETRY_COMPLETE (R243): A retry ends when its last command or burst has completed and its alert latency has passed. -/
  | retryComplete (t : Nat) (c : Channel)
  /-- FREEZE_PANEL_HOLD_EXPIRY (R247): FREEZE_PANEL_HOLD after a freeze the orderly panel power-off runs. -/
  | freezePanelHoldExpiry (t : Nat)
  /-- START (R249): Writing start with the key while frozen enters thaw and raises EV062. -/
  | thawStart (t : Nat) (path : Path) (v : Word)
  /-- GO (R249): Writing go in thaw reads the raw unit at DRC_THAW_ADDR with its check bytes and syndromes. -/
  | thawGo (t : Nat) (path : Path) (v : Word)
  /-- THAW_READ_COMPLETE (R249): A thaw read completes and done is set. -/
  | thawReadComplete (t : Nat) (flips : List WordErr)
  /-- LINE_SLOT_START (R253): At the start of a line slot each channel sends its LOAD, packet or idle, with the underrun decision taken from the valid bits. -/
  | lineSlotStart (t : Nat) (o : Output) (line : Nat) (echo : List (Fin 256)) (hit : Option Nat)
  /-- STATIC_DECISION (R281): At -250 us before a grid instant in static refresh the output decides whether the instant becomes a tick. -/
  | staticDecision (t : Nat) (o : Output)
  /-- GRID_INSTANT_SKIP (R282): A skipped grid instant causes no tick service but still pulses due FSYNCs. -/
  | gridInstantSkip (t : Nat) (o : Output)
  /-- RAIL_WAIT_DONE (R287): A power-sequence wait ends when the named rail readings lie in their windows or thresholds. -/
  | railWaitDone (t : Nat) (o : Output) (mv : RailMv)
  /-- RAIL_TIMEOUT (R287): A rail wait reaching its timeout raises EV144+o and power-off runs or continues. -/
  | railTimeout (t : Nat) (o : Output) (mv : RailMv)
  /-- CD_READY_TIMEOUT (R287): CD_READY not high within 10 ms raises EV149 and runs the orderly power-off. -/
  | cdReadyTimeout (t : Nat) (o : Output)
  /-- ABRUPT_LOSS (R289): PFAIL_N low or VDD_IO loss runs the fixed-time panel discharge and the power-side shutdown with a snapshot. -/
  | abruptLoss (t : Nat) (trig : LossTrigger)
  /-- HOP_BRING_UP (R308): A hop runs PRBS adaptation, block lock, deskew and HELLO exchange until it is up. -/
  | hopBringUp (t : Nat) (h : Hop) (res : List LaneTrain)
  /-- LANE_FOM_UPDATE (R299): Every 1 ms a receive lane updates its FOM and raises EV064+lane when it stays low. -/
  | laneFomUpdate (t : Nat) (lane : Lane) (fom : Byte) (ctle : BitVec 4)
  /-- BLOCK_LOCK_LOSS (R306): 16 invalid sync headers in 64 lose lock and take the hop down. -/
  | blockLockLoss (t : Nat) (lane : Lane)
  /-- CDR_LOCK_LOSS (R310): Loss of CDR lock on an RX lane takes its hop down. -/
  | cdrLockLoss (t : Nat) (lane : Lane)
  /-- WARM_RETRAIN (R310): A warm retrain runs bring-up steps 2-4 with equaliser settings kept, at most 2 ms. -/
  | warmRetrain (t : Nat) (h : Hop) (res : List LaneTrain)
  /-- COLD_BRING_UP_RETRY (R310): After 3 failed warm retrains a cold bring-up is tried every second. -/
  | coldBringUpRetry (t : Nat) (h : Hop) (res : List LaneTrain)
  /-- REFCLK_LOSS (R297): REFCLK outside its window for 10 us stops all lanes, takes both hops down and enters holdover. -/
  | refclkLoss (t : Nat) (ratio : Nat)
  /-- REFCLK_RESTORE (R297): REFCLK back in its window for 1 ms starts cold bring-up of both hops. -/
  | refclkRestore (t : Nat)
  /-- HELLO (R309): A received HELLO is checked for version, rate and role, and the hop comes up warm or with the link layer reset. -/
  | hello (t : Nat) (h : Hop) (w : Wagon)
  /-- HELLO_SEND (R309): Each end sends HELLO every 10 us during bring-up. -/
  | helloSend (t : Nat) (h : Hop)
  /-- LINK_STATE (R318): A received LINK_STATE updates acks and credit limits and, with NAK, starts a replay. -/
  | linkState (t : Nat) (h : Hop) (w : Wagon)
  /-- LINK_STATE_SEND (R318): The tile sends LINK_STATE at least every 0.5 us on every up hop. -/
  | linkStateSend (t : Nat) (h : Hop)
  /-- REPLAY_TIMEOUT (R328): With no ack progress for 50 us the sender resends from its oldest wagon and raises EV099. -/
  | replayTimeout (t : Nat) (h : Hop)
  /-- NAK_REPEAT (R327): While waiting for the expected sequence number the receiver repeats its NAK every 4 us. -/
  | nakRepeat (t : Nat) (h : Hop)
  /-- WAGON_TX_END (R319): At a wagon boundary the transmit group chooses the next wagon by VC priority and credit. -/
  | wagonTxEnd (t : Nat) (h : Hop)
  /-- SYNC (R348): A received SYNC updates the offset and servo and is relayed with its correction increased. -/
  | sync (t : Nat) (w : Wagon) (t2 : Nat) (te : Nat)
  /-- PDELAY_REQ (R349): A PDELAY_REQ received on DN_RX is answered with a one-step PDELAY_RESP. -/
  | pdelayReq (t : Nat) (w : Wagon) (t2 : Nat) (t3 : Nat)
  /-- PDELAY_RESP (R349): A PDELAY_RESP yields a link-delay sample that updates D_up. -/
  | pdelayResp (t : Nat) (w : Wagon) (t4 : Nat)
  /-- PDELAY_INTERVAL (R349): Every Pdelay interval the tile sends PDELAY_REQ on UP_TX. -/
  | pdelayInterval (t : Nat) (t1 : Nat)
  /-- PDELAY_MISS (R349): A request unanswered within 1 ms is missed, and EV116 fires after 3 in a row. -/
  | pdelayMiss (t : Nat)
  /-- HOLDOVER_ENTRY (R354): No valid SYNC for 4 Sync intervals freezes TIME_INC and raises EV113. -/
  | holdoverEntry (t : Nat)
  /-- LOCK_WAIT_EXPIRY (R352): At lock_wait without lock the outputs tick on TIME_NS as it stands and EV112 cause 3 is raised. -/
  | lockWaitExpiry (t : Nat)
  /-- LEG (R320): A LEG fragment received on UP_RX is extracted into LEG rooms, relayed, or both by its destination. -/
  | legWagon (t : Nat) (w : Wagon)
  /-- FLIP (R330): A FLIP item records the flip marker of an output and serial, or is discarded as a duplicate. -/
  | flipWagon (t : Nat) (w : Wagon)
  /-- OVERLAY (R398): An OVERLAY item stores an overlay command list for its output and serial. -/
  | overlayWagon (t : Nat) (w : Wagon)
  /-- STOCK (R333): A STOCK wagon writes data into one part of a stock room. -/
  | stockWagon (t : Nat) (w : Wagon)
  /-- COMPLAINT (R316): A COMPLAINT from the head on UP_RX VC2 is logged under EV102 cause 2 and not relayed. -/
  | complaintWagon (t : Nat) (w : Wagon)
  /-- RELAY_UP (R321): A VC2 wagon received on DN_RX is relayed on UP_TX with new seq and CRCs. -/
  | relayUp (t : Nat) (w : Wagon)
  /-- CRC_DN (R312): Sends the next sequenced wagon on DN_TX with a corrupted CRC-32C. -/
  | crcDn (t : Nat) (path : Path)
  /-- CRC_UP (R312): Sends the next sequenced wagon on UP_TX with a corrupted CRC-32C. -/
  | crcUp (t : Nat) (path : Path)
  /-- INJECT_ONE (R301): Inverts one bit of a lane's PRBS generator output. -/
  | injectOne (t : Nat) (path : Path) (lane : Lane)
  /-- SLIP (R306): Moves a lane's block boundary by 1 UI. -/
  | slip (t : Nat) (path : Path) (lane : Lane)
  /-- PRBS_ERROR_SECOND (R301): Once per second with checker errors in PRBS test a lane raises EV064+lane cause 6. -/
  | prbsErrorSecond (t : Nat) (lane : Lane) (n : Nat)
  /-- CLEAR (R125): Writing clear to ENG_SPAN_PEAK sets the output's peak to 0. -/
  | peakClear (t : Nat) (path : Path) (o : Output)
  /-- TRACK (R368): A TRACK message from a tracker is checked and held as a position set candidate. -/
  | track (t : Nat) (f : Frame)
  /-- LOGREQ (R372): A LOGREQ starts a LOGDATA answer from the requested Guestbook entry, ending any earlier answer. -/
  | logreq (t : Nat) (f : Frame)
  /-- LOGDATA (R372): One LOGDATA frame of up to 12 entries is sent per transmit opportunity. -/
  | logdata (t : Nat)
  /-- REGREAD (R373): A REGREAD reads up to 32 words and replies with a status and value per word. -/
  | regread (t : Nat) (f : Frame)
  /-- RESTART (R374): An authenticated COMMAND restart acts at once as RESET_N. -/
  | restart (t : Nat) (f : Frame)
  /-- SELECT_PLAYBACK (R213): An authenticated COMMAND starts a named playlist or stops playback at the tick given by R24. -/
  | selectPlayback (t : Nat) (f : Frame)
  /-- BRIGHTNESS_SCALE (R84): An authenticated COMMAND writes RAY_BRIGHT, effective at the next tick. -/
  | brightnessScale (t : Nat) (f : Frame)
  /-- STRANGER_FRAME (R361): A frame from a source not on the roster is counted and ignored. -/
  | strangerFrame (t : Nat) (f : Frame)
  /-- QUARANTINE_END (R377): After 10 s a quarantined node's frames are accepted again. -/
  | quarantineEnd (t : Nat) (node : Fin 32)
  /-- STATUS_PERIODIC (R367): Every status_n ticks, or every 100 ms with no output, a STATUS goes out on the wall bus and up UP_TX. -/
  | statusPeriodic (t : Nat)
  /-- STATUS_PUSH (R367): An event routed to a STATUS push causes a push within 1 ms, at most one every 10 ms. -/
  | statusPush (t : Nat)
  /-- PLCA_STATUS_CHANGE (R358): A change of PLCA status switches between PLCA and CSMA/CD and raises EV120. -/
  | plcaStatusChange (t : Nat) (ok : Bool)
  /-- BOUND_RESTORE (R379): After 1 s without a voiding case the bound void state clears. -/
  | boundRestore (t : Nat)
  /-- BEGIN (R472): Opens a staging session for an image of given length and seq, choosing staging area or target. -/
  | stageBegin (t : Nat) (m : StageMsg)
  /-- DATA (R472): Programs staged image bytes at the expected offset. -/
  | stageData (t : Nat) (m : StageMsg) (flashOk : Bool)
  /-- COMMIT (R472): Checks the staged image and copies it into the target slot with the header written last. -/
  | stageCommit (t : Nat) (m : StageMsg)
  /-- COMMIT_COMPLETE (R472): COMMIT answers once the target header has been read back, raising EV251. -/
  | commitComplete (t : Nat) (flashOk : Bool)
  /-- ABORT (R470): Ends the open staging session. -/
  | stageAbort (t : Nat) (m : StageMsg)
  /-- QUERY (R471): Returns the state of the staging session. -/
  | stageQuery (t : Nat) (m : StageMsg)
  /-- SESSION_TIMEOUT (R472): A staging session with no message for 10 s is aborted. -/
  | sessionTimeout (t : Nat)
  /-- FRAME_BOUNDARY (R384): At every fsync_div-th grid instant a port pulses FSYNC and its capture frame counter increments. -/
  | frameBoundary (t : Nat) (p : Port)
  /-- FRAME_START (R386): A Frame Start opens the capture frame or closes an open one as MALFORMED, and applies pending white-balance gains. -/
  | frameStart (t : Nat) (p : Port) (hdr : CsiHdr)
  /-- FRAME_END (R386): A Frame End closes the capture frame with the lines received and its marks. -/
  | frameEnd (t : Nat) (p : Port) (hdr : CsiHdr)
  /-- LINE_START (R380): A Line Start short packet is accepted and ignored. -/
  | lineStart (t : Nat) (p : Port) (hdr : CsiHdr)
  /-- LINE_END (R380): A Line End short packet is accepted and ignored. -/
  | lineEnd (t : Nat) (p : Port) (hdr : CsiHdr)
  /-- LONG_PACKET (R381): A long packet is checked and stored as a line in the port's buffer, or discarded. -/
  | longPacket (t : Nat) (p : Port) (hdr : CsiHdr) (payload : Bytes) (crc : BitVec 16)
  /-- ISP_LINE_TAKE (R388): The ISP takes one whole line from the next port in round-robin order. -/
  | ispLineTake (t : Nat) (hit : Option IspHit)
  /-- ISP_LINE_DONE (R390): A line completes the pipeline stages and is written to the capture frame and taps. -/
  | ispLineDone (t : Nat)
  /-- TAP_SEND (R394): A tap buffer of a closed frame is sent up UP_TX as one TAP item once VC2 credit allows. -/
  | tapSend (t : Nat) (p : Port) (tap : Fin 4)
  /-- AE_AWB_UPDATE (R395): Concierge runs AE and AWB on a statistics record, issues the AE script and writes white-balance gains. -/
  | aeAwbUpdate (t : Nat) (p : Port) (ae : AeAwb)
  /-- INIT_RETRY (R387): A failed port runs INIT again every 1 s until it succeeds. -/
  | initRetry (t : Nat) (p : Port)
  /-- COPY (R406): Copies a rectangle element by element in the chosen direction. -/
  | copy (t : Nat)
  /-- FILL (R399): Fills a rectangle with a colour. -/
  | fill (t : Nat)
  /-- BLEND (R403): Blends a source over the destination by straight-alpha src-over. -/
  | blend (t : Nat)
  /-- KEY (R404): Writes source pixels that differ from the key under the mask. -/
  | key (t : Nat)
  /-- GLYPH (R405): Expands A1 or A8 coverage into foreground and background colours. -/
  | glyph (t : Nat)
  /-- SLEEP_REQUEST (R420): A sleep group prepares its members and commits to the target state, or ends REFUSED. -/
  | sleepRequest (t : Nat) (g : SleepGroup)
  /-- PREPARE_TIMEOUT (R420): A member that has not replied 10 us into prepare counts as refusing. -/
  | prepareTimeout (t : Nat) (g : SleepGroup)
  /-- DOMAIN_TRANSITION_COMPLETE (R416): A domain's state change, including any reload, completes. -/
  | domainTransitionComplete (t : Nat) (pd : Domain)
  /-- WARN_CROSSING (R426): A rail below WARN for 100 ns starts or continues a brace that halves the engine clock. -/
  | warnCrossing (t : Nat) (m : Monitor) (mv : Nat)
  /-- BRACE_SNAPSHOT (R426): A brace still below WARN after 50 us requests one Strongbox snapshot. -/
  | braceSnapshot (t : Nat)
  /-- BRACE_END (R426): After 100 us above WARN plus hysteresis the clock is restored and EV208+m is raised. -/
  | braceEnd (t : Nat)
  /-- BRACE_ALERT_CLEAR (R428): The brace alert clears after 10 s without more than 16 braces in any 1 s. -/
  | braceAlertClear (t : Nat)
  /-- RESET_CROSSING (R429): A rail below RESET for 1 us leads to the action for that rail and raises EV208+m. -/
  | resetCrossing (t : Nat) (m : Monitor) (mv : Nat)
  /-- RAIL_RECOVERY (R429): A lane or CSI rail above WARN for 1 ms restarts its lanes or camera domain. -/
  | railRecovery (t : Nat) (m : Monitor)
  /-- HOUSEKEEPING_ROUND (R433): Every 1.024 ms the ADC completes a round of sensor, monitor and AIN readings that drive the thermal and band policies. -/
  | housekeepingRound (t : Nat) (ch : List Int)
  /-- HOLDOFF_EXPIRY (R438): 30 s after the latest sensor failure throttle releases are allowed again. -/
  | holdoffExpiry (t : Nat)
  /-- POWER_ON_RESET (R504): Reset is released once every rail has been above WARN and PFAIL_N high for 10 ms. -/
  | powerOnReset (t : Nat) (por : PorInput)
  /-- RESET_N (R445): RESET_N low for 1 us resets the device after the orderly power-off of every powered output. -/
  | resetN (t : Nat)
  /-- EVENT_WRITE (R476): The router writes the lowest-stamped pending raise and its routing byte acts. -/
  | eventWrite (t : Nat)
  /-- SNAPSHOT_WRITE (R487): A queued snapshot trigger starts writing a slot of the Strongbox. -/
  | snapshotWrite (t : Nat)
  /-- SNAPSHOT_COMPLETE (R489): A snapshot write completes and is verified, raising EV253 or EV254. -/
  | snapshotComplete (t : Nat) (ok : Bool)
  /-- SNAP (R484): Writing snap to SBX_CTRL requests a snapshot of kind 8. -/
  | snap (t : Nat) (path : Path) (v : Word)
  /-- CLEAR_KEEP (R486): Writing clear_keep with the key unmarks every kept slot. -/
  | clearKeep (t : Nat) (path : Path) (v : Word)
  /-- ID (R491): Service-port command returning CFG_CHIP_ID. -/
  | svcId (t : Nat)
  /-- READ (R491): Service-port command reading consecutive words, each with a status. -/
  | svcRead (t : Nat) (addr : Nat) (n : Nat)
  /-- WRITE (R492): Service-port command writing whole words, refused while the port is locked. -/
  | svcWrite (t : Nat) (addr : Nat) (data : Bytes)
  /-- WSTAT (R491): Service-port command returning the status of the last word written. -/
  | svcWstat (t : Nat)
  /-- SVC_UNLOCK (R492): Writing the key unlocks the service port, and any other value raises EV255 cause 2. -/
  | svcUnlock (t : Nat) (v : Word)
  /-- SERVICE_PORT_RELOCK (R492): The port locks again after 1 s without a frame. -/
  | servicePortRelock (t : Nat)
  /-- EVT_INJECT (R494): Raises the named event with argument 0 and the injected flag. -/
  | evtInject (t : Nat) (path : Path) (v : Word)
  /-- EVT_FAULT_CLEAR (R478): A W1C write clears EVT_FAULT bits and releases FAULT_N when none remain. -/
  | evtFaultClear (t : Nat) (path : Path) (i : Fin 8) (v : Word)
  /-- LOW_WORD_READ (R7): Reading the low word of a 64-bit pair latches the high word into the access path's shadow. -/
  | lowWordRead (t : Nat) (path : Path) (addr : Nat)
  /-- HIGH_WORD_WRITE (R8): Writing the high word of a writable pair applies it with the last low word written on that path. -/
  | highWordWrite (t : Nat) (path : Path) (addr : Nat) (v : Word)
  /-- REGISTER_WRITE (R9): A write to a register without its own row applies its access codes, after the width, range and domain checks. -/
  | registerWrite (t : Nat) (path : Path) (addr : Nat) (width : Nat) (v : Word)
  /-- CONCIERGE_WATCHDOG (R496): Watchdog expiry raises EV252, takes a kind 7 snapshot and acts as RESET_N. -/
  | conciergeWatchdog (t : Nat) (pc : Word)
  /-- CD_READY_RISE (R287): OUTo_CD_READY going high ends the TRAIN phase of power-on step 5 and lets the sequence continue to discharge. -/
  | cdReadyRise (t : Nat) (o : Output)
  /-- PANEL_SEQUENCE_TIME_EXPIRY (R288): A fixed-time stage of a panel power sequence ends (1 ms training, clear_time, 1 ms IDLE, t_eq, t_gh, t_gl) and the next stage starts. -/
  | panelSequenceTimeExpiry (t : Nat) (o : Output)
  /-- DRAM_TRAINING_COMPLETE (R235): Training of the DRAM channels ends, after retries, with pass or R238 failure, and the start continues with the room plan, Itinerary copy and admission. -/
  | dramTrainingComplete (t : Nat) (res : List ChannelTrain)
  /-- COLLISION_SEEN (R379): A collision signalled on the MII COL line voids the TRACK bound and raises EV123. -/
  | collisionSeen (t : Nat)
  /-- CCI_TRANSACTION_DONE (R387): A sensor-script CCI transaction, wait or poll completes or times out, and the script advances, succeeds with EV152 cause 5, or counts a failed transaction. -/
  | cciTransactionDone (t : Nat) (p : Port) (ack : Bool) (value : BitVec 16)
  /-- UNKNOWN_COMMAND_BYTE (R491): An unknown service-port command byte is ignored until SVC_CS_N rises, and EV255 is raised with cause 3. -/
  | unknownCommandByte (t : Nat) (b : Byte)
  /-- PRBS_TEST_ENABLE (R301): Writing a non-zero LPH_PRBS mode starts PRBS test on the lane and restarts its error count, taking the hop down if it was up. -/
  | prbsTestEnable (t : Nat) (path : Path) (lane : Lane) (v : Word)
  deriving DecidableEq, Repr

end Sys2Proof
end

