-- ==== Sys2Proof/WellFormed.lean ====
section
/-!
DEFINITION. Which commands are well formed: the operand rules of the engine's instruction words (R102, R103, R110, R112)
and the sizes that the operands of the other commands have by their own chapters.
-/
namespace Sys2Proof

/-- The operand shapes of the engine's instructions (R95, R103, R110): which fields an instruction uses, which of them name
vector, scalar or predicate registers, and whether it has a 64-bit form. -/
inductive Shape where
  /-- NOP, END: no field. -/
  | plain
  /-- Guarded, d, a and b; 64-bit form allowed. -/
  | vab
  /-- Guarded, d and b. -/
  | vb
  /-- Guarded compare into p[d]. -/
  | cmp
  /-- Predicate logic on p[d], p[a], p[b]. -/
  | pred
  /-- PSET. -/
  | pset
  /-- PGET. -/
  | pget
  /-- Scalar d, a, b. -/
  | sab
  /-- SMOV. -/
  | sb
  /-- VLANE. -/
  | vlane
  /-- VEXT. -/
  | vext
  /-- LDC. -/
  | ldc
  /-- BRA. -/
  | bra
  /-- LOOP. -/
  | loop
  /-- TRAP. -/
  | trap
  /-- LDV, STV. -/
  | lvec
  /-- LDS, STS. -/
  | lscal
  /-- CALQ. -/
  | calq
  /-- SMPA. -/
  | smpa
  /-- SMPS. -/
  | smps
  /-- SMPCD. -/
  | smpcd
  /-- SMPD. -/
  | smpd
  /-- OVL. -/
  | ovl
  /-- OUT. -/
  | outp
  deriving DecidableEq, Repr

/-- pg = 0 and pn = 0 (R95). -/
def Form.unguarded (f : Form) : Bool := f.pg == 0 && !f.pn

/-- Operand a of a vector instruction: a scalar operand has a number below 32 (R103). -/
def Form.aOk (f : Form) : Bool := !f.as || decide (f.a.val < 32)

/-- Operand b of a vector instruction, or the immediate in its place, with fields b and bs 0 (R103). -/
def Form.bOk (f : Form) : Bool :=
  if f.imm.isSome then f.b == 0 && !f.bs else !f.bs || decide (f.b.val < 32)

/-- Operand b of a scalar instruction, or the immediate in its place (R103). -/
def Form.sbOk (f : Form) : Bool := if f.imm.isSome then f.b == 0 else decide (f.b.val < 32)

/-- as = 0 and bs = 0. -/
def Form.noScalars (f : Form) : Bool := !f.as && !f.bs

/-- a = 0 and as = 0: the instruction does not use operand a. -/
def Form.aZero (f : Form) : Bool := f.a == 0 && !f.as

/-- b = 0 and bs = 0: the instruction does not use operand b. -/
def Form.bZero (f : Form) : Bool := f.b == 0 && !f.bs

/-- May a predicate register be written: 1 to 7 (R93, R103)? -/
def Form.predDest (f : Form) : Bool := decide (0 < f.d.val) && decide (f.d.val < 8)

/-- R103 for one shape, with the condition field of BRA (R112), the plane number of OVL (R118) and the lane number of
VEXT (R110). Where an operation names a block v[r] … of several registers, its scalar bit is not used and must be 0;
the single colour operand of a sample and the single value of OUT follow the general rule (assumption log 10). -/
def Shape.ok (sh : Shape) (f : Form) : Bool :=
  match sh with
  | .plain => f.unguarded && f.d == 0 && f.aZero && f.bZero && f.imm.isNone
  | .vab => f.aOk && f.bOk
  | .vb => f.aZero && f.bOk
  | .cmp => f.predDest && f.aOk && f.bOk
  | .pred => f.unguarded && f.predDest && decide (f.a.val < 8) && decide (f.b.val < 8) && f.noScalars && f.imm.isNone
  | .pset => f.unguarded && f.predDest && decide (f.a.val < 32) && f.noScalars && f.b == 0 && f.imm.isNone
  | .pget => f.unguarded && decide (f.d.val < 32) && decide (f.a.val < 8) && f.noScalars && f.b == 0 && f.imm.isNone
  | .sab => f.unguarded && decide (f.d.val < 32) && decide (f.a.val < 32) && f.noScalars && f.sbOk
  | .sb => f.unguarded && decide (f.d.val < 32) && f.aZero && f.noScalars && f.sbOk
  | .vlane => f.aZero && f.bZero && f.imm.isNone
  | .vext => f.unguarded && decide (f.d.val < 32) && f.noScalars && decide (f.b.val < 8) && f.imm.isNone
  | .ldc => f.unguarded && decide (f.d.val < 32) && decide (f.a.val < 32) && f.noScalars && f.b == 0
  | .bra =>
    f.unguarded && f.noScalars && f.b == 0 && f.imm.isSome &&
      (if f.d.val = 0 then f.a == 0
       else if f.d.val ≤ 2 then decide (f.a.val < 32)
       else decide (f.d.val ≤ 5) && decide (f.a.val < 8))
  | .loop => f.unguarded && f.d == 0 && decide (f.a.val < 32) && f.noScalars && f.b == 0 && f.imm.isSome
  | .trap => f.unguarded && f.d == 0 && f.aZero && f.bZero && f.imm.isSome
  | .lvec => f.aOk && f.bZero
  | .lscal => f.unguarded && decide (f.d.val < 32) && decide (f.a.val < 32) && f.noScalars && f.b == 0
  | .calq => decide (f.d.val ≤ 56) && decide (f.a.val ≤ 62) && !f.as && f.bZero && f.imm.isNone
  | .smpa => decide (f.a.val ≤ 60) && !f.as && f.bOk && f.imm.isNone
  | .smps => decide (f.a.val ≤ 61) && !f.as && f.bOk && f.imm.isNone
  | .smpcd => decide (f.d.val ≤ 62) && decide (f.a.val ≤ 61) && !f.as && f.bOk && f.imm.isNone
  | .smpd => decide (f.a.val ≤ 61) && !f.as && f.bZero && f.imm.isNone
  | .ovl => decide (f.d.val ≤ 62) && decide (f.a.val ≤ 61) && !f.as && !f.bs && decide (f.b.val < 4) && f.imm.isNone
  | .outp => f.d == 0 && f.aOk && decide (f.b.val ≤ 62) && !f.bs && f.imm.isNone

/-- The opcode, the shape and the form of an engine instruction (R110); none for the other commands. -/
def Instr.engineForm : Instr → Option (Nat × Shape × Form)
  | .tick _ _ _ => none
  | .tickServiceEnd _ _ => none
  | .spanRowRelease _ _ _ => none
  | .trackingCutoff _ _ => none
  | .decodeCutoff _ _ => none
  | .classCDCutoff _ _ => none
  | .spanDispatch _ _ => none
  | .clusterLeaveService _ _ _ => none
  | .nop _ f => some (0x00, .plain, f)
  | .mov _ f => some (0x01, .vb, f)
  | .iadd _ f => some (0x02, .vab, f)
  | .isub _ f => some (0x03, .vab, f)
  | .imul _ f => some (0x04, .vab, f)
  | .imad _ f => some (0x05, .vab, f)
  | .imin _ f => some (0x06, .vab, f)
  | .imax _ f => some (0x07, .vab, f)
  | .umin _ f => some (0x08, .vab, f)
  | .umax _ f => some (0x09, .vab, f)
  | .vand _ f => some (0x0A, .vab, f)
  | .vor _ f => some (0x0B, .vab, f)
  | .vxor _ f => some (0x0C, .vab, f)
  | .shl _ f => some (0x0D, .vab, f)
  | .shr _ f => some (0x0E, .vab, f)
  | .sar _ f => some (0x0F, .vab, f)
  | .fadd _ f => some (0x10, .vab, f)
  | .fsub _ f => some (0x11, .vab, f)
  | .fmul _ f => some (0x12, .vab, f)
  | .fma _ f => some (0x13, .vab, f)
  | .fmin _ f => some (0x14, .vab, f)
  | .fmax _ f => some (0x15, .vab, f)
  | .fabs _ f => some (0x16, .vb, f)
  | .fneg _ f => some (0x17, .vb, f)
  | .ffloor _ f => some (0x18, .vb, f)
  | .ffrac _ f => some (0x19, .vb, f)
  | .fsat _ f => some (0x1A, .vb, f)
  | .hadd2 _ f => some (0x20, .vab, f)
  | .hsub2 _ f => some (0x21, .vab, f)
  | .hmul2 _ f => some (0x22, .vab, f)
  | .hfma2 _ f => some (0x23, .vab, f)
  | .hmin2 _ f => some (0x24, .vab, f)
  | .hmax2 _ f => some (0x25, .vab, f)
  | .i2f _ f => some (0x28, .vb, f)
  | .u2f _ f => some (0x29, .vb, f)
  | .f2i _ f => some (0x2A, .vb, f)
  | .f2if _ f => some (0x2B, .vb, f)
  | .f2ir _ f => some (0x2C, .vb, f)
  | .h2f _ f => some (0x2D, .vb, f)
  | .h2fh _ f => some (0x2E, .vb, f)
  | .f2h2 _ f => some (0x2F, .vab, f)
  | .iseq _ f => some (0x30, .cmp, f)
  | .isne _ f => some (0x31, .cmp, f)
  | .islt _ f => some (0x32, .cmp, f)
  | .isle _ f => some (0x33, .cmp, f)
  | .iult _ f => some (0x34, .cmp, f)
  | .iule _ f => some (0x35, .cmp, f)
  | .fseq _ f => some (0x36, .cmp, f)
  | .fsne _ f => some (0x37, .cmp, f)
  | .fslt _ f => some (0x38, .cmp, f)
  | .fsle _ f => some (0x39, .cmp, f)
  | .pand _ f => some (0x3A, .pred, f)
  | .por _ f => some (0x3B, .pred, f)
  | .pxor _ f => some (0x3C, .pred, f)
  | .pandn _ f => some (0x3D, .pred, f)
  | .pset _ f => some (0x3E, .pset, f)
  | .pget _ f => some (0x3F, .pget, f)
  | .smov _ f => some (0x40, .sb, f)
  | .sadd _ f => some (0x41, .sab, f)
  | .ssub _ f => some (0x42, .sab, f)
  | .smul _ f => some (0x43, .sab, f)
  | .sand _ f => some (0x44, .sab, f)
  | .sor _ f => some (0x45, .sab, f)
  | .sxor _ f => some (0x46, .sab, f)
  | .sshl _ f => some (0x47, .sab, f)
  | .sshr _ f => some (0x48, .sab, f)
  | .ssar _ f => some (0x49, .sab, f)
  | .smin _ f => some (0x4A, .sab, f)
  | .smax _ f => some (0x4B, .sab, f)
  | .sseq _ f => some (0x4C, .sab, f)
  | .sslt _ f => some (0x4D, .sab, f)
  | .ssltu _ f => some (0x4E, .sab, f)
  | .vlane _ f => some (0x50, .vlane, f)
  | .vext _ f => some (0x51, .vext, f)
  | .ldc _ f => some (0x52, .ldc, f)
  | .bra _ f => some (0x58, .bra, f)
  | .loop _ f => some (0x59, .loop, f)
  | .endSpan _ f => some (0x5A, .plain, f)
  | .trap _ f => some (0x5B, .trap, f)
  | .ldv _ f => some (0x60, .lvec, f)
  | .stv _ f => some (0x61, .lvec, f)
  | .lds _ f => some (0x62, .lscal, f)
  | .sts _ f => some (0x63, .lscal, f)
  | .rcp _ f => some (0x68, .vb, f)
  | .rsq _ f => some (0x69, .vb, f)
  | .sqrt _ f => some (0x6A, .vb, f)
  | .exp2 _ f => some (0x6B, .vb, f)
  | .log2 _ f => some (0x6C, .vb, f)
  | .sinp _ f => some (0x6D, .vb, f)
  | .cosp _ f => some (0x6E, .vb, f)
  | .calq _ f => some (0x70, .calq, f)
  | .smpa _ f => some (0x71, .smpa, f)
  | .smps _ f => some (0x72, .smps, f)
  | .smpcd _ f => some (0x73, .smpcd, f)
  | .smpd _ f => some (0x74, .smpd, f)
  | .ovl _ f => some (0x75, .ovl, f)
  | .out _ f => some (0x76, .outp, f)
  | .sharedUnitResult _ _ _ _ _ _ => none
  | .spanWatchdog _ _ _ _ => none
  | .viewCacheFill _ _ _ _ _ _ => none
  | .legDispatch _ _ _ => none
  | .codecStallResume _ _ _ => none
  | .legComplete _ _ _ => none
  | .captureEncodeStart _ _ => none
  | .captureLegComplete _ _ _ _ => none
  | .unitFreeAfterAbort _ _ => none
  | .queueEntryAdmit _ _ => none
  | .overlayListDispatch _ _ _ => none
  | .staticCardRender _ _ _ => none
  | .cardShow _ _ => none
  | .statisticsWaybill _ _ => none
  | .tokenBucketRefill _ => none
  | .autoPlaylistStart _ _ => none
  | .legIntakeStallResume _ => none
  | .dramRead _ _ _ _ _ _ => none
  | .refresh _ _ _ => none
  | .dramTemperatureRead _ _ _ => none
  | .scrub _ _ _ => none
  | .secInterval _ => none
  | .selfRefreshEntry _ _ => none
  | .selfRefreshExit _ _ => none
  | .bounceInterval _ => none
  | .alertNPulse _ _ _ _ => none
  | .retryComplete _ _ => none
  | .freezePanelHoldExpiry _ => none
  | .thawStart _ _ _ => none
  | .thawGo _ _ _ => none
  | .thawReadComplete _ _ => none
  | .lineSlotStart _ _ _ _ _ => none
  | .staticDecision _ _ => none
  | .gridInstantSkip _ _ => none
  | .railWaitDone _ _ _ => none
  | .railTimeout _ _ _ => none
  | .cdReadyTimeout _ _ => none
  | .abruptLoss _ _ => none
  | .hopBringUp _ _ _ => none
  | .laneFomUpdate _ _ _ _ => none
  | .blockLockLoss _ _ => none
  | .cdrLockLoss _ _ => none
  | .warmRetrain _ _ _ => none
  | .coldBringUpRetry _ _ _ => none
  | .refclkLoss _ _ => none
  | .refclkRestore _ => none
  | .hello _ _ _ => none
  | .helloSend _ _ => none
  | .linkState _ _ _ => none
  | .linkStateSend _ _ => none
  | .replayTimeout _ _ => none
  | .nakRepeat _ _ => none
  | .wagonTxEnd _ _ => none
  | .sync _ _ _ _ => none
  | .pdelayReq _ _ _ _ => none
  | .pdelayResp _ _ _ => none
  | .pdelayInterval _ _ => none
  | .pdelayMiss _ => none
  | .holdoverEntry _ => none
  | .lockWaitExpiry _ => none
  | .legWagon _ _ => none
  | .flipWagon _ _ => none
  | .overlayWagon _ _ => none
  | .stockWagon _ _ => none
  | .complaintWagon _ _ => none
  | .relayUp _ _ => none
  | .crcDn _ _ => none
  | .crcUp _ _ => none
  | .injectOne _ _ _ => none
  | .slip _ _ _ => none
  | .prbsErrorSecond _ _ _ => none
  | .peakClear _ _ _ => none
  | .track _ _ => none
  | .logreq _ _ => none
  | .logdata _ => none
  | .regread _ _ => none
  | .restart _ _ => none
  | .selectPlayback _ _ => none
  | .brightnessScale _ _ => none
  | .strangerFrame _ _ => none
  | .quarantineEnd _ _ => none
  | .statusPeriodic _ => none
  | .statusPush _ => none
  | .plcaStatusChange _ _ => none
  | .boundRestore _ => none
  | .stageBegin _ _ => none
  | .stageData _ _ _ => none
  | .stageCommit _ _ => none
  | .commitComplete _ _ => none
  | .stageAbort _ _ => none
  | .stageQuery _ _ => none
  | .sessionTimeout _ => none
  | .frameBoundary _ _ => none
  | .frameStart _ _ _ => none
  | .frameEnd _ _ _ => none
  | .lineStart _ _ _ => none
  | .lineEnd _ _ _ => none
  | .longPacket _ _ _ _ _ => none
  | .ispLineTake _ _ => none
  | .ispLineDone _ => none
  | .tapSend _ _ _ => none
  | .aeAwbUpdate _ _ _ => none
  | .initRetry _ _ => none
  | .copy _ => none
  | .fill _ => none
  | .blend _ => none
  | .key _ => none
  | .glyph _ => none
  | .sleepRequest _ _ => none
  | .prepareTimeout _ _ => none
  | .domainTransitionComplete _ _ => none
  | .warnCrossing _ _ _ => none
  | .braceSnapshot _ => none
  | .braceEnd _ => none
  | .braceAlertClear _ => none
  | .resetCrossing _ _ _ => none
  | .railRecovery _ _ => none
  | .housekeepingRound _ _ => none
  | .holdoffExpiry _ => none
  | .powerOnReset _ _ => none
  | .resetN _ => none
  | .eventWrite _ => none
  | .snapshotWrite _ => none
  | .snapshotComplete _ _ => none
  | .snap _ _ _ => none
  | .clearKeep _ _ _ => none
  | .svcId _ => none
  | .svcRead _ _ _ => none
  | .svcWrite _ _ _ => none
  | .svcWstat _ => none
  | .svcUnlock _ _ => none
  | .servicePortRelock _ => none
  | .evtInject _ _ _ => none
  | .evtFaultClear _ _ _ _ => none
  | .lowWordRead _ _ _ => none
  | .highWordWrite _ _ _ _ => none
  | .registerWrite _ _ _ _ _ => none
  | .conciergeWatchdog _ _ => none
  | .cdReadyRise _ _ => none
  | .panelSequenceTimeExpiry _ _ => none
  | .dramTrainingComplete _ _ => none
  | .collisionSeen _ => none
  | .cciTransactionDone _ _ _ _ => none
  | .unknownCommandByte _ _ => none
  | .prbsTestEnable _ _ _ _ => none

/-- A view-cache line: 64-byte line of a space of at most 2^32 bytes (R196). -/
def keyOk (k : CacheKey) : Bool := decide (k.line < 2 ^ 26)

/-- ECC findings name each word of the unit at most once (R220). -/
def errsOk (l : List WordErr) : Bool := decide (l.length ≤ 8) && decide ((l.map (·.word)).Nodup)

/-- A write within one 64-byte unit (R221). -/
def mergeOk (m : MergeWrite) : Bool := decide (m.offset + m.data.length ≤ 64)

/-- A wagon has a 16-byte header, a payload of a 16-bit length and a 4-byte CRC (R311). -/
def wagonOk (w : Wagon) : Bool := decide (20 ≤ w.bytes.length) && decide (w.bytes.length < 65556)

/-- A wall-bus frame as it stands on the wire: preamble, addresses, EtherType, payload, FCS and gap (R359, R360). -/
def frameOk (f : Frame) : Bool := decide (f.payload.length ≤ 2000) && f.wire == f.payload.length + 38

/-- A staging message, in either of its carriers (R470). -/
def stageOk : StageMsg → Bool
  | .wallBus f => frameOk f
  | .caravan w => wagonOk w

/-- The sizes of the operands of the commands that are no engine instructions. -/
def Instr.operandsOk : Instr → Bool
  | .tick _ _ _ => true
  | .tickServiceEnd _ _ => true
  | .spanRowRelease _ _ _ => true
  | .trackingCutoff _ _ => true
  | .decodeCutoff _ _ => true
  | .classCDCutoff _ _ => true
  | .spanDispatch _ _ => true
  | .clusterLeaveService _ _ _ => true
  | .sharedUnitResult _ _ _ _ _ h => h.line.all keyOk
  | .spanWatchdog _ _ _ h => h.lost.all fun n => decide (n < 16384)
  | .viewCacheFill _ _ l errs ev _ => keyOk l && errsOk errs && ev.all keyOk
  | .legDispatch _ _ _ => true
  | .codecStallResume _ _ _ => true
  | .legComplete _ _ _ => true
  | .captureEncodeStart _ _ => true
  | .captureLegComplete _ _ _ n => decide (n < 65536)
  | .unitFreeAfterAbort _ _ => true
  | .queueEntryAdmit _ _ => true
  | .overlayListDispatch _ _ _ => true
  | .staticCardRender _ _ _ => true
  | .cardShow _ _ => true
  | .statisticsWaybill _ _ => true
  | .tokenBucketRefill _ => true
  | .autoPlaylistStart _ _ => true
  | .legIntakeStallResume _ => true
  | .dramRead _ req unit errs m _ => decide (req < 64) && decide (unit < 2 ^ 31) && errsOk errs && m.all mergeOk
  | .refresh _ _ _ => true
  | .dramTemperatureRead _ _ r => decide (r.length ≤ 2)
  | .scrub _ _ errs => errsOk errs
  | .secInterval _ => true
  | .selfRefreshEntry _ _ => true
  | .selfRefreshExit _ _ => true
  | .bounceInterval _ => true
  | .alertNPulse _ _ _ cmd => decide (cmd.phys < 2 ^ 37)
  | .retryComplete _ _ => true
  | .freezePanelHoldExpiry _ => true
  | .thawStart _ _ _ => true
  | .thawGo _ _ _ => true
  | .thawReadComplete _ flips => errsOk flips
  | .lineSlotStart _ _ _ _ _ => true
  | .staticDecision _ _ => true
  | .gridInstantSkip _ _ => true
  | .railWaitDone _ _ _ => true
  | .railTimeout _ _ _ => true
  | .cdReadyTimeout _ _ => true
  | .abruptLoss _ _ => true
  | .hopBringUp _ _ r => decide (r.length = 16)
  | .laneFomUpdate _ _ _ _ => true
  | .blockLockLoss _ _ => true
  | .cdrLockLoss _ _ => true
  | .warmRetrain _ _ r => decide (r.length = 16)
  | .coldBringUpRetry _ _ r => decide (r.length = 16)
  | .refclkLoss _ _ => true
  | .refclkRestore _ => true
  | .hello _ _ w => wagonOk w
  | .helloSend _ _ => true
  | .linkState _ _ w => wagonOk w
  | .linkStateSend _ _ => true
  | .replayTimeout _ _ => true
  | .nakRepeat _ _ => true
  | .wagonTxEnd _ _ => true
  | .sync _ w _ te => wagonOk w && decide (te < 2 ^ 16)
  | .pdelayReq _ w _ _ => wagonOk w
  | .pdelayResp _ w _ => wagonOk w
  | .pdelayInterval _ _ => true
  | .pdelayMiss _ => true
  | .holdoverEntry _ => true
  | .lockWaitExpiry _ => true
  | .legWagon _ w => wagonOk w
  | .flipWagon _ w => wagonOk w
  | .overlayWagon _ w => wagonOk w
  | .stockWagon _ w => wagonOk w
  | .complaintWagon _ w => wagonOk w
  | .relayUp _ w => wagonOk w
  | .crcDn _ _ => true
  | .crcUp _ _ => true
  | .injectOne _ _ _ => true
  | .slip _ _ _ => true
  | .prbsErrorSecond _ _ _ => true
  | .peakClear _ _ _ => true
  | .track _ f => frameOk f
  | .logreq _ f => frameOk f
  | .logdata _ => true
  | .regread _ f => frameOk f
  | .restart _ f => frameOk f
  | .selectPlayback _ f => frameOk f
  | .brightnessScale _ f => frameOk f
  | .strangerFrame _ f => frameOk f
  | .quarantineEnd _ _ => true
  | .statusPeriodic _ => true
  | .statusPush _ => true
  | .plcaStatusChange _ _ => true
  | .boundRestore _ => true
  | .stageBegin _ m => stageOk m
  | .stageData _ m _ => stageOk m
  | .stageCommit _ m => stageOk m
  | .commitComplete _ _ => true
  | .stageAbort _ m => stageOk m
  | .stageQuery _ m => stageOk m
  | .sessionTimeout _ => true
  | .frameBoundary _ _ => true
  | .frameStart _ _ _ => true
  | .frameEnd _ _ _ => true
  | .lineStart _ _ _ => true
  | .lineEnd _ _ _ => true
  | .longPacket _ _ h p _ => decide (p.length = h.wc.toNat)
  | .ispLineTake _ h => h.all fun x => x.store || decide (x.alcove.val < 2)
  | .ispLineDone _ => true
  | .tapSend _ _ _ => true
  | .aeAwbUpdate _ _ _ => true
  | .initRetry _ _ => true
  | .copy _ => true
  | .fill _ => true
  | .blend _ => true
  | .key _ => true
  | .glyph _ => true
  | .sleepRequest _ _ => true
  | .prepareTimeout _ _ => true
  | .domainTransitionComplete _ _ => true
  | .warnCrossing _ _ mv => decide (mv < 4096)
  | .braceSnapshot _ => true
  | .braceEnd _ => true
  | .braceAlertClear _ => true
  | .resetCrossing _ _ mv => decide (mv < 4096)
  | .railRecovery _ _ => true
  | .housekeepingRound _ ch => decide (ch.length = 56)
  | .holdoffExpiry _ => true
  | .powerOnReset _ _ => true
  | .resetN _ => true
  | .eventWrite _ => true
  | .snapshotWrite _ => true
  | .snapshotComplete _ _ => true
  | .snap _ _ _ => true
  | .clearKeep _ _ _ => true
  | .svcId _ => true
  | .svcRead _ a n => decide (a < 2 ^ 32) && decide (n < 256)
  | .svcWrite _ a d => decide (a < 2 ^ 32) && decide (d.length ≤ 1020)
  | .svcWstat _ => true
  | .svcUnlock _ _ => true
  | .servicePortRelock _ => true
  | .evtInject _ _ _ => true
  | .evtFaultClear _ _ _ _ => true
  | .lowWordRead _ _ a => decide (a < 2 ^ 32)
  | .highWordWrite _ _ a _ => decide (a < 2 ^ 32)
  | .registerWrite _ _ a n _ => decide (a < 2 ^ 32) && (n == 8 || n == 16 || n == 32)
  | .conciergeWatchdog _ _ => true
  | .cdReadyRise _ _ => true
  | .panelSequenceTimeExpiry _ _ => true
  | .dramTrainingComplete _ r => decide (r.length ≤ 8)
  | .collisionSeen _ => true
  | .cciTransactionDone _ _ _ _ => true
  | .unknownCommandByte _ _ => true
  | .prbsTestEnable _ _ _ _ => true
  | .nop _ _ => true
  | .mov _ _ => true
  | .iadd _ _ => true
  | .isub _ _ => true
  | .imul _ _ => true
  | .imad _ _ => true
  | .imin _ _ => true
  | .imax _ _ => true
  | .umin _ _ => true
  | .umax _ _ => true
  | .vand _ _ => true
  | .vor _ _ => true
  | .vxor _ _ => true
  | .shl _ _ => true
  | .shr _ _ => true
  | .sar _ _ => true
  | .fadd _ _ => true
  | .fsub _ _ => true
  | .fmul _ _ => true
  | .fma _ _ => true
  | .fmin _ _ => true
  | .fmax _ _ => true
  | .fabs _ _ => true
  | .fneg _ _ => true
  | .ffloor _ _ => true
  | .ffrac _ _ => true
  | .fsat _ _ => true
  | .hadd2 _ _ => true
  | .hsub2 _ _ => true
  | .hmul2 _ _ => true
  | .hfma2 _ _ => true
  | .hmin2 _ _ => true
  | .hmax2 _ _ => true
  | .i2f _ _ => true
  | .u2f _ _ => true
  | .f2i _ _ => true
  | .f2if _ _ => true
  | .f2ir _ _ => true
  | .h2f _ _ => true
  | .h2fh _ _ => true
  | .f2h2 _ _ => true
  | .iseq _ _ => true
  | .isne _ _ => true
  | .islt _ _ => true
  | .isle _ _ => true
  | .iult _ _ => true
  | .iule _ _ => true
  | .fseq _ _ => true
  | .fsne _ _ => true
  | .fslt _ _ => true
  | .fsle _ _ => true
  | .pand _ _ => true
  | .por _ _ => true
  | .pxor _ _ => true
  | .pandn _ _ => true
  | .pset _ _ => true
  | .pget _ _ => true
  | .smov _ _ => true
  | .sadd _ _ => true
  | .ssub _ _ => true
  | .smul _ _ => true
  | .sand _ _ => true
  | .sor _ _ => true
  | .sxor _ _ => true
  | .sshl _ _ => true
  | .sshr _ _ => true
  | .ssar _ _ => true
  | .smin _ _ => true
  | .smax _ _ => true
  | .sseq _ _ => true
  | .sslt _ _ => true
  | .ssltu _ _ => true
  | .vlane _ _ => true
  | .vext _ _ => true
  | .ldc _ _ => true
  | .bra _ _ => true
  | .loop _ _ => true
  | .endSpan _ _ => true
  | .trap _ _ => true
  | .ldv _ _ => true
  | .stv _ _ => true
  | .lds _ _ => true
  | .sts _ _ => true
  | .rcp _ _ => true
  | .rsq _ _ => true
  | .sqrt _ _ => true
  | .exp2 _ _ => true
  | .log2 _ _ => true
  | .sinp _ _ => true
  | .cosp _ _ => true
  | .calq _ _ => true
  | .smpa _ _ => true
  | .smps _ _ => true
  | .smpcd _ _ => true
  | .smpd _ _ => true
  | .ovl _ _ => true
  | .out _ _ => true

/-- Well-formed commands: an engine instruction keeps R103 and its opcode's rules; any other command's operands have the
sizes of their chapters. -/
def Instr.wf (i : Instr) : Bool :=
  match i.engineForm with
  | some (_, sh, f) => sh.ok f
  | none => i.operandsOk

end Sys2Proof
end

