-- ==== Sys2Proof/Decode.lean ====
section
/-!
DEFINITION. Words and commands. The table of commands gives no bits to any row, so no word spells a command; the engine's
own instruction words (R102, R103, R110) are decoded and encoded here for the program loader (R129) and for fetching.
-/
namespace Sys2Proof

/-- The command that a word spells by the bits of the table of commands: the table gives no row any bits, so none. -/
def decodeTableWord (_nbits _w : Nat) : Option Instr := none

/-- The instruction of an opcode (R110); none for the values that the opcode table leaves out. -/
def ofOpcode (op : Nat) (e : EngineId) (f : Form) : Option Instr :=
  match op with
  | 0x00 => some (.nop e f)
  | 0x01 => some (.mov e f)
  | 0x02 => some (.iadd e f)
  | 0x03 => some (.isub e f)
  | 0x04 => some (.imul e f)
  | 0x05 => some (.imad e f)
  | 0x06 => some (.imin e f)
  | 0x07 => some (.imax e f)
  | 0x08 => some (.umin e f)
  | 0x09 => some (.umax e f)
  | 0x0A => some (.vand e f)
  | 0x0B => some (.vor e f)
  | 0x0C => some (.vxor e f)
  | 0x0D => some (.shl e f)
  | 0x0E => some (.shr e f)
  | 0x0F => some (.sar e f)
  | 0x10 => some (.fadd e f)
  | 0x11 => some (.fsub e f)
  | 0x12 => some (.fmul e f)
  | 0x13 => some (.fma e f)
  | 0x14 => some (.fmin e f)
  | 0x15 => some (.fmax e f)
  | 0x16 => some (.fabs e f)
  | 0x17 => some (.fneg e f)
  | 0x18 => some (.ffloor e f)
  | 0x19 => some (.ffrac e f)
  | 0x1A => some (.fsat e f)
  | 0x20 => some (.hadd2 e f)
  | 0x21 => some (.hsub2 e f)
  | 0x22 => some (.hmul2 e f)
  | 0x23 => some (.hfma2 e f)
  | 0x24 => some (.hmin2 e f)
  | 0x25 => some (.hmax2 e f)
  | 0x28 => some (.i2f e f)
  | 0x29 => some (.u2f e f)
  | 0x2A => some (.f2i e f)
  | 0x2B => some (.f2if e f)
  | 0x2C => some (.f2ir e f)
  | 0x2D => some (.h2f e f)
  | 0x2E => some (.h2fh e f)
  | 0x2F => some (.f2h2 e f)
  | 0x30 => some (.iseq e f)
  | 0x31 => some (.isne e f)
  | 0x32 => some (.islt e f)
  | 0x33 => some (.isle e f)
  | 0x34 => some (.iult e f)
  | 0x35 => some (.iule e f)
  | 0x36 => some (.fseq e f)
  | 0x37 => some (.fsne e f)
  | 0x38 => some (.fslt e f)
  | 0x39 => some (.fsle e f)
  | 0x3A => some (.pand e f)
  | 0x3B => some (.por e f)
  | 0x3C => some (.pxor e f)
  | 0x3D => some (.pandn e f)
  | 0x3E => some (.pset e f)
  | 0x3F => some (.pget e f)
  | 0x40 => some (.smov e f)
  | 0x41 => some (.sadd e f)
  | 0x42 => some (.ssub e f)
  | 0x43 => some (.smul e f)
  | 0x44 => some (.sand e f)
  | 0x45 => some (.sor e f)
  | 0x46 => some (.sxor e f)
  | 0x47 => some (.sshl e f)
  | 0x48 => some (.sshr e f)
  | 0x49 => some (.ssar e f)
  | 0x4A => some (.smin e f)
  | 0x4B => some (.smax e f)
  | 0x4C => some (.sseq e f)
  | 0x4D => some (.sslt e f)
  | 0x4E => some (.ssltu e f)
  | 0x50 => some (.vlane e f)
  | 0x51 => some (.vext e f)
  | 0x52 => some (.ldc e f)
  | 0x58 => some (.bra e f)
  | 0x59 => some (.loop e f)
  | 0x5A => some (.endSpan e f)
  | 0x5B => some (.trap e f)
  | 0x60 => some (.ldv e f)
  | 0x61 => some (.stv e f)
  | 0x62 => some (.lds e f)
  | 0x63 => some (.sts e f)
  | 0x68 => some (.rcp e f)
  | 0x69 => some (.rsq e f)
  | 0x6A => some (.sqrt e f)
  | 0x6B => some (.exp2 e f)
  | 0x6C => some (.log2 e f)
  | 0x6D => some (.sinp e f)
  | 0x6E => some (.cosp e f)
  | 0x70 => some (.calq e f)
  | 0x71 => some (.smpa e f)
  | 0x72 => some (.smps e f)
  | 0x73 => some (.smpcd e f)
  | 0x74 => some (.smpd e f)
  | 0x75 => some (.ovl e f)
  | 0x76 => some (.out e f)
  | _ => none

/-- Bit 31 of a base word: the 64-bit form (R102). -/
def isLong (w : Word) : Bool := w.toNat / 2 ^ 31 % 2 == 1

/-- The fields of a base word (R102), with the immediate that follows a 64-bit form. -/
def formOfWord (w : Word) (imm : Option Word) : Form :=
  { pg := Fin.ofNat 8 (w.toNat / 2 ^ 21)
    pn := w.toNat / 2 ^ 20 % 2 == 1
    d := Fin.ofNat 64 (w.toNat / 2 ^ 14)
    a := Fin.ofNat 64 (w.toNat / 2 ^ 8)
    b := Fin.ofNat 64 (w.toNat / 2 ^ 2)
    as := w.toNat / 2 % 2 == 1
    bs := w.toNat % 2 == 1
    imm }

/-- The instruction of engine e that words spell, and how many words it takes: one, or two in the 64-bit form. None for
what raises ILLEGAL (R110), and for a 64-bit form whose second word is missing. -/
def decodeEngine (e : EngineId) (ws : List Word) : Option (Instr × Nat) :=
  match ws with
  | [] => none
  | w :: rest =>
    let op := w.toNat / 2 ^ 24 % 128
    let found (imm : Option Word) (n : Nat) : Option (Instr × Nat) :=
      match ofOpcode op e (formOfWord w imm) with
      | some i => if i.wf then some (i, n) else none
      | none => none
    if isLong w then
      match rest with
      | [] => none
      | imm :: _ => found (some imm) 2
    else found none 1

/-- The base word of an opcode and its fields (R102). -/
def wordOfForm (op : Nat) (f : Form) : Word :=
  BitVec.ofNat 32 (
    (if f.imm.isSome then 2 ^ 31 else 0) + op * 2 ^ 24 + f.pg.val * 2 ^ 21 + (if f.pn then 2 ^ 20 else 0) +
      f.d.val * 2 ^ 14 + f.a.val * 2 ^ 8 + f.b.val * 2 ^ 2 + (if f.as then 2 else 0) + (if f.bs then 1 else 0))

/-- The words of an engine instruction (R102); none for the other commands. -/
def encodeEngine (i : Instr) : Option (List Word) :=
  match i.engineForm with
  | some (op, _, f) => some (wordOfForm op f :: f.imm.toList)
  | none => none

end Sys2Proof
end

