-- ==== Sys2Proof/Machine/Bits.lean ====
section
/-!
DEFINITION. Bit fields, byte order and signs: the small helpers that every chapter's layouts use.
-/
namespace Sys2Proof.Machine

/-- The field [hi:lo] of a number. -/
def bits (n hi lo : Nat) : Nat := (n / 2 ^ lo) % 2 ^ (hi + 1 - lo)

/-- Bit i of a number. -/
def bit (n i : Nat) : Bool := n.testBit i

/-- The word with its field [hi:lo] replaced by the low bits of v. -/
def setBits (w : Word) (hi lo v : Nat) : Word :=
  let m := (2 ^ (hi + 1 - lo) - 1) * 2 ^ lo
  (w &&& ~~~(BitVec.ofNat 32 m)) ||| (BitVec.ofNat 32 (v * 2 ^ lo) &&& BitVec.ofNat 32 m)

/-- Bool as a number. -/
def b2n (b : Bool) : Nat := if b then 1 else 0

/-- A number of `w` bits read in two's complement. -/
def signedOf (w n : Nat) : Int :=
  if 2 ^ (w - 1) ≤ n % 2 ^ w then (n % 2 ^ w : Nat) - (2 ^ w : Nat) else ((n % 2 ^ w : Nat) : Int)

/-- A signed number as the `w`-bit two's complement pattern. -/
def patternOf (w : Nat) (i : Int) : Nat := (i % (2 ^ w : Nat)).toNat

/-- The number that bytes spell with the lowest address least significant (R2). -/
def leNat : Bytes → Nat
  | [] => 0
  | b :: bs => b.toNat + 256 * leNat bs

/-- The number that bytes spell with the lowest address most significant (R346). -/
def beNat (bs : Bytes) : Nat := leNat bs.reverse

/-- n as k bytes, least significant first. -/
def toLe : Nat → Nat → Bytes
  | 0, _ => []
  | k + 1, n => BitVec.ofNat 8 n :: toLe k (n / 256)

/-- n as k bytes, most significant first. -/
def toBe (k n : Nat) : Bytes := (toLe k n).reverse

/-- The bytes [at, at + n). -/
def slice (bs : Bytes) (pos n : Nat) : Bytes := (bs.drop pos).take n

/-- `bs` with the bytes of `v` in place of its own from `pos` on. -/
def splice (bs : Bytes) (pos : Nat) (v : Bytes) : Bytes := bs.take pos ++ v ++ bs.drop (pos + v.length)

/-- The little-endian number of n bytes at `pos`. -/
def leAt (bs : Bytes) (pos n : Nat) : Nat := leNat (slice bs pos n)

/-- The big-endian number of n bytes at `pos`. -/
def beAt (bs : Bytes) (pos n : Nat) : Nat := beNat (slice bs pos n)

/-- The signed little-endian number of n bytes at `pos`. -/
def leSigned (bs : Bytes) (pos n : Nat) : Int := signedOf (8 * n) (leAt bs pos n)

/-- Are the n bytes at `pos` all zero? -/
def zeroAt (bs : Bytes) (pos n : Nat) : Bool := (slice bs pos n).all (· == 0)

/-- n zero bytes. -/
def zeros (n : Nat) : Bytes := List.replicate n 0

/-- A sum that stops at 2^w − 1 (every saturating counter of the manual). -/
def satAdd (w a b : Nat) : Nat := min (a + b) (2 ^ w - 1)

/-- ceil(a / b). -/
def ceilDiv (a b : Nat) : Nat := (a + b - 1) / b

/-- a divided by b rounded to the nearest integer, halves up. -/
def roundDiv (a b : Nat) : Nat := (2 * a + b) / (2 * b)

/-- An integer divided by a positive number rounded to nearest, halves up. -/
def roundDivInt (a : Int) (b : Nat) : Int := (2 * a + b) / (2 * (b : Int))

/-- Is serial a above serial b (R190, R456): (a − b) mod 2³² in 1 … 2³¹ − 1. -/
def serialAbove (a b : Word) : Bool :=
  let d := (a - b).toNat
  1 ≤ d && d ≤ 2 ^ 31 - 1

end Sys2Proof.Machine
end

