-- ==== Sys2Proof/Machine/Crc.lean ====
section
/-!
DEFINITION. The three cyclic redundancy checks of the manual: CRC-16 (R262, also R311), CRC-32C (R312), CRC-32 (R453,
R487); and the CSI-2 payload CRC-16.
-/
namespace Sys2Proof.Machine

/-- One bit of a reflected CRC of width w. -/
def crcStepR {w : Nat} (poly c : BitVec w) : BitVec w :=
  if c.getLsbD 0 then (c >>> 1) ^^^ poly else c >>> 1

/-- One byte of a reflected CRC. -/
def crcByteR {w : Nat} (poly c : BitVec w) (b : Byte) : BitVec w :=
  (List.range 8).foldl (fun c _ => crcStepR poly c) (c ^^^ b.setWidth w)

/-- One byte of the CRC-16 of R262: polynomial 0x1021, each byte most significant bit first. -/
def crc16Byte (c : BitVec 16) (b : Byte) : BitVec 16 :=
  (List.range 8).foldl (fun c _ => if c.getLsbD 15 then (c <<< 1) ^^^ 0x1021 else c <<< 1)
    (c ^^^ ((b.setWidth 16) <<< 8))

/-- CRC-16 of R262: initial value 0xFFFF, no reflection, no final inversion. -/
def crc16 (bs : Bytes) : BitVec 16 := bs.foldl crc16Byte 0xFFFF

/-- CRC-32C of R312: Castagnoli 0x1EDC_6F41 reflected, initial value all ones, final inversion. -/
def crc32c (bs : Bytes) : Word := ~~~(bs.foldl (crcByteR 0x82F63B78) 0xFFFFFFFF)

/-- CRC-32 of R453: 0x04C1_1DB7 reflected, initial value all ones, final inversion. -/
def crc32 (bs : Bytes) : Word := ~~~(bs.foldl (crcByteR 0xEDB88320) 0xFFFFFFFF)

/-- The payload CRC-16 of CSI-2 (R380 names the CSI-2 standard: x¹⁶ + x¹² + x⁵ + 1 reflected, initial value all ones).
PRESUMED from that standard (assumption log 8). -/
def crcCsi (bs : Bytes) : BitVec 16 := bs.foldl (crcByteR 0x8408) 0xFFFF

end Sys2Proof.Machine
end

