-- ==== Sys2Proof/Machine/RegMap.lean ====
section
/-!
DEFINITION. The register map (R2–R11): every register of the 22 blocks with its address, its fields, their access codes and
their reset values, from the chapters' register tables. Field names are the manual's.
-/
namespace Sys2Proof.Machine

/-- Access codes (R9). -/
inductive Acc where
  | rw
  | ro
  | w1c
  | wo
  deriving DecidableEq, Repr

/-- A field of a register: bits [hi:lo], access, reset value. -/
structure FieldDesc where
  hi : Nat
  lo : Nat
  acc : Acc
  rst : Nat
  deriving DecidableEq, Repr

/-- A register, or an array of `count` registers `stride` bytes apart, at an offset of its block. -/
structure RegDesc where
  base : Nat
  stride : Nat
  count : Nat
  fields : List FieldDesc
  deriving DecidableEq, Repr

/-- A named field: the address of its register and its bits. -/
structure RegField where
  addr : Nat
  hi : Nat
  lo : Nat
  deriving DecidableEq, Repr

/-- PWR_EACC_SERIAL (spec/01_frame_cycle.md). -/
def PWR_EACC_SERIAL : Nat := 0x40010800
def PWR_EACC_SERIAL_serial : RegField := ⟨PWR_EACC_SERIAL, 31, 0⟩
/-- PWR_EACC_RAYS_LO (spec/01_frame_cycle.md). -/
def PWR_EACC_RAYS_LO : Nat := 0x40010804
def PWR_EACC_RAYS_LO_rays_lo : RegField := ⟨PWR_EACC_RAYS_LO, 31, 0⟩
/-- PWR_EACC_RAYS_HI (spec/01_frame_cycle.md). -/
def PWR_EACC_RAYS_HI : Nat := 0x40010808
def PWR_EACC_RAYS_HI_rays_hi : RegField := ⟨PWR_EACC_RAYS_HI, 31, 0⟩
/-- PWR_EACC_TOTAL (spec/01_frame_cycle.md). -/
def PWR_EACC_TOTAL : Nat := 0x4001080C
def PWR_EACC_TOTAL_total_uj : RegField := ⟨PWR_EACC_TOTAL, 31, 0⟩
/-- PWR_EACC_PER_RAY (spec/01_frame_cycle.md). -/
def PWR_EACC_PER_RAY : Nat := 0x40010810
def PWR_EACC_PER_RAY_no_rays : RegField := ⟨PWR_EACC_PER_RAY, 16, 16⟩
def PWR_EACC_PER_RAY_pj_per_ray : RegField := ⟨PWR_EACC_PER_RAY, 15, 0⟩
/-- PWR_EACC_BLOCK (spec/01_frame_cycle.md). -/
def PWR_EACC_BLOCK (i : Nat) : Nat := 0x40010820 + 0x4 * i
def PWR_EACC_BLOCK_block_uj (i : Nat) : RegField := ⟨PWR_EACC_BLOCK i, 31, 0⟩
/-- RAY_OUT_CFG (spec/02_ray_rendering.md). -/
def RAY_OUT_CFG (i : Nat) : Nat := 0x400C0000 + 0x100 * i
def RAY_OUT_CFG_prog (i : Nat) : RegField := ⟨RAY_OUT_CFG i, 17, 16⟩
def RAY_OUT_CFG_lens_array (i : Nat) : RegField := ⟨RAY_OUT_CFG i, 12, 12⟩
def RAY_OUT_CFG_out8 (i : Nat) : RegField := ⟨RAY_OUT_CFG i, 8, 8⟩
def RAY_OUT_CFG_dither (i : Nat) : RegField := ⟨RAY_OUT_CFG i, 7, 6⟩
def RAY_OUT_CFG_layout (i : Nat) : RegField := ⟨RAY_OUT_CFG i, 5, 4⟩
def RAY_OUT_CFG_tracked (i : Nat) : RegField := ⟨RAY_OUT_CFG i, 2, 2⟩
def RAY_OUT_CFG_mode (i : Nat) : RegField := ⟨RAY_OUT_CFG i, 1, 0⟩
/-- RAY_BRIGHT (spec/02_ray_rendering.md). -/
def RAY_BRIGHT (i : Nat) : Nat := 0x400C0004 + 0x100 * i
def RAY_BRIGHT_scale (i : Nat) : RegField := ⟨RAY_BRIGHT i, 15, 0⟩
/-- RAY_TRACK_STAT (spec/02_ray_rendering.md). -/
def RAY_TRACK_STAT (i : Nat) : Nat := 0x400C0008 + 0x100 * i
def RAY_TRACK_STAT_stale (i : Nat) : RegField := ⟨RAY_TRACK_STAT i, 16, 16⟩
def RAY_TRACK_STAT_age (i : Nat) : RegField := ⟨RAY_TRACK_STAT i, 15, 8⟩
def RAY_TRACK_STAT_eyes_used (i : Nat) : RegField := ⟨RAY_TRACK_STAT i, 4, 0⟩
/-- RAY_SPAN_FAIL (spec/02_ray_rendering.md). -/
def RAY_SPAN_FAIL (i : Nat) : Nat := 0x400C000C + 0x100 * i
def RAY_SPAN_FAIL_count (i : Nat) : RegField := ⟨RAY_SPAN_FAIL i, 31, 0⟩
/-- RAY_BAND_LUT (spec/02_ray_rendering.md). -/
def RAY_BAND_LUT (i : Nat) : Nat := 0x400C0010 + 0x100 * i
def RAY_BAND_LUT_lut_set (i : Nat) : RegField := ⟨RAY_BAND_LUT i, 2, 0⟩
/-- RAY_OVL_CTRL (spec/02_ray_rendering.md). -/
def RAY_OVL_CTRL (i : Nat) : Nat := 0x400C0014 + 0x100 * i
def RAY_OVL_CTRL_depth_test (i : Nat) : RegField := ⟨RAY_OVL_CTRL i, 11, 8⟩
def RAY_OVL_CTRL_enable (i : Nat) : RegField := ⟨RAY_OVL_CTRL i, 7, 4⟩
def RAY_OVL_CTRL_front (i : Nat) : RegField := ⟨RAY_OVL_CTRL i, 3, 0⟩
/-- RAY_CAL_USED (spec/02_ray_rendering.md). -/
def RAY_CAL_USED : Nat := 0x400C0800
def RAY_CAL_USED_bytes : RegField := ⟨RAY_CAL_USED, 23, 0⟩
/-- ENG_CL_STAT (spec/03_ray_engine_isa.md). -/
def ENG_CL_STAT (i : Nat) : Nat := 0x400D0000 + 0x10 * i
def ENG_CL_STAT_sec_count (i : Nat) : RegField := ⟨ENG_CL_STAT i, 31, 16⟩
def ENG_CL_STAT_cause (i : Nat) : RegField := ⟨ENG_CL_STAT i, 7, 4⟩
def ENG_CL_STAT_out (i : Nat) : RegField := ⟨ENG_CL_STAT i, 0, 0⟩
/-- ENG_CL_TRAPS (spec/03_ray_engine_isa.md). -/
def ENG_CL_TRAPS (i : Nat) : Nat := 0x400D0004 + 0x10 * i
def ENG_CL_TRAPS_count (i : Nat) : RegField := ⟨ENG_CL_TRAPS i, 31, 0⟩
/-- ENG_CL_LAST (spec/03_ray_engine_isa.md). -/
def ENG_CL_LAST (i : Nat) : Nat := 0x400D0008 + 0x10 * i
def ENG_CL_LAST_code (i : Nat) : RegField := ⟨ENG_CL_LAST i, 31, 28⟩
def ENG_CL_LAST_engine (i : Nat) : RegField := ⟨ENG_CL_LAST i, 27, 24⟩
def ENG_CL_LAST_output (i : Nat) : RegField := ⟨ENG_CL_LAST i, 23, 22⟩
def ENG_CL_LAST_slot (i : Nat) : RegField := ⟨ENG_CL_LAST i, 21, 20⟩
def ENG_CL_LAST_span (i : Nat) : RegField := ⟨ENG_CL_LAST i, 19, 0⟩
/-- ENG_CL_LASTPC (spec/03_ray_engine_isa.md). -/
def ENG_CL_LASTPC (i : Nat) : Nat := 0x400D000C + 0x10 * i
def ENG_CL_LASTPC_soft_code (i : Nat) : RegField := ⟨ENG_CL_LASTPC i, 31, 16⟩
def ENG_CL_LASTPC_pc (i : Nat) : RegField := ⟨ENG_CL_LASTPC i, 12, 0⟩
/-- ENG_PROG_INFO (spec/03_ray_engine_isa.md). -/
def ENG_PROG_INFO (i : Nat) : Nat := 0x400D0400 + 0x8 * i
def ENG_PROG_INFO_present (i : Nat) : RegField := ⟨ENG_PROG_INFO i, 31, 31⟩
def ENG_PROG_INFO_view (i : Nat) : RegField := ⟨ENG_PROG_INFO i, 30, 30⟩
def ENG_PROG_INFO_depth (i : Nat) : RegField := ⟨ENG_PROG_INFO i, 29, 29⟩
def ENG_PROG_INFO_tracked (i : Nat) : RegField := ⟨ENG_PROG_INFO i, 28, 28⟩
def ENG_PROG_INFO_slots (i : Nat) : RegField := ⟨ENG_PROG_INFO i, 27, 24⟩
def ENG_PROG_INFO_cost (i : Nat) : RegField := ⟨ENG_PROG_INFO i, 23, 16⟩
def ENG_PROG_INFO_size (i : Nat) : RegField := ⟨ENG_PROG_INFO i, 13, 0⟩
/-- ENG_PROG_LOC (spec/03_ray_engine_isa.md). -/
def ENG_PROG_LOC (i : Nat) : Nat := 0x400D0404 + 0x8 * i
def ENG_PROG_LOC_vrf (i : Nat) : RegField := ⟨ENG_PROG_LOC i, 31, 16⟩
def ENG_PROG_LOC_base (i : Nat) : RegField := ⟨ENG_PROG_LOC i, 12, 0⟩
/-- ENG_SPAN_PEAK (spec/03_ray_engine_isa.md). -/
def ENG_SPAN_PEAK (i : Nat) : Nat := 0x400D0420 + 0x4 * i
def ENG_SPAN_PEAK_clear (i : Nat) : RegField := ⟨ENG_SPAN_PEAK i, 31, 31⟩
def ENG_SPAN_PEAK_peak (i : Nat) : RegField := ⟨ENG_SPAN_PEAK i, 15, 0⟩
/-- ENG_CLOCK (spec/03_ray_engine_isa.md). -/
def ENG_CLOCK : Nat := 0x400D0430
def ENG_CLOCK_brace : RegField := ⟨ENG_CLOCK, 16, 16⟩
def ENG_CLOCK_mhz : RegField := ⟨ENG_CLOCK, 11, 0⟩
/-- CDC_U_STAT (spec/04_darja_codec.md). -/
def CDC_U_STAT (i : Nat) : Nat := 0x400E0000 + 0x100 * i
def CDC_U_STAT_busy (i : Nat) : RegField := ⟨CDC_U_STAT i, 31, 31⟩
def CDC_U_STAT_enc (i : Nat) : RegField := ⟨CDC_U_STAT i, 30, 30⟩
def CDC_U_STAT_stall (i : Nat) : RegField := ⟨CDC_U_STAT i, 29, 28⟩
def CDC_U_STAT_last_outcome (i : Nat) : RegField := ⟨CDC_U_STAT i, 23, 16⟩
def CDC_U_STAT_chain (i : Nat) : RegField := ⟨CDC_U_STAT i, 11, 0⟩
/-- CDC_U_LEG (spec/04_darja_codec.md). -/
def CDC_U_LEG (i : Nat) : Nat := 0x400E0004 + 0x100 * i
def CDC_U_LEG_leg_id (i : Nat) : RegField := ⟨CDC_U_LEG i, 31, 0⟩
/-- CDC_U_DONE (spec/04_darja_codec.md). -/
def CDC_U_DONE (i : Nat) : Nat := 0x400E0008 + 0x100 * i
def CDC_U_DONE_count (i : Nat) : RegField := ⟨CDC_U_DONE i, 31, 0⟩
/-- CDC_U_FAIL (spec/04_darja_codec.md). -/
def CDC_U_FAIL (i : Nat) : Nat := 0x400E000C + 0x100 * i
def CDC_U_FAIL_count (i : Nat) : RegField := ⟨CDC_U_FAIL i, 31, 0⟩
/-- CDC_U_PIX_LO (spec/04_darja_codec.md). -/
def CDC_U_PIX_LO (i : Nat) : Nat := 0x400E0010 + 0x100 * i
def CDC_U_PIX_LO_pix_lo (i : Nat) : RegField := ⟨CDC_U_PIX_LO i, 31, 0⟩
/-- CDC_U_PIX_HI (spec/04_darja_codec.md). -/
def CDC_U_PIX_HI (i : Nat) : Nat := 0x400E0014 + 0x100 * i
def CDC_U_PIX_HI_pix_hi (i : Nat) : RegField := ⟨CDC_U_PIX_HI i, 31, 0⟩
/-- CDC_CFG (spec/04_darja_codec.md). -/
def CDC_CFG : Nat := 0x400E1000
def CDC_CFG_chains : RegField := ⟨CDC_CFG, 28, 16⟩
def CDC_CFG_enc_mask : RegField := ⟨CDC_CFG, 15, 0⟩
/-- PTR_Q_AB (spec/05_porter_innkeeper.md). -/
def PTR_Q_AB : Nat := 0x400A0000
def PTR_Q_AB_b : RegField := ⟨PTR_Q_AB, 27, 16⟩
def PTR_Q_AB_a : RegField := ⟨PTR_Q_AB, 6, 0⟩
/-- PTR_Q_CD (spec/05_porter_innkeeper.md). -/
def PTR_Q_CD : Nat := 0x400A0004
def PTR_Q_CD_d : RegField := ⟨PTR_Q_CD, 25, 16⟩
def PTR_Q_CD_c : RegField := ⟨PTR_Q_CD, 10, 0⟩
/-- PTR_OUT_SERIAL (spec/05_porter_innkeeper.md). -/
def PTR_OUT_SERIAL (i : Nat) : Nat := 0x400A0100 + 0x10 * i
def PTR_OUT_SERIAL_decode_serial (i : Nat) : RegField := ⟨PTR_OUT_SERIAL i, 31, 0⟩
/-- PTR_OUT_PERIOD (spec/05_porter_innkeeper.md). -/
def PTR_OUT_PERIOD (i : Nat) : Nat := 0x400A0104 + 0x10 * i
def PTR_OUT_PERIOD_period_ns (i : Nat) : RegField := ⟨PTR_OUT_PERIOD i, 31, 0⟩
/-- PTR_OUT_ADM (spec/05_porter_innkeeper.md). -/
def PTR_OUT_ADM (i : Nat) : Nat := 0x400A0108 + 0x10 * i
def PTR_OUT_ADM_void (i : Nat) : RegField := ⟨PTR_OUT_ADM i, 31, 31⟩
def PTR_OUT_ADM_cand (i : Nat) : RegField := ⟨PTR_OUT_ADM i, 19, 16⟩
def PTR_OUT_ADM_cause (i : Nat) : RegField := ⟨PTR_OUT_ADM i, 2, 0⟩
/-- PTR_OUT_PLAY (spec/05_porter_innkeeper.md). -/
def PTR_OUT_PLAY (i : Nat) : Nat := 0x400A010C + 0x10 * i
def PTR_OUT_PLAY_active (i : Nat) : RegField := ⟨PTR_OUT_PLAY i, 31, 31⟩
def PTR_OUT_PLAY_auto (i : Nat) : RegField := ⟨PTR_OUT_PLAY i, 30, 30⟩
def PTR_OUT_PLAY_list (i : Nat) : RegField := ⟨PTR_OUT_PLAY i, 19, 16⟩
def PTR_OUT_PLAY_entry (i : Nat) : RegField := ⟨PTR_OUT_PLAY i, 15, 0⟩
/-- PTR_TB_RATE (spec/05_porter_innkeeper.md). -/
def PTR_TB_RATE (i : Nat) : Nat := 0x400A0200 + 0x10 * i
def PTR_TB_RATE_rate (i : Nat) : RegField := ⟨PTR_TB_RATE i, 15, 0⟩
/-- PTR_TB_DEPTH (spec/05_porter_innkeeper.md). -/
def PTR_TB_DEPTH (i : Nat) : Nat := 0x400A0204 + 0x10 * i
def PTR_TB_DEPTH_depth (i : Nat) : RegField := ⟨PTR_TB_DEPTH i, 23, 0⟩
/-- PTR_TB_CTRL (spec/05_porter_innkeeper.md). -/
def PTR_TB_CTRL : Nat := 0x400A0300
def PTR_TB_CTRL_hold : RegField := ⟨PTR_TB_CTRL, 0, 0⟩
/-- INK_ROOMS (spec/05_porter_innkeeper.md). -/
def INK_ROOMS : Nat := 0x400B0000
def INK_ROOMS_fitted : RegField := ⟨INK_ROOMS, 17, 0⟩
/-- INK_FREE (spec/05_porter_innkeeper.md). -/
def INK_FREE : Nat := 0x400B0004
def INK_FREE_free : RegField := ⟨INK_FREE, 17, 0⟩
/-- INK_SPACE_BASE (spec/05_porter_innkeeper.md). -/
def INK_SPACE_BASE (i : Nat) : Nat := 0x400B0100 + 0x8 * i
def INK_SPACE_BASE_base (i : Nat) : RegField := ⟨INK_SPACE_BASE i, 16, 0⟩
/-- INK_SPACE_SIZE (spec/05_porter_innkeeper.md). -/
def INK_SPACE_SIZE (i : Nat) : Nat := 0x400B0104 + 0x8 * i
def INK_SPACE_SIZE_rooms (i : Nat) : RegField := ⟨INK_SPACE_SIZE i, 17, 0⟩
/-- INK_FLIP (spec/05_porter_innkeeper.md). -/
def INK_FLIP : Nat := 0x400B0180
def INK_FLIP_display : RegField := ⟨INK_FLIP, 3, 0⟩
/-- INK_LEG (spec/05_porter_innkeeper.md). -/
def INK_LEG : Nat := 0x400B0200
def INK_LEG_pool : RegField := ⟨INK_LEG, 28, 16⟩
def INK_LEG_free : RegField := ⟨INK_LEG, 12, 0⟩
/-- INK_ALCOVE (spec/05_porter_innkeeper.md). -/
def INK_ALCOVE : Nat := 0x400B0204
def INK_ALCOVE_spare : RegField := ⟨INK_ALCOVE, 26, 16⟩
def INK_ALCOVE_retired : RegField := ⟨INK_ALCOVE, 10, 0⟩
/-- INK_TBL_SEC (spec/05_porter_innkeeper.md). -/
def INK_TBL_SEC : Nat := 0x400B0208
def INK_TBL_SEC_count : RegField := ⟨INK_TBL_SEC, 31, 0⟩
/-- INK_FAULT_INFO (spec/05_porter_innkeeper.md). -/
def INK_FAULT_INFO : Nat := 0x400B0300
def INK_FAULT_INFO_valid : RegField := ⟨INK_FAULT_INFO, 31, 31⟩
def INK_FAULT_INFO_kind : RegField := ⟨INK_FAULT_INFO, 30, 28⟩
def INK_FAULT_INFO_space : RegField := ⟨INK_FAULT_INFO, 27, 24⟩
def INK_FAULT_INFO_requester : RegField := ⟨INK_FAULT_INFO, 23, 16⟩
def INK_FAULT_INFO_write : RegField := ⟨INK_FAULT_INFO, 0, 0⟩
/-- INK_FAULT_OFS_LO (spec/05_porter_innkeeper.md). -/
def INK_FAULT_OFS_LO : Nat := 0x400B0304
def INK_FAULT_OFS_LO_ofs_lo : RegField := ⟨INK_FAULT_OFS_LO, 31, 0⟩
/-- INK_FAULT_OFS_HI (spec/05_porter_innkeeper.md). -/
def INK_FAULT_OFS_HI : Nat := 0x400B0308
def INK_FAULT_OFS_HI_ofs_hi : RegField := ⟨INK_FAULT_OFS_HI, 4, 0⟩
/-- DRC_CH_STAT (spec/06_dram_controller.md). -/
def DRC_CH_STAT (i : Nat) : Nat := 0x40110000 + 0x1000 * i
def DRC_CH_STAT_temp (i : Nat) : RegField := ⟨DRC_CH_STAT i, 11, 10⟩
def DRC_CH_STAT_fgr2x (i : Nat) : RegField := ⟨DRC_CH_STAT i, 9, 9⟩
def DRC_CH_STAT_sweep (i : Nat) : RegField := ⟨DRC_CH_STAT i, 8, 8⟩
def DRC_CH_STAT_state (i : Nat) : RegField := ⟨DRC_CH_STAT i, 2, 0⟩
/-- DRC_CH_ECC (spec/06_dram_controller.md). -/
def DRC_CH_ECC (i : Nat) : Nat := 0x40110004 + 0x1000 * i
def DRC_CH_ECC_sec (i : Nat) : RegField := ⟨DRC_CH_ECC i, 31, 0⟩
/-- DRC_CH_RETRY (spec/06_dram_controller.md). -/
def DRC_CH_RETRY (i : Nat) : Nat := 0x40110008 + 0x1000 * i
def DRC_CH_RETRY_crc (i : Nat) : RegField := ⟨DRC_CH_RETRY i, 31, 16⟩
def DRC_CH_RETRY_ca (i : Nat) : RegField := ⟨DRC_CH_RETRY i, 15, 0⟩
/-- DRC_CH_SR (spec/06_dram_controller.md). -/
def DRC_CH_SR (i : Nat) : Nat := 0x4011000C + 0x1000 * i
def DRC_CH_SR_bounces (i : Nat) : RegField := ⟨DRC_CH_SR i, 31, 24⟩
def DRC_CH_SR_idle_us (i : Nat) : RegField := ⟨DRC_CH_SR i, 9, 0⟩
/-- DRC_CH_TRAIN (spec/06_dram_controller.md). -/
def DRC_CH_TRAIN (i : Nat) : Nat := 0x40110010 + 0x1000 * i
def DRC_CH_TRAIN_attempts (i : Nat) : RegField := ⟨DRC_CH_TRAIN i, 5, 4⟩
def DRC_CH_TRAIN_fail_step (i : Nat) : RegField := ⟨DRC_CH_TRAIN i, 3, 0⟩
/-- DRC_CH_MARGIN (spec/06_dram_controller.md). -/
def DRC_CH_MARGIN (i : Nat) : Nat := 0x40110014 + 0x1000 * i
def DRC_CH_MARGIN_ca (i : Nat) : RegField := ⟨DRC_CH_MARGIN i, 31, 24⟩
def DRC_CH_MARGIN_vrefdq (i : Nat) : RegField := ⟨DRC_CH_MARGIN i, 23, 16⟩
def DRC_CH_MARGIN_write (i : Nat) : RegField := ⟨DRC_CH_MARGIN i, 15, 8⟩
def DRC_CH_MARGIN_read (i : Nat) : RegField := ⟨DRC_CH_MARGIN i, 7, 0⟩
/-- DRC_CFG (spec/06_dram_controller.md). -/
def DRC_CFG : Nat := 0x40118000
def DRC_CFG_wcrc : RegField := ⟨DRC_CFG, 10, 10⟩
def DRC_CFG_ranks2 : RegField := ⟨DRC_CFG, 9, 9⟩
def DRC_CFG_d16 : RegField := ⟨DRC_CFG, 8, 8⟩
def DRC_CFG_channels : RegField := ⟨DRC_CFG, 7, 4⟩
def DRC_CFG_speed : RegField := ⟨DRC_CFG, 1, 0⟩
/-- DRC_SR_CFG (spec/06_dram_controller.md). -/
def DRC_SR_CFG : Nat := 0x40118004
def DRC_SR_CFG_idle_max_us : RegField := ⟨DRC_SR_CFG, 31, 22⟩
def DRC_SR_CFG_guard_us : RegField := ⟨DRC_SR_CFG, 21, 10⟩
def DRC_SR_CFG_idle_us : RegField := ⟨DRC_SR_CFG, 9, 0⟩
/-- DRC_ECC_CFG (spec/06_dram_controller.md). -/
def DRC_ECC_CFG : Nat := 0x40118008
def DRC_ECC_CFG_scrub_h : RegField := ⟨DRC_ECC_CFG, 23, 16⟩
def DRC_ECC_CFG_sec_thresh : RegField := ⟨DRC_ECC_CFG, 15, 0⟩
/-- DRC_FREEZE_HOLD (spec/06_dram_controller.md). -/
def DRC_FREEZE_HOLD : Nat := 0x4011800C
def DRC_FREEZE_HOLD_hold_s : RegField := ⟨DRC_FREEZE_HOLD, 7, 0⟩
/-- DRC_FREEZE_INFO (spec/06_dram_controller.md). -/
def DRC_FREEZE_INFO : Nat := 0x40118010
def DRC_FREEZE_INFO_frozen : RegField := ⟨DRC_FREEZE_INFO, 31, 31⟩
def DRC_FREEZE_INFO_trigger : RegField := ⟨DRC_FREEZE_INFO, 30, 28⟩
def DRC_FREEZE_INFO_channel : RegField := ⟨DRC_FREEZE_INFO, 27, 25⟩
def DRC_FREEZE_INFO_word : RegField := ⟨DRC_FREEZE_INFO, 24, 22⟩
def DRC_FREEZE_INFO_requester : RegField := ⟨DRC_FREEZE_INFO, 21, 16⟩
def DRC_FREEZE_INFO_syndrome : RegField := ⟨DRC_FREEZE_INFO, 15, 8⟩
def DRC_FREEZE_INFO_later : RegField := ⟨DRC_FREEZE_INFO, 7, 0⟩
/-- DRC_FREEZE_ADDR_LO (spec/06_dram_controller.md). -/
def DRC_FREEZE_ADDR_LO : Nat := 0x40118014
def DRC_FREEZE_ADDR_LO_addr_lo : RegField := ⟨DRC_FREEZE_ADDR_LO, 31, 0⟩
/-- DRC_FREEZE_ADDR_HI (spec/06_dram_controller.md). -/
def DRC_FREEZE_ADDR_HI : Nat := 0x40118018
def DRC_FREEZE_ADDR_HI_addr_hi : RegField := ⟨DRC_FREEZE_ADDR_HI, 4, 0⟩
/-- DRC_FREEZE_HIST (spec/06_dram_controller.md). -/
def DRC_FREEZE_HIST (i : Nat) : Nat := 0x40119000 + 0x4 * i
def DRC_FREEZE_HIST_word (i : Nat) : RegField := ⟨DRC_FREEZE_HIST i, 31, 0⟩
/-- DRC_THAW_CTRL (spec/06_dram_controller.md). -/
def DRC_THAW_CTRL : Nat := 0x4011A000
def DRC_THAW_CTRL_key : RegField := ⟨DRC_THAW_CTRL, 31, 16⟩
def DRC_THAW_CTRL_done : RegField := ⟨DRC_THAW_CTRL, 2, 2⟩
def DRC_THAW_CTRL_go : RegField := ⟨DRC_THAW_CTRL, 1, 1⟩
def DRC_THAW_CTRL_start : RegField := ⟨DRC_THAW_CTRL, 0, 0⟩
/-- DRC_THAW_ADDR_LO (spec/06_dram_controller.md). -/
def DRC_THAW_ADDR_LO : Nat := 0x4011A004
def DRC_THAW_ADDR_LO_addr_lo : RegField := ⟨DRC_THAW_ADDR_LO, 31, 0⟩
/-- DRC_THAW_ADDR_HI (spec/06_dram_controller.md). -/
def DRC_THAW_ADDR_HI : Nat := 0x4011A008
def DRC_THAW_ADDR_HI_addr_hi : RegField := ⟨DRC_THAW_ADDR_HI, 4, 0⟩
/-- DRC_THAW_DATA (spec/06_dram_controller.md). -/
def DRC_THAW_DATA (i : Nat) : Nat := 0x4011A040 + 0x4 * i
def DRC_THAW_DATA_data (i : Nat) : RegField := ⟨DRC_THAW_DATA i, 31, 0⟩
/-- DRC_THAW_ECC (spec/06_dram_controller.md). -/
def DRC_THAW_ECC (i : Nat) : Nat := 0x4011A080 + 0x4 * i
def DRC_THAW_ECC_check (i : Nat) : RegField := ⟨DRC_THAW_ECC i, 31, 0⟩
/-- DRC_THAW_SYND (spec/06_dram_controller.md). -/
def DRC_THAW_SYND (i : Nat) : Nat := 0x4011A088 + 0x4 * i
def DRC_THAW_SYND_syndrome (i : Nat) : RegField := ⟨DRC_THAW_SYND i, 31, 0⟩
/-- SCN_OUT_STAT (spec/07_scanout_panel.md). -/
def SCN_OUT_STAT (i : Nat) : Nat := 0x400F0000 + 0x100 * i
def SCN_OUT_STAT_m (i : Nat) : RegField := ⟨SCN_OUT_STAT i, 12, 8⟩
def SCN_OUT_STAT_state (i : Nat) : RegField := ⟨SCN_OUT_STAT i, 5, 4⟩
def SCN_OUT_STAT_static (i : Nat) : RegField := ⟨SCN_OUT_STAT i, 3, 3⟩
def SCN_OUT_STAT_f (i : Nat) : RegField := ⟨SCN_OUT_STAT i, 2, 2⟩
def SCN_OUT_STAT_flipped (i : Nat) : RegField := ⟨SCN_OUT_STAT i, 1, 1⟩
/-- SCN_FRAME (spec/07_scanout_panel.md). -/
def SCN_FRAME (i : Nat) : Nat := 0x400F0004 + 0x100 * i
def SCN_FRAME_counter (i : Nat) : RegField := ⟨SCN_FRAME i, 31, 0⟩
/-- SCN_FLIP_TIME_LO (spec/07_scanout_panel.md). -/
def SCN_FLIP_TIME_LO (i : Nat) : Nat := 0x400F0008 + 0x100 * i
def SCN_FLIP_TIME_LO_ns_lo (i : Nat) : RegField := ⟨SCN_FLIP_TIME_LO i, 31, 0⟩
/-- SCN_FLIP_TIME_HI (spec/07_scanout_panel.md). -/
def SCN_FLIP_TIME_HI (i : Nat) : Nat := 0x400F000C + 0x100 * i
def SCN_FLIP_TIME_HI_ns_hi (i : Nat) : RegField := ⟨SCN_FLIP_TIME_HI i, 31, 0⟩
/-- SCN_UNDR_TOTAL (spec/07_scanout_panel.md). -/
def SCN_UNDR_TOTAL (i : Nat) : Nat := 0x400F0010 + 0x100 * i
def SCN_UNDR_TOTAL_count (i : Nat) : RegField := ⟨SCN_UNDR_TOTAL i, 31, 0⟩
/-- SCN_UNDR_LAST (spec/07_scanout_panel.md). -/
def SCN_UNDR_LAST (i : Nat) : Nat := 0x400F0014 + 0x100 * i
def SCN_UNDR_LAST_count (i : Nat) : RegField := ⟨SCN_UNDR_LAST i, 31, 0⟩
/-- SCN_BG (spec/07_scanout_panel.md). -/
def SCN_BG (i : Nat) : Nat := 0x400F0018 + 0x100 * i
def SCN_BG_blue (i : Nat) : RegField := ⟨SCN_BG i, 29, 20⟩
def SCN_BG_green (i : Nat) : RegField := ⟨SCN_BG i, 19, 10⟩
def SCN_BG_red (i : Nat) : RegField := ⟨SCN_BG i, 9, 0⟩
/-- PNL_OUT_STAT (spec/07_scanout_panel.md). -/
def PNL_OUT_STAT (i : Nat) : Nat := 0x40100000 + 0x100 * i
def PNL_OUT_STAT_step (i : Nat) : RegField := ⟨PNL_OUT_STAT i, 23, 20⟩
def PNL_OUT_STAT_seq (i : Nat) : RegField := ⟨PNL_OUT_STAT i, 19, 16⟩
def PNL_OUT_STAT_cd_ready (i : Nat) : RegField := ⟨PNL_OUT_STAT i, 12, 12⟩
def PNL_OUT_STAT_xon (i : Nat) : RegField := ⟨PNL_OUT_STAT i, 11, 11⟩
def PNL_OUT_STAT_dis (i : Nat) : RegField := ⟨PNL_OUT_STAT i, 7, 4⟩
def PNL_OUT_STAT_en (i : Nat) : RegField := ⟨PNL_OUT_STAT i, 3, 0⟩
/-- PNL_RAIL_A (spec/07_scanout_panel.md). -/
def PNL_RAIL_A (i : Nat) : Nat := 0x40100004 + 0x100 * i
def PNL_RAIL_A_vgh_mv (i : Nat) : RegField := ⟨PNL_RAIL_A i, 31, 16⟩
def PNL_RAIL_A_avdd_mv (i : Nat) : RegField := ⟨PNL_RAIL_A i, 15, 0⟩
/-- PNL_RAIL_B (spec/07_scanout_panel.md). -/
def PNL_RAIL_B (i : Nat) : Nat := 0x40100008 + 0x100 * i
def PNL_RAIL_B_vcom_mv (i : Nat) : RegField := ⟨PNL_RAIL_B i, 31, 16⟩
def PNL_RAIL_B_vgl_mv (i : Nat) : RegField := ⟨PNL_RAIL_B i, 15, 0⟩
/-- PNL_BAND (spec/07_scanout_panel.md). -/
def PNL_BAND (i : Nat) : Nat := 0x4010000C + 0x100 * i
def PNL_BAND_temp (i : Nat) : RegField := ⟨PNL_BAND i, 31, 16⟩
def PNL_BAND_tfail (i : Nat) : RegField := ⟨PNL_BAND i, 8, 8⟩
def PNL_BAND_pending (i : Nat) : RegField := ⟨PNL_BAND i, 7, 7⟩
def PNL_BAND_next (i : Nat) : RegField := ⟨PNL_BAND i, 6, 4⟩
def PNL_BAND_band (i : Nat) : RegField := ⟨PNL_BAND i, 2, 0⟩
/-- PNL_VCOM_ADJ (spec/07_scanout_panel.md). -/
def PNL_VCOM_ADJ (i : Nat) : Nat := 0x40100010 + 0x100 * i
def PNL_VCOM_ADJ_duty (i : Nat) : RegField := ⟨PNL_VCOM_ADJ i, 11, 0⟩
/-- PNL_ECHO_ERR (spec/07_scanout_panel.md). -/
def PNL_ECHO_ERR (i : Nat) : Nat := 0x40101000 + 0x4 * i
def PNL_ECHO_ERR_count (i : Nat) : RegField := ⟨PNL_ECHO_ERR i, 31, 0⟩
/-- LNK_STAT (spec/08_caravan_link.md). -/
def LNK_STAT : Nat := 0x40080000
def LNK_STAT_dn_state : RegField := ⟨LNK_STAT, 31, 28⟩
def LNK_STAT_up_state : RegField := ⟨LNK_STAT, 27, 24⟩
def LNK_STAT_tile : RegField := ⟨LNK_STAT, 19, 16⟩
def LNK_STAT_pos : RegField := ⟨LNK_STAT, 15, 12⟩
def LNK_STAT_rate : RegField := ⟨LNK_STAT, 11, 10⟩
def LNK_STAT_own_held : RegField := ⟨LNK_STAT, 1, 1⟩
def LNK_STAT_refclk_ok : RegField := ⟨LNK_STAT, 0, 0⟩
/-- LNK_RX_CRC (spec/08_caravan_link.md). -/
def LNK_RX_CRC (i : Nat) : Nat := 0x40080100 + 0x20 * i
def LNK_RX_CRC_count (i : Nat) : RegField := ⟨LNK_RX_CRC i, 31, 0⟩
/-- LNK_RX_VIOL (spec/08_caravan_link.md). -/
def LNK_RX_VIOL (i : Nat) : Nat := 0x40080104 + 0x20 * i
def LNK_RX_VIOL_count (i : Nat) : RegField := ⟨LNK_RX_VIOL i, 31, 0⟩
/-- LNK_TX_REPLAY (spec/08_caravan_link.md). -/
def LNK_TX_REPLAY (i : Nat) : Nat := 0x40080108 + 0x20 * i
def LNK_TX_REPLAY_count (i : Nat) : RegField := ⟨LNK_TX_REPLAY i, 31, 0⟩
/-- LNK_RETRAINS (spec/08_caravan_link.md). -/
def LNK_RETRAINS (i : Nat) : Nat := 0x4008010C + 0x20 * i
def LNK_RETRAINS_cold (i : Nat) : RegField := ⟨LNK_RETRAINS i, 31, 16⟩
def LNK_RETRAINS_warm (i : Nat) : RegField := ⟨LNK_RETRAINS i, 15, 0⟩
/-- LNK_RELAY_DROP (spec/08_caravan_link.md). -/
def LNK_RELAY_DROP (i : Nat) : Nat := 0x40080110 + 0x20 * i
def LNK_RELAY_DROP_count (i : Nat) : RegField := ⟨LNK_RELAY_DROP i, 31, 0⟩
/-- LNK_CREDIT_UP (spec/08_caravan_link.md). -/
def LNK_CREDIT_UP (i : Nat) : Nat := 0x40080204 + 0x4 * i
def LNK_CREDIT_UP_units (i : Nat) : RegField := ⟨LNK_CREDIT_UP i, 15, 0⟩
/-- LNK_CREDIT_DN (spec/08_caravan_link.md). -/
def LNK_CREDIT_DN (i : Nat) : Nat := 0x40080214 + 0x4 * i
def LNK_CREDIT_DN_units (i : Nat) : RegField := ⟨LNK_CREDIT_DN i, 15, 0⟩
/-- LNK_INJECT (spec/08_caravan_link.md). -/
def LNK_INJECT : Nat := 0x40080300
def LNK_INJECT_crc_dn : RegField := ⟨LNK_INJECT, 1, 1⟩
def LNK_INJECT_crc_up : RegField := ⟨LNK_INJECT, 0, 0⟩
/-- LPH_STAT (spec/08_caravan_link.md). -/
def LPH_STAT (i : Nat) : Nat := 0x40090000 + 0x400 * i
def LPH_STAT_fom (i : Nat) : RegField := ⟨LPH_STAT i, 31, 24⟩
def LPH_STAT_ctle (i : Nat) : RegField := ⟨LPH_STAT i, 23, 20⟩
def LPH_STAT_deskewed (i : Nat) : RegField := ⟨LPH_STAT i, 3, 3⟩
def LPH_STAT_block_lock (i : Nat) : RegField := ⟨LPH_STAT i, 2, 2⟩
def LPH_STAT_cdr_lock (i : Nat) : RegField := ⟨LPH_STAT i, 1, 1⟩
def LPH_STAT_signal (i : Nat) : RegField := ⟨LPH_STAT i, 0, 0⟩
/-- LPH_CFG (spec/08_caravan_link.md). -/
def LPH_CFG (i : Nat) : Nat := 0x40090004 + 0x400 * i
def LPH_CFG_post (i : Nat) : RegField := ⟨LPH_CFG i, 20, 16⟩
def LPH_CFG_pre (i : Nat) : RegField := ⟨LPH_CFG i, 11, 8⟩
def LPH_CFG_invert (i : Nat) : RegField := ⟨LPH_CFG i, 0, 0⟩
/-- LPH_PRBS (spec/08_caravan_link.md). -/
def LPH_PRBS (i : Nat) : Nat := 0x40090008 + 0x400 * i
def LPH_PRBS_mode (i : Nat) : RegField := ⟨LPH_PRBS i, 31, 30⟩
def LPH_PRBS_inject_one (i : Nat) : RegField := ⟨LPH_PRBS i, 8, 8⟩
def LPH_PRBS_inject_k (i : Nat) : RegField := ⟨LPH_PRBS i, 4, 0⟩
/-- LPH_PRBS_ERR (spec/08_caravan_link.md). -/
def LPH_PRBS_ERR (i : Nat) : Nat := 0x4009000C + 0x400 * i
def LPH_PRBS_ERR_count (i : Nat) : RegField := ⟨LPH_PRBS_ERR i, 31, 0⟩
/-- LPH_SLIP (spec/08_caravan_link.md). -/
def LPH_SLIP (i : Nat) : Nat := 0x40090010 + 0x400 * i
def LPH_SLIP_slip (i : Nat) : RegField := ⟨LPH_SLIP i, 31, 31⟩
def LPH_SLIP_slips (i : Nat) : RegField := ⟨LPH_SLIP i, 15, 0⟩
/-- TIM_NS_LO (spec/09_time_wallbus.md). -/
def TIM_NS_LO : Nat := 0x40060000
def TIM_NS_LO_v : RegField := ⟨TIM_NS_LO, 31, 0⟩
/-- TIM_NS_HI (spec/09_time_wallbus.md). -/
def TIM_NS_HI : Nat := 0x40060004
def TIM_NS_HI_v : RegField := ⟨TIM_NS_HI, 31, 0⟩
/-- TIM_NS_FRAC (spec/09_time_wallbus.md). -/
def TIM_NS_FRAC : Nat := 0x40060008
def TIM_NS_FRAC_v : RegField := ⟨TIM_NS_FRAC, 31, 0⟩
/-- TIM_INC_FRAC (spec/09_time_wallbus.md). -/
def TIM_INC_FRAC : Nat := 0x40060010
def TIM_INC_FRAC_v : RegField := ⟨TIM_INC_FRAC, 31, 0⟩
/-- TIM_INC_INT (spec/09_time_wallbus.md). -/
def TIM_INC_INT : Nat := 0x40060014
def TIM_INC_INT_v : RegField := ⟨TIM_INC_INT, 31, 0⟩
/-- TIM_STAT (spec/09_time_wallbus.md). -/
def TIM_STAT : Nat := 0x40060020
def TIM_STAT_state : RegField := ⟨TIM_STAT, 27, 24⟩
def TIM_STAT_xtal : RegField := ⟨TIM_STAT, 16, 16⟩
def TIM_STAT_stepped : RegField := ⟨TIM_STAT, 8, 8⟩
def TIM_STAT_sync_age : RegField := ⟨TIM_STAT, 7, 0⟩
/-- TIM_OFFSET (spec/09_time_wallbus.md). -/
def TIM_OFFSET : Nat := 0x40060024
def TIM_OFFSET_offset : RegField := ⟨TIM_OFFSET, 31, 0⟩
/-- TIM_LINK_DELAY (spec/09_time_wallbus.md). -/
def TIM_LINK_DELAY : Nat := 0x40060028
def TIM_LINK_DELAY_d_up : RegField := ⟨TIM_LINK_DELAY, 15, 0⟩
/-- TIM_GM_LO (spec/09_time_wallbus.md). -/
def TIM_GM_LO : Nat := 0x40060030
def TIM_GM_LO_id : RegField := ⟨TIM_GM_LO, 31, 0⟩
/-- TIM_GM_HI (spec/09_time_wallbus.md). -/
def TIM_GM_HI : Nat := 0x40060034
def TIM_GM_HI_id : RegField := ⟨TIM_GM_HI, 31, 0⟩
/-- WBS_STAT (spec/09_time_wallbus.md). -/
def WBS_STAT : Nat := 0x40070000
def WBS_STAT_plca_ok : RegField := ⟨WBS_STAT, 31, 31⟩
def WBS_STAT_fallback : RegField := ⟨WBS_STAT, 30, 30⟩
def WBS_STAT_bound_void : RegField := ⟨WBS_STAT, 29, 29⟩
def WBS_STAT_safe : RegField := ⟨WBS_STAT, 28, 28⟩
def WBS_STAT_node_count : RegField := ⟨WBS_STAT, 23, 16⟩
def WBS_STAT_node_id : RegField := ⟨WBS_STAT, 12, 8⟩
def WBS_STAT_quarantined : RegField := ⟨WBS_STAT, 5, 0⟩
/-- WBS_STATUS_CFG (spec/09_time_wallbus.md). -/
def WBS_STATUS_CFG : Nat := 0x40070004
def WBS_STATUS_CFG_status_n : RegField := ⟨WBS_STATUS_CFG, 7, 0⟩
/-- WBS_FCS (spec/09_time_wallbus.md). -/
def WBS_FCS : Nat := 0x40070010
def WBS_FCS_count : RegField := ⟨WBS_FCS, 31, 0⟩
/-- WBS_STRANGER (spec/09_time_wallbus.md). -/
def WBS_STRANGER : Nat := 0x40070014
def WBS_STRANGER_count : RegField := ⟨WBS_STRANGER, 31, 0⟩
/-- WBS_VIOL (spec/09_time_wallbus.md). -/
def WBS_VIOL : Nat := 0x40070018
def WBS_VIOL_count : RegField := ⟨WBS_VIOL, 31, 0⟩
/-- WBS_TRACK (spec/09_time_wallbus.md). -/
def WBS_TRACK : Nat := 0x4007001C
def WBS_TRACK_count : RegField := ⟨WBS_TRACK, 31, 0⟩
/-- CAM_P_STAT (spec/10_camera_capture.md). -/
def CAM_P_STAT (i : Nat) : Nat := 0x40120000 + 0x100 * i
def CAM_P_STAT_state (i : Nat) : RegField := ⟨CAM_P_STAT i, 31, 30⟩
def CAM_P_STAT_open (i : Nat) : RegField := ⟨CAM_P_STAT i, 26, 26⟩
def CAM_P_STAT_cci (i : Nat) : RegField := ⟨CAM_P_STAT i, 25, 24⟩
def CAM_P_STAT_marks (i : Nat) : RegField := ⟨CAM_P_STAT i, 9, 0⟩
/-- CAM_P_FRAME (spec/10_camera_capture.md). -/
def CAM_P_FRAME (i : Nat) : Nat := 0x40120004 + 0x100 * i
def CAM_P_FRAME_counter (i : Nat) : RegField := ⟨CAM_P_FRAME i, 31, 0⟩
/-- CAM_P_LINES (spec/10_camera_capture.md). -/
def CAM_P_LINES (i : Nat) : Nat := 0x40120008 + 0x100 * i
def CAM_P_LINES_processed (i : Nat) : RegField := ⟨CAM_P_LINES i, 29, 16⟩
def CAM_P_LINES_dropped (i : Nat) : RegField := ⟨CAM_P_LINES i, 13, 0⟩
/-- CAM_P_DROP (spec/10_camera_capture.md). -/
def CAM_P_DROP (i : Nat) : Nat := 0x4012000C + 0x100 * i
def CAM_P_DROP_count (i : Nat) : RegField := ⟨CAM_P_DROP i, 31, 0⟩
/-- CAM_P_CRC (spec/10_camera_capture.md). -/
def CAM_P_CRC (i : Nat) : Nat := 0x40120010 + 0x100 * i
def CAM_P_CRC_count (i : Nat) : RegField := ⟨CAM_P_CRC i, 31, 0⟩
/-- CAM_P_ECC (spec/10_camera_capture.md). -/
def CAM_P_ECC (i : Nat) : Nat := 0x40120014 + 0x100 * i
def CAM_P_ECC_uncorrectable (i : Nat) : RegField := ⟨CAM_P_ECC i, 31, 16⟩
def CAM_P_ECC_corrected (i : Nat) : RegField := ⟨CAM_P_ECC i, 15, 0⟩
/-- CAM_P_DISC (spec/10_camera_capture.md). -/
def CAM_P_DISC (i : Nat) : Nat := 0x40120018 + 0x100 * i
def CAM_P_DISC_count (i : Nat) : RegField := ⟨CAM_P_DISC i, 31, 0⟩
/-- ISP_STAT (spec/10_camera_capture.md). -/
def ISP_STAT : Nat := 0x40130000
def ISP_STAT_load : RegField := ⟨ISP_STAT, 31, 16⟩
def ISP_STAT_stalled : RegField := ⟨ISP_STAT, 5, 5⟩
def ISP_STAT_busy : RegField := ⟨ISP_STAT, 4, 4⟩
def ISP_STAT_port : RegField := ⟨ISP_STAT, 2, 0⟩
/-- ISP_WB_RG (spec/10_camera_capture.md). -/
def ISP_WB_RG (i : Nat) : Nat := 0x40130100 + 0x10 * i
def ISP_WB_RG_g_r (i : Nat) : RegField := ⟨ISP_WB_RG i, 31, 16⟩
def ISP_WB_RG_r (i : Nat) : RegField := ⟨ISP_WB_RG i, 15, 0⟩
/-- ISP_WB_BG (spec/10_camera_capture.md). -/
def ISP_WB_BG (i : Nat) : Nat := 0x40130104 + 0x10 * i
def ISP_WB_BG_g_b (i : Nat) : RegField := ⟨ISP_WB_BG i, 31, 16⟩
def ISP_WB_BG_b (i : Nat) : RegField := ⟨ISP_WB_BG i, 15, 0⟩
/-- ISP_STATS_FRAME (spec/10_camera_capture.md). -/
def ISP_STATS_FRAME (i : Nat) : Nat := 0x40130108 + 0x10 * i
def ISP_STATS_FRAME_counter (i : Nat) : RegField := ⟨ISP_STATS_FRAME i, 31, 0⟩
/-- BLT_STAT (spec/11_blitter.md). -/
def BLT_STAT : Nat := 0x40140000
def BLT_STAT_busy : RegField := ⟨BLT_STAT, 31, 31⟩
def BLT_STAT_card : RegField := ⟨BLT_STAT, 30, 30⟩
def BLT_STAT_output : RegField := ⟨BLT_STAT, 29, 28⟩
def BLT_STAT_cmd : RegField := ⟨BLT_STAT, 11, 0⟩
/-- BLT_DONE (spec/11_blitter.md). -/
def BLT_DONE : Nat := 0x40140004
def BLT_DONE_count : RegField := ⟨BLT_DONE, 31, 0⟩
/-- BLT_FAIL (spec/11_blitter.md). -/
def BLT_FAIL : Nat := 0x40140008
def BLT_FAIL_count : RegField := ⟨BLT_FAIL, 31, 0⟩
/-- BLT_LAST_ERR (spec/11_blitter.md). -/
def BLT_LAST_ERR : Nat := 0x4014000C
def BLT_LAST_ERR_output : RegField := ⟨BLT_LAST_ERR, 31, 30⟩
def BLT_LAST_ERR_cause : RegField := ⟨BLT_LAST_ERR, 27, 24⟩
def BLT_LAST_ERR_cmd : RegField := ⟨BLT_LAST_ERR, 11, 0⟩
/-- BLT_DEAD_MIN (spec/11_blitter.md). -/
def BLT_DEAD_MIN : Nat := 0x40140010
def BLT_DEAD_MIN_cycles : RegField := ⟨BLT_DEAD_MIN, 9, 0⟩
/-- BLT_CARD (spec/11_blitter.md). -/
def BLT_CARD (i : Nat) : Nat := 0x40140020 + 0x4 * i
def BLT_CARD_shown (i : Nat) : RegField := ⟨BLT_CARD i, 31, 31⟩
def BLT_CARD_plane (i : Nat) : RegField := ⟨BLT_CARD i, 17, 16⟩
def BLT_CARD_idle (i : Nat) : RegField := ⟨BLT_CARD i, 15, 0⟩
/-- PWR_PD_STATE (spec/12_power_thermal.md). -/
def PWR_PD_STATE (i : Nat) : Nat := 0x40010000 + 0x4 * i
def PWR_PD_STATE_pd (i : Nat) : RegField := ⟨PWR_PD_STATE i, 31, 0⟩
/-- PWR_SG_STAT (spec/12_power_thermal.md). -/
def PWR_SG_STAT (i : Nat) : Nat := 0x40010100 + 0x4 * i
def PWR_SG_STAT_state (i : Nat) : RegField := ⟨PWR_SG_STAT i, 31, 29⟩
def PWR_SG_STAT_status (i : Nat) : RegField := ⟨PWR_SG_STAT i, 26, 24⟩
def PWR_SG_STAT_refuser (i : Nat) : RegField := ⟨PWR_SG_STAT i, 21, 16⟩
def PWR_SG_STAT_refusals (i : Nat) : RegField := ⟨PWR_SG_STAT i, 15, 0⟩
/-- PWR_LAST_WAKE (spec/12_power_thermal.md). -/
def PWR_LAST_WAKE : Nat := 0x40010180
def PWR_LAST_WAKE_source : RegField := ⟨PWR_LAST_WAKE, 27, 24⟩
def PWR_LAST_WAKE_group : RegField := ⟨PWR_LAST_WAKE, 18, 16⟩
/-- PWR_LAST_WAKE_T (spec/12_power_thermal.md). -/
def PWR_LAST_WAKE_T : Nat := 0x40010184
def PWR_LAST_WAKE_T_ns : RegField := ⟨PWR_LAST_WAKE_T, 31, 0⟩
/-- PWR_MON_CFG (spec/12_power_thermal.md). -/
def PWR_MON_CFG (i : Nat) : Nat := 0x40010200 + 0x10 * i
def PWR_MON_CFG_hyst_mv (i : Nat) : RegField := ⟨PWR_MON_CFG i, 31, 24⟩
def PWR_MON_CFG_warn_mv (i : Nat) : RegField := ⟨PWR_MON_CFG i, 23, 12⟩
def PWR_MON_CFG_reset_mv (i : Nat) : RegField := ⟨PWR_MON_CFG i, 11, 0⟩
/-- PWR_MON_STAT (spec/12_power_thermal.md). -/
def PWR_MON_STAT (i : Nat) : Nat := 0x40010204 + 0x10 * i
def PWR_MON_STAT_round_mv (i : Nat) : RegField := ⟨PWR_MON_STAT i, 31, 16⟩
def PWR_MON_STAT_min_mv (i : Nat) : RegField := ⟨PWR_MON_STAT i, 15, 0⟩
/-- PWR_MON_DIPS (spec/12_power_thermal.md). -/
def PWR_MON_DIPS (i : Nat) : Nat := 0x40010208 + 0x10 * i
def PWR_MON_DIPS_resets (i : Nat) : RegField := ⟨PWR_MON_DIPS i, 31, 16⟩
def PWR_MON_DIPS_braces (i : Nat) : RegField := ⟨PWR_MON_DIPS i, 15, 0⟩
/-- PWR_BRACE (spec/12_power_thermal.md). -/
def PWR_BRACE : Nat := 0x40010300
def PWR_BRACE_alert : RegField := ⟨PWR_BRACE, 31, 31⟩
def PWR_BRACE_active : RegField := ⟨PWR_BRACE, 30, 30⟩
def PWR_BRACE_last_second : RegField := ⟨PWR_BRACE, 7, 0⟩
/-- THM_CFG (spec/12_power_thermal.md). -/
def THM_CFG : Nat := 0x40020000
def THM_CFG_shutdown : RegField := ⟨THM_CFG, 31, 24⟩
def THM_CFG_throttle2 : RegField := ⟨THM_CFG, 23, 16⟩
def THM_CFG_throttle : RegField := ⟨THM_CFG, 15, 8⟩
def THM_CFG_warning : RegField := ⟨THM_CFG, 7, 0⟩
/-- THM_STATE (spec/12_power_thermal.md). -/
def THM_STATE : Nat := 0x40020004
def THM_STATE_shutdown : RegField := ⟨THM_STATE, 31, 31⟩
def THM_STATE_warning : RegField := ⟨THM_STATE, 30, 30⟩
def THM_STATE_level : RegField := ⟨THM_STATE, 29, 28⟩
def THM_STATE_next : RegField := ⟨THM_STATE, 27, 26⟩
def THM_STATE_pending : RegField := ⟨THM_STATE, 25, 25⟩
def THM_STATE_holdoff : RegField := ⟨THM_STATE, 24, 24⟩
def THM_STATE_holdoff_s : RegField := ⟨THM_STATE, 23, 16⟩
def THM_STATE_valid : RegField := ⟨THM_STATE, 4, 0⟩
/-- THM_MAX (spec/12_power_thermal.md). -/
def THM_MAX : Nat := 0x40020008
def THM_MAX_max : RegField := ⟨THM_MAX, 31, 16⟩
def THM_MAX_substituted : RegField := ⟨THM_MAX, 8, 8⟩
def THM_MAX_sensor : RegField := ⟨THM_MAX, 4, 0⟩
/-- THM_ROUND (spec/12_power_thermal.md). -/
def THM_ROUND : Nat := 0x4002000C
def THM_ROUND_count : RegField := ⟨THM_ROUND, 31, 0⟩
/-- THM_S_STAT (spec/12_power_thermal.md). -/
def THM_S_STAT (i : Nat) : Nat := 0x40020100 + 0x4 * i
def THM_S_STAT_reading (i : Nat) : RegField := ⟨THM_S_STAT i, 31, 16⟩
def THM_S_STAT_cause (i : Nat) : RegField := ⟨THM_S_STAT i, 9, 8⟩
def THM_S_STAT_failed (i : Nat) : RegField := ⟨THM_S_STAT i, 7, 7⟩
def THM_S_STAT_same (i : Nat) : RegField := ⟨THM_S_STAT i, 6, 0⟩
/-- THM_AIN (spec/12_power_thermal.md). -/
def THM_AIN (i : Nat) : Nat := 0x40020200 + 0x4 * i
def THM_AIN_code (i : Nat) : RegField := ⟨THM_AIN i, 11, 0⟩
/-- CFG_CHIP_ID (spec/13_start_itinerary.md). -/
def CFG_CHIP_ID : Nat := 0x40000000
def CFG_CHIP_ID_product : RegField := ⟨CFG_CHIP_ID, 31, 16⟩
def CFG_CHIP_ID_stepping : RegField := ⟨CFG_CHIP_ID, 15, 8⟩
def CFG_CHIP_ID_family : RegField := ⟨CFG_CHIP_ID, 7, 0⟩
/-- CFG_UID_LO (spec/13_start_itinerary.md). -/
def CFG_UID_LO : Nat := 0x40000004
def CFG_UID_LO_uid : RegField := ⟨CFG_UID_LO, 31, 0⟩
/-- CFG_UID_HI (spec/13_start_itinerary.md). -/
def CFG_UID_HI : Nat := 0x40000008
def CFG_UID_HI_uid : RegField := ⟨CFG_UID_HI, 31, 0⟩
/-- CFG_STRAPS (spec/13_start_itinerary.md). -/
def CFG_STRAPS : Nat := 0x4000000C
def CFG_STRAPS_boot_safe : RegField := ⟨CFG_STRAPS, 4, 4⟩
def CFG_STRAPS_tile_id : RegField := ⟨CFG_STRAPS, 3, 0⟩
/-- CFG_BOOT (spec/13_start_itinerary.md). -/
def CFG_BOOT : Nat := 0x40000010
def CFG_BOOT_harbour : RegField := ⟨CFG_BOOT, 31, 31⟩
def CFG_BOOT_harbour_cause : RegField := ⟨CFG_BOOT, 30, 28⟩
def CFG_BOOT_slot : RegField := ⟨CFG_BOOT, 25, 24⟩
def CFG_BOOT_cause_b : RegField := ⟨CFG_BOOT, 15, 8⟩
def CFG_BOOT_cause_a : RegField := ⟨CFG_BOOT, 7, 0⟩
/-- CFG_SEQ (spec/13_start_itinerary.md). -/
def CFG_SEQ : Nat := 0x40000014
def CFG_SEQ_seq : RegField := ⟨CFG_SEQ, 31, 0⟩
/-- CFG_CRC (spec/13_start_itinerary.md). -/
def CFG_CRC : Nat := 0x40000018
def CFG_CRC_crc : RegField := ⟨CFG_CRC, 31, 0⟩
/-- CFG_LEN (spec/13_start_itinerary.md). -/
def CFG_LEN : Nat := 0x4000001C
def CFG_LEN_length : RegField := ⟨CFG_LEN, 31, 0⟩
/-- CFG_OTP (spec/13_start_itinerary.md). -/
def CFG_OTP : Nat := 0x40000020
def CFG_OTP_safe_key : RegField := ⟨CFG_OTP, 2, 2⟩
def CFG_OTP_sig_required : RegField := ⟨CFG_OTP, 1, 1⟩
def CFG_OTP_digest : RegField := ⟨CFG_OTP, 0, 0⟩
/-- CFG_REC_ERR (spec/13_start_itinerary.md). -/
def CFG_REC_ERR : Nat := 0x40000024
def CFG_REC_ERR_type : RegField := ⟨CFG_REC_ERR, 31, 16⟩
def CFG_REC_ERR_instance : RegField := ⟨CFG_REC_ERR, 15, 8⟩
def CFG_REC_ERR_cause : RegField := ⟨CFG_REC_ERR, 7, 0⟩
/-- CFG_STAGE (spec/13_start_itinerary.md). -/
def CFG_STAGE : Nat := 0x40000030
def CFG_STAGE_state : RegField := ⟨CFG_STAGE, 31, 30⟩
def CFG_STAGE_path : RegField := ⟨CFG_STAGE, 29, 29⟩
def CFG_STAGE_status : RegField := ⟨CFG_STAGE, 28, 24⟩
def CFG_STAGE_session : RegField := ⟨CFG_STAGE, 15, 0⟩
/-- CFG_STAGE_RX (spec/13_start_itinerary.md). -/
def CFG_STAGE_RX : Nat := 0x40000034
def CFG_STAGE_RX_bytes : RegField := ⟨CFG_STAGE_RX, 31, 0⟩
/-- EVT_ROUTE (spec/14_faults_records.md). -/
def EVT_ROUTE (i : Nat) : Nat := 0x40030000 + 0x4 * i
def EVT_ROUTE_route (i : Nat) : RegField := ⟨EVT_ROUTE i, 31, 0⟩
/-- EVT_FAULT (spec/14_faults_records.md). -/
def EVT_FAULT (i : Nat) : Nat := 0x40030100 + 0x4 * i
def EVT_FAULT_fault (i : Nat) : RegField := ⟨EVT_FAULT i, 31, 0⟩
/-- EVT_ALERT (spec/14_faults_records.md). -/
def EVT_ALERT : Nat := 0x40030200
def EVT_ALERT_cond : RegField := ⟨EVT_ALERT, 5, 0⟩
/-- EVT_LOST (spec/14_faults_records.md). -/
def EVT_LOST : Nat := 0x40030204
def EVT_LOST_count : RegField := ⟨EVT_LOST, 31, 0⟩
/-- EVT_INJECT (spec/14_faults_records.md). -/
def EVT_INJECT : Nat := 0x40030300
def EVT_INJECT_source : RegField := ⟨EVT_INJECT, 15, 8⟩
def EVT_INJECT_cause : RegField := ⟨EVT_INJECT, 7, 0⟩
/-- GBK_HEAD (spec/14_faults_records.md). -/
def GBK_HEAD : Nat := 0x40040000
def GBK_HEAD_head : RegField := ⟨GBK_HEAD, 31, 0⟩
/-- GBK_PAGE (spec/14_faults_records.md). -/
def GBK_PAGE : Nat := 0x40040004
def GBK_PAGE_page : RegField := ⟨GBK_PAGE, 1, 0⟩
/-- GBK_WINDOW (spec/14_faults_records.md). -/
def GBK_WINDOW (i : Nat) : Nat := 0x40048000 + 0x4 * i
def GBK_WINDOW_word (i : Nat) : RegField := ⟨GBK_WINDOW i, 31, 0⟩
/-- SBX_STAT (spec/14_faults_records.md). -/
def SBX_STAT : Nat := 0x40050000
def SBX_STAT_busy : RegField := ⟨SBX_STAT, 31, 31⟩
def SBX_STAT_queued : RegField := ⟨SBX_STAT, 30, 30⟩
def SBX_STAT_kept : RegField := ⟨SBX_STAT, 19, 16⟩
def SBX_STAT_merged : RegField := ⟨SBX_STAT, 15, 0⟩
/-- SBX_SLOT (spec/14_faults_records.md). -/
def SBX_SLOT (i : Nat) : Nat := 0x40050100 + 0x4 * i
def SBX_SLOT_valid (i : Nat) : RegField := ⟨SBX_SLOT i, 31, 31⟩
def SBX_SLOT_kept (i : Nat) : RegField := ⟨SBX_SLOT i, 30, 30⟩
def SBX_SLOT_kind (i : Nat) : RegField := ⟨SBX_SLOT i, 27, 24⟩
def SBX_SLOT_serial (i : Nat) : RegField := ⟨SBX_SLOT i, 23, 0⟩
/-- SBX_SEL (spec/14_faults_records.md). -/
def SBX_SEL : Nat := 0x40050040
def SBX_SEL_slot : RegField := ⟨SBX_SEL, 3, 0⟩
/-- SBX_CTRL (spec/14_faults_records.md). -/
def SBX_CTRL : Nat := 0x40050044
def SBX_CTRL_key : RegField := ⟨SBX_CTRL, 31, 16⟩
def SBX_CTRL_clear_keep : RegField := ⟨SBX_CTRL, 1, 1⟩
def SBX_CTRL_snap : RegField := ⟨SBX_CTRL, 0, 0⟩
/-- SBX_WINDOW (spec/14_faults_records.md). -/
def SBX_WINDOW (i : Nat) : Nat := 0x40058000 + 0x4 * i
def SBX_WINDOW_data (i : Nat) : RegField := ⟨SBX_WINDOW i, 31, 0⟩
/-- SVC_STAT (spec/14_faults_records.md). -/
def SVC_STAT : Nat := 0x40150000
def SVC_STAT_unlocked : RegField := ⟨SVC_STAT, 31, 31⟩
def SVC_STAT_frames : RegField := ⟨SVC_STAT, 15, 0⟩
/-- SVC_UNLOCK (spec/14_faults_records.md). -/
def SVC_UNLOCK : Nat := 0x40150004
def SVC_UNLOCK_key : RegField := ⟨SVC_UNLOCK, 15, 0⟩

/-- The registers of block CFG (n = 0). -/
def regsCFG : List RegDesc :=
  [⟨0x0, 0x4, 1, [⟨31, 16, .ro, 0x5120⟩, ⟨15, 8, .ro, 0xC2⟩, ⟨7, 0, .ro, 0x1⟩]⟩,
   ⟨0x4, 0x4, 1, [⟨31, 0, .ro, 0x0⟩]⟩,
   ⟨0x8, 0x4, 1, [⟨31, 0, .ro, 0x0⟩]⟩,
   ⟨0xC, 0x4, 1, [⟨31, 5, .ro, 0x0⟩, ⟨4, 4, .ro, 0x0⟩, ⟨3, 0, .ro, 0x0⟩]⟩,
   ⟨0x10, 0x4, 1, [⟨31, 31, .ro, 0x0⟩, ⟨30, 28, .ro, 0x0⟩, ⟨27, 26, .ro, 0x0⟩, ⟨25, 24, .ro, 0x3⟩, ⟨23, 16, .ro, 0x0⟩, ⟨15, 8, .ro, 0x1⟩, ⟨7, 0, .ro, 0x1⟩]⟩,
   ⟨0x14, 0x4, 1, [⟨31, 0, .ro, 0x0⟩]⟩] ++
  [⟨0x18, 0x4, 1, [⟨31, 0, .ro, 0x0⟩]⟩,
   ⟨0x1C, 0x4, 1, [⟨31, 0, .ro, 0x0⟩]⟩,
   ⟨0x20, 0x4, 1, [⟨31, 3, .ro, 0x0⟩, ⟨2, 2, .ro, 0x0⟩, ⟨1, 1, .ro, 0x0⟩, ⟨0, 0, .ro, 0x0⟩]⟩,
   ⟨0x24, 0x4, 1, [⟨31, 16, .ro, 0x0⟩, ⟨15, 8, .ro, 0x0⟩, ⟨7, 0, .ro, 0x0⟩]⟩,
   ⟨0x30, 0x4, 1, [⟨31, 30, .ro, 0x0⟩, ⟨29, 29, .ro, 0x0⟩, ⟨28, 24, .ro, 0x0⟩, ⟨23, 16, .ro, 0x0⟩, ⟨15, 0, .ro, 0x0⟩]⟩,
   ⟨0x34, 0x4, 1, [⟨31, 0, .ro, 0x0⟩]⟩]

/-- The registers of block PWR (n = 1). -/
def regsPWR : List RegDesc :=
  [⟨0x800, 0x4, 1, [⟨31, 0, .ro, 0x0⟩]⟩,
   ⟨0x804, 0x4, 1, [⟨31, 0, .ro, 0x0⟩]⟩,
   ⟨0x808, 0x4, 1, [⟨31, 0, .ro, 0x0⟩]⟩,
   ⟨0x80C, 0x4, 1, [⟨31, 0, .ro, 0x0⟩]⟩,
   ⟨0x810, 0x4, 1, [⟨31, 17, .ro, 0x0⟩, ⟨16, 16, .ro, 0x0⟩, ⟨15, 0, .ro, 0x0⟩]⟩,
   ⟨0x820, 0x4, 9, [⟨31, 0, .ro, 0x0⟩]⟩] ++
  [⟨0x0, 0x4, 3, [⟨31, 0, .ro, 0xAAAAAAAA⟩]⟩,
   ⟨0x100, 0x4, 8, [⟨31, 29, .ro, 0x0⟩, ⟨28, 27, .ro, 0x0⟩, ⟨26, 24, .ro, 0x0⟩, ⟨23, 22, .ro, 0x0⟩, ⟨21, 16, .ro, 0x0⟩, ⟨15, 0, .ro, 0x0⟩]⟩,
   ⟨0x180, 0x4, 1, [⟨31, 28, .ro, 0x0⟩, ⟨27, 24, .ro, 0x0⟩, ⟨23, 19, .ro, 0x0⟩, ⟨18, 16, .ro, 0x0⟩, ⟨15, 0, .ro, 0x0⟩]⟩,
   ⟨0x184, 0x4, 1, [⟨31, 0, .ro, 0x0⟩]⟩,
   ⟨0x200, 0x10, 16, [⟨31, 24, .rw, 0x0⟩, ⟨23, 12, .rw, 0x0⟩, ⟨11, 0, .rw, 0x0⟩]⟩,
   ⟨0x204, 0x10, 16, [⟨31, 16, .ro, 0x0⟩, ⟨15, 0, .ro, 0xFFFF⟩]⟩] ++
  [⟨0x208, 0x10, 16, [⟨31, 16, .ro, 0x0⟩, ⟨15, 0, .ro, 0x0⟩]⟩,
   ⟨0x300, 0x4, 1, [⟨31, 31, .ro, 0x0⟩, ⟨30, 30, .ro, 0x0⟩, ⟨29, 8, .ro, 0x0⟩, ⟨7, 0, .ro, 0x0⟩]⟩]

/-- The registers of block THM (n = 2). -/
def regsTHM : List RegDesc :=
  [⟨0x0, 0x4, 1, [⟨31, 24, .ro, 0x9E⟩, ⟨23, 16, .ro, 0x91⟩, ⟨15, 8, .ro, 0x87⟩, ⟨7, 0, .ro, 0x78⟩]⟩,
   ⟨0x4, 0x4, 1, [⟨31, 31, .ro, 0x0⟩, ⟨30, 30, .ro, 0x0⟩, ⟨29, 28, .ro, 0x0⟩, ⟨27, 26, .ro, 0x0⟩, ⟨25, 25, .ro, 0x0⟩, ⟨24, 24, .ro, 0x0⟩, ⟨23, 16, .ro, 0x0⟩, ⟨15, 5, .ro, 0x0⟩, ⟨4, 0, .ro, 0x18⟩]⟩,
   ⟨0x8, 0x4, 1, [⟨31, 16, .ro, 0x0⟩, ⟨15, 9, .ro, 0x0⟩, ⟨8, 8, .ro, 0x0⟩, ⟨7, 5, .ro, 0x0⟩, ⟨4, 0, .ro, 0x0⟩]⟩,
   ⟨0xC, 0x4, 1, [⟨31, 0, .ro, 0x0⟩]⟩,
   ⟨0x100, 0x4, 24, [⟨31, 16, .ro, 0x0⟩, ⟨15, 10, .ro, 0x0⟩, ⟨9, 8, .ro, 0x0⟩, ⟨7, 7, .ro, 0x0⟩, ⟨6, 0, .ro, 0x0⟩]⟩,
   ⟨0x200, 0x4, 16, [⟨31, 12, .ro, 0x0⟩, ⟨11, 0, .ro, 0x0⟩]⟩]

/-- The registers of block EVT (n = 3). -/
def regsEVT : List RegDesc :=
  [⟨0x0, 0x4, 64, [⟨31, 0, .rw, 0x0⟩]⟩,
   ⟨0x100, 0x4, 8, [⟨31, 0, .w1c, 0x0⟩]⟩,
   ⟨0x200, 0x4, 1, [⟨31, 6, .ro, 0x0⟩, ⟨5, 0, .ro, 0x0⟩]⟩,
   ⟨0x204, 0x4, 1, [⟨31, 0, .ro, 0x0⟩]⟩,
   ⟨0x300, 0x4, 1, [⟨31, 16, .ro, 0x0⟩, ⟨15, 8, .wo, 0x0⟩, ⟨7, 0, .wo, 0x0⟩]⟩]

/-- The registers of block GBK (n = 4). -/
def regsGBK : List RegDesc :=
  [⟨0x0, 0x4, 1, [⟨31, 0, .ro, 0x0⟩]⟩,
   ⟨0x4, 0x4, 1, [⟨31, 2, .ro, 0x0⟩, ⟨1, 0, .rw, 0x0⟩]⟩,
   ⟨0x8000, 0x4, 8192, [⟨31, 0, .ro, 0x0⟩]⟩]

/-- The registers of block SBX (n = 5). -/
def regsSBX : List RegDesc :=
  [⟨0x0, 0x4, 1, [⟨31, 31, .ro, 0x0⟩, ⟨30, 30, .ro, 0x0⟩, ⟨29, 20, .ro, 0x0⟩, ⟨19, 16, .ro, 0x0⟩, ⟨15, 0, .ro, 0x0⟩]⟩,
   ⟨0x100, 0x4, 16, [⟨31, 31, .ro, 0x0⟩, ⟨30, 30, .ro, 0x0⟩, ⟨29, 28, .ro, 0x0⟩, ⟨27, 24, .ro, 0x0⟩, ⟨23, 0, .ro, 0x0⟩]⟩,
   ⟨0x40, 0x4, 1, [⟨31, 4, .ro, 0x0⟩, ⟨3, 0, .rw, 0x0⟩]⟩,
   ⟨0x44, 0x4, 1, [⟨31, 16, .wo, 0x0⟩, ⟨15, 2, .ro, 0x0⟩, ⟨1, 1, .wo, 0x0⟩, ⟨0, 0, .wo, 0x0⟩]⟩,
   ⟨0x8000, 0x4, 8192, [⟨31, 0, .ro, 0x0⟩]⟩]

/-- The registers of block TIM (n = 6). -/
def regsTIM : List RegDesc :=
  [⟨0x0, 0x4, 1, [⟨31, 0, .ro, 0x0⟩]⟩,
   ⟨0x4, 0x4, 1, [⟨31, 0, .ro, 0x0⟩]⟩,
   ⟨0x8, 0x4, 1, [⟨31, 0, .ro, 0x0⟩]⟩,
   ⟨0x10, 0x4, 1, [⟨31, 0, .ro, 0x0⟩]⟩,
   ⟨0x14, 0x4, 1, [⟨31, 0, .ro, 0x2⟩]⟩,
   ⟨0x20, 0x4, 1, [⟨31, 28, .ro, 0x0⟩, ⟨27, 24, .ro, 0x0⟩, ⟨23, 17, .ro, 0x0⟩, ⟨16, 16, .ro, 0x0⟩, ⟨15, 9, .ro, 0x0⟩, ⟨8, 8, .ro, 0x0⟩, ⟨7, 0, .ro, 0xFF⟩]⟩] ++
  [⟨0x24, 0x4, 1, [⟨31, 0, .ro, 0x0⟩]⟩,
   ⟨0x28, 0x4, 1, [⟨31, 16, .ro, 0x0⟩, ⟨15, 0, .ro, 0x0⟩]⟩,
   ⟨0x30, 0x4, 1, [⟨31, 0, .ro, 0x0⟩]⟩,
   ⟨0x34, 0x4, 1, [⟨31, 0, .ro, 0x0⟩]⟩]

/-- The registers of block WBS (n = 7). -/
def regsWBS : List RegDesc :=
  [⟨0x0, 0x4, 1, [⟨31, 31, .ro, 0x0⟩, ⟨30, 30, .ro, 0x0⟩, ⟨29, 29, .ro, 0x0⟩, ⟨28, 28, .ro, 0x0⟩, ⟨27, 24, .ro, 0x0⟩, ⟨23, 16, .ro, 0x0⟩, ⟨15, 13, .ro, 0x0⟩, ⟨12, 8, .ro, 0x0⟩, ⟨7, 6, .ro, 0x0⟩, ⟨5, 0, .ro, 0x0⟩]⟩,
   ⟨0x4, 0x4, 1, [⟨31, 8, .ro, 0x0⟩, ⟨7, 0, .rw, 0xC⟩]⟩,
   ⟨0x10, 0x4, 1, [⟨31, 0, .ro, 0x0⟩]⟩,
   ⟨0x14, 0x4, 1, [⟨31, 0, .ro, 0x0⟩]⟩,
   ⟨0x18, 0x4, 1, [⟨31, 0, .ro, 0x0⟩]⟩,
   ⟨0x1C, 0x4, 1, [⟨31, 0, .ro, 0x0⟩]⟩]

/-- The registers of block LNK (n = 8). -/
def regsLNK : List RegDesc :=
  [⟨0x0, 0x4, 1, [⟨31, 28, .ro, 0x0⟩, ⟨27, 24, .ro, 0x0⟩, ⟨23, 20, .ro, 0x0⟩, ⟨19, 16, .ro, 0x0⟩, ⟨15, 12, .ro, 0x0⟩, ⟨11, 10, .ro, 0x0⟩, ⟨9, 2, .ro, 0x0⟩, ⟨1, 1, .ro, 0x0⟩, ⟨0, 0, .ro, 0x0⟩]⟩,
   ⟨0x100, 0x20, 2, [⟨31, 0, .ro, 0x0⟩]⟩,
   ⟨0x104, 0x20, 2, [⟨31, 0, .ro, 0x0⟩]⟩,
   ⟨0x108, 0x20, 2, [⟨31, 0, .ro, 0x0⟩]⟩,
   ⟨0x10C, 0x20, 2, [⟨31, 16, .ro, 0x0⟩, ⟨15, 0, .ro, 0x0⟩]⟩,
   ⟨0x110, 0x20, 2, [⟨31, 0, .ro, 0x0⟩]⟩] ++
  [⟨0x204, 0x4, 3, [⟨31, 16, .ro, 0x0⟩, ⟨15, 0, .ro, 0x0⟩]⟩,
   ⟨0x214, 0x4, 3, [⟨31, 16, .ro, 0x0⟩, ⟨15, 0, .ro, 0x0⟩]⟩,
   ⟨0x300, 0x4, 1, [⟨31, 2, .ro, 0x0⟩, ⟨1, 1, .wo, 0x0⟩, ⟨0, 0, .wo, 0x0⟩]⟩]

/-- The registers of block LPH (n = 9). -/
def regsLPH : List RegDesc :=
  [⟨0x0, 0x400, 32, [⟨31, 24, .ro, 0x0⟩, ⟨23, 20, .ro, 0x0⟩, ⟨19, 4, .ro, 0x0⟩, ⟨3, 3, .ro, 0x0⟩, ⟨2, 2, .ro, 0x0⟩, ⟨1, 1, .ro, 0x0⟩, ⟨0, 0, .ro, 0x0⟩]⟩,
   ⟨0x4, 0x400, 32, [⟨31, 21, .ro, 0x0⟩, ⟨20, 16, .rw, 0xA⟩, ⟨15, 12, .ro, 0x0⟩, ⟨11, 8, .rw, 0x4⟩, ⟨7, 1, .ro, 0x0⟩, ⟨0, 0, .rw, 0x0⟩]⟩,
   ⟨0x8, 0x400, 32, [⟨31, 30, .rw, 0x0⟩, ⟨29, 9, .ro, 0x0⟩, ⟨8, 8, .wo, 0x0⟩, ⟨7, 5, .ro, 0x0⟩, ⟨4, 0, .rw, 0x0⟩]⟩,
   ⟨0xC, 0x400, 32, [⟨31, 0, .ro, 0x0⟩]⟩,
   ⟨0x10, 0x400, 32, [⟨31, 31, .wo, 0x0⟩, ⟨30, 16, .ro, 0x0⟩, ⟨15, 0, .ro, 0x0⟩]⟩]

/-- The registers of block PTR (n = 10). -/
def regsPTR : List RegDesc :=
  [⟨0x0, 0x4, 1, [⟨31, 28, .ro, 0x0⟩, ⟨27, 16, .ro, 0x0⟩, ⟨15, 7, .ro, 0x0⟩, ⟨6, 0, .ro, 0x0⟩]⟩,
   ⟨0x4, 0x4, 1, [⟨31, 26, .ro, 0x0⟩, ⟨25, 16, .ro, 0x0⟩, ⟨15, 11, .ro, 0x0⟩, ⟨10, 0, .ro, 0x0⟩]⟩,
   ⟨0x100, 0x10, 4, [⟨31, 0, .ro, 0x0⟩]⟩,
   ⟨0x104, 0x10, 4, [⟨31, 0, .ro, 0x0⟩]⟩,
   ⟨0x108, 0x10, 4, [⟨31, 31, .ro, 0x0⟩, ⟨30, 20, .ro, 0x0⟩, ⟨19, 16, .ro, 0x0⟩, ⟨15, 3, .ro, 0x0⟩, ⟨2, 0, .ro, 0x0⟩]⟩,
   ⟨0x10C, 0x10, 4, [⟨31, 31, .ro, 0x0⟩, ⟨30, 30, .ro, 0x0⟩, ⟨29, 20, .ro, 0x0⟩, ⟨19, 16, .ro, 0x0⟩, ⟨15, 0, .ro, 0x0⟩]⟩] ++
  [⟨0x200, 0x10, 3, [⟨31, 16, .ro, 0x0⟩, ⟨15, 0, .rw, 0x1⟩]⟩,
   ⟨0x204, 0x10, 3, [⟨31, 24, .ro, 0x0⟩, ⟨23, 0, .rw, 0x10⟩]⟩,
   ⟨0x300, 0x4, 1, [⟨31, 1, .ro, 0x0⟩, ⟨0, 0, .rw, 0x0⟩]⟩]

/-- The registers of block INK (n = 11). -/
def regsINK : List RegDesc :=
  [⟨0x0, 0x4, 1, [⟨31, 18, .ro, 0x0⟩, ⟨17, 0, .ro, 0x0⟩]⟩,
   ⟨0x4, 0x4, 1, [⟨31, 18, .ro, 0x0⟩, ⟨17, 0, .ro, 0x0⟩]⟩,
   ⟨0x100, 0x8, 16, [⟨31, 17, .ro, 0x0⟩, ⟨16, 0, .ro, 0x0⟩]⟩,
   ⟨0x104, 0x8, 16, [⟨31, 18, .ro, 0x0⟩, ⟨17, 0, .ro, 0x0⟩]⟩,
   ⟨0x180, 0x4, 1, [⟨31, 4, .ro, 0x0⟩, ⟨3, 0, .ro, 0x0⟩]⟩,
   ⟨0x200, 0x4, 1, [⟨31, 29, .ro, 0x0⟩, ⟨28, 16, .ro, 0x0⟩, ⟨15, 13, .ro, 0x0⟩, ⟨12, 0, .ro, 0x0⟩]⟩] ++
  [⟨0x204, 0x4, 1, [⟨31, 27, .ro, 0x0⟩, ⟨26, 16, .ro, 0x0⟩, ⟨15, 11, .ro, 0x0⟩, ⟨10, 0, .ro, 0x0⟩]⟩,
   ⟨0x208, 0x4, 1, [⟨31, 0, .ro, 0x0⟩]⟩,
   ⟨0x300, 0x4, 1, [⟨31, 31, .w1c, 0x0⟩, ⟨30, 28, .ro, 0x0⟩, ⟨27, 24, .ro, 0x0⟩, ⟨23, 16, .ro, 0x0⟩, ⟨15, 1, .ro, 0x0⟩, ⟨0, 0, .ro, 0x0⟩]⟩,
   ⟨0x304, 0x4, 1, [⟨31, 0, .ro, 0x0⟩]⟩,
   ⟨0x308, 0x4, 1, [⟨31, 5, .ro, 0x0⟩, ⟨4, 0, .ro, 0x0⟩]⟩]

/-- The registers of block RAY (n = 12). -/
def regsRAY : List RegDesc :=
  [⟨0x0, 0x100, 4, [⟨31, 18, .ro, 0x0⟩, ⟨17, 16, .rw, 0x0⟩, ⟨15, 13, .ro, 0x0⟩, ⟨12, 12, .rw, 0x0⟩, ⟨11, 9, .ro, 0x0⟩, ⟨8, 8, .rw, 0x0⟩, ⟨7, 6, .rw, 0x0⟩, ⟨5, 4, .rw, 0x0⟩, ⟨3, 3, .ro, 0x0⟩, ⟨2, 2, .rw, 0x0⟩, ⟨1, 0, .rw, 0x0⟩]⟩,
   ⟨0x4, 0x100, 4, [⟨31, 16, .ro, 0x0⟩, ⟨15, 0, .rw, 0x8000⟩]⟩,
   ⟨0x8, 0x100, 4, [⟨31, 17, .ro, 0x0⟩, ⟨16, 16, .ro, 0x1⟩, ⟨15, 8, .ro, 0xFF⟩, ⟨7, 5, .ro, 0x0⟩, ⟨4, 0, .ro, 0x0⟩]⟩,
   ⟨0xC, 0x100, 4, [⟨31, 0, .ro, 0x0⟩]⟩,
   ⟨0x10, 0x100, 4, [⟨31, 3, .ro, 0x0⟩, ⟨2, 0, .ro, 0x0⟩]⟩,
   ⟨0x14, 0x100, 4, [⟨31, 12, .ro, 0x0⟩, ⟨11, 8, .rw, 0x0⟩, ⟨7, 4, .rw, 0x0⟩, ⟨3, 0, .ro, 0x0⟩]⟩] ++
  [⟨0x800, 0x4, 1, [⟨31, 24, .ro, 0x0⟩, ⟨23, 0, .ro, 0x0⟩]⟩]

/-- The registers of block ENG (n = 13). -/
def regsENG : List RegDesc :=
  [⟨0x0, 0x10, 32, [⟨31, 16, .ro, 0x0⟩, ⟨15, 8, .ro, 0x0⟩, ⟨7, 4, .ro, 0x0⟩, ⟨3, 1, .ro, 0x0⟩, ⟨0, 0, .ro, 0x0⟩]⟩,
   ⟨0x4, 0x10, 32, [⟨31, 0, .ro, 0x0⟩]⟩,
   ⟨0x8, 0x10, 32, [⟨31, 28, .ro, 0x0⟩, ⟨27, 24, .ro, 0x0⟩, ⟨23, 22, .ro, 0x0⟩, ⟨21, 20, .ro, 0x0⟩, ⟨19, 0, .ro, 0x0⟩]⟩,
   ⟨0xC, 0x10, 32, [⟨31, 16, .ro, 0x0⟩, ⟨15, 13, .ro, 0x0⟩, ⟨12, 0, .ro, 0x0⟩]⟩,
   ⟨0x400, 0x8, 4, [⟨31, 31, .ro, 0x0⟩, ⟨30, 30, .ro, 0x0⟩, ⟨29, 29, .ro, 0x0⟩, ⟨28, 28, .ro, 0x0⟩, ⟨27, 24, .ro, 0x0⟩, ⟨23, 16, .ro, 0x0⟩, ⟨15, 14, .ro, 0x0⟩, ⟨13, 0, .ro, 0x0⟩]⟩,
   ⟨0x404, 0x8, 4, [⟨31, 16, .ro, 0x0⟩, ⟨15, 13, .ro, 0x0⟩, ⟨12, 0, .ro, 0x0⟩]⟩] ++
  [⟨0x420, 0x4, 4, [⟨31, 31, .wo, 0x0⟩, ⟨30, 16, .ro, 0x0⟩, ⟨15, 0, .ro, 0x0⟩]⟩,
   ⟨0x430, 0x4, 1, [⟨31, 17, .ro, 0x0⟩, ⟨16, 16, .ro, 0x0⟩, ⟨15, 12, .ro, 0x0⟩, ⟨11, 0, .ro, 0x0⟩]⟩]

/-- The registers of block CDC (n = 14). -/
def regsCDC : List RegDesc :=
  [⟨0x0, 0x100, 16, [⟨31, 31, .ro, 0x0⟩, ⟨30, 30, .ro, 0x0⟩, ⟨29, 28, .ro, 0x0⟩, ⟨27, 24, .ro, 0x0⟩, ⟨23, 16, .ro, 0x0⟩, ⟨15, 12, .ro, 0x0⟩, ⟨11, 0, .ro, 0x0⟩]⟩,
   ⟨0x4, 0x100, 16, [⟨31, 0, .ro, 0x0⟩]⟩,
   ⟨0x8, 0x100, 16, [⟨31, 0, .ro, 0x0⟩]⟩,
   ⟨0xC, 0x100, 16, [⟨31, 0, .ro, 0x0⟩]⟩,
   ⟨0x10, 0x100, 16, [⟨31, 0, .ro, 0x0⟩]⟩,
   ⟨0x14, 0x100, 16, [⟨31, 0, .ro, 0x0⟩]⟩] ++
  [⟨0x1000, 0x4, 1, [⟨31, 29, .ro, 0x0⟩, ⟨28, 16, .ro, 0x0⟩, ⟨15, 0, .ro, 0x0⟩]⟩]

/-- The registers of block SCN (n = 15). -/
def regsSCN : List RegDesc :=
  [⟨0x0, 0x100, 4, [⟨31, 13, .ro, 0x0⟩, ⟨12, 8, .ro, 0x0⟩, ⟨7, 6, .ro, 0x0⟩, ⟨5, 4, .ro, 0x0⟩, ⟨3, 3, .ro, 0x0⟩, ⟨2, 2, .ro, 0x0⟩, ⟨1, 1, .ro, 0x0⟩, ⟨0, 0, .ro, 0x0⟩]⟩,
   ⟨0x4, 0x100, 4, [⟨31, 0, .ro, 0x0⟩]⟩,
   ⟨0x8, 0x100, 4, [⟨31, 0, .ro, 0x0⟩]⟩,
   ⟨0xC, 0x100, 4, [⟨31, 0, .ro, 0x0⟩]⟩,
   ⟨0x10, 0x100, 4, [⟨31, 0, .ro, 0x0⟩]⟩,
   ⟨0x14, 0x100, 4, [⟨31, 0, .ro, 0x0⟩]⟩] ++
  [⟨0x18, 0x100, 4, [⟨31, 30, .ro, 0x0⟩, ⟨29, 20, .rw, 0x0⟩, ⟨19, 10, .rw, 0x0⟩, ⟨9, 0, .rw, 0x0⟩]⟩]

/-- The registers of block PNL (n = 16). -/
def regsPNL : List RegDesc :=
  [⟨0x0, 0x100, 4, [⟨31, 24, .ro, 0x0⟩, ⟨23, 20, .ro, 0x0⟩, ⟨19, 16, .ro, 0x0⟩, ⟨15, 13, .ro, 0x0⟩, ⟨12, 12, .ro, 0x0⟩, ⟨11, 11, .ro, 0x0⟩, ⟨10, 8, .ro, 0x0⟩, ⟨7, 4, .ro, 0xF⟩, ⟨3, 0, .ro, 0x0⟩]⟩,
   ⟨0x4, 0x100, 4, [⟨31, 16, .ro, 0x0⟩, ⟨15, 0, .ro, 0x0⟩]⟩,
   ⟨0x8, 0x100, 4, [⟨31, 16, .ro, 0x0⟩, ⟨15, 0, .ro, 0x0⟩]⟩,
   ⟨0xC, 0x100, 4, [⟨31, 16, .ro, 0x0⟩, ⟨15, 9, .ro, 0x0⟩, ⟨8, 8, .ro, 0x0⟩, ⟨7, 7, .ro, 0x0⟩, ⟨6, 4, .ro, 0x0⟩, ⟨3, 3, .ro, 0x0⟩, ⟨2, 0, .ro, 0x0⟩]⟩,
   ⟨0x10, 0x100, 4, [⟨31, 12, .ro, 0x0⟩, ⟨11, 0, .ro, 0x0⟩]⟩,
   ⟨0x1000, 0x4, 256, [⟨31, 0, .ro, 0x0⟩]⟩]

/-- The registers of block DRC (n = 17). -/
def regsDRC : List RegDesc :=
  [⟨0x0, 0x1000, 8, [⟨31, 12, .ro, 0x0⟩, ⟨11, 10, .ro, 0x0⟩, ⟨9, 9, .ro, 0x0⟩, ⟨8, 8, .ro, 0x0⟩, ⟨7, 3, .ro, 0x0⟩, ⟨2, 0, .ro, 0x0⟩]⟩,
   ⟨0x4, 0x1000, 8, [⟨31, 0, .ro, 0x0⟩]⟩,
   ⟨0x8, 0x1000, 8, [⟨31, 16, .ro, 0x0⟩, ⟨15, 0, .ro, 0x0⟩]⟩,
   ⟨0xC, 0x1000, 8, [⟨31, 24, .ro, 0x0⟩, ⟨23, 10, .ro, 0x0⟩, ⟨9, 0, .ro, 0xA⟩]⟩,
   ⟨0x10, 0x1000, 8, [⟨31, 6, .ro, 0x0⟩, ⟨5, 4, .ro, 0x0⟩, ⟨3, 0, .ro, 0x0⟩]⟩,
   ⟨0x14, 0x1000, 8, [⟨31, 24, .ro, 0x0⟩, ⟨23, 16, .ro, 0x0⟩, ⟨15, 8, .ro, 0x0⟩, ⟨7, 0, .ro, 0x0⟩]⟩] ++
  [⟨0x8000, 0x4, 1, [⟨31, 11, .ro, 0x0⟩, ⟨10, 10, .ro, 0x0⟩, ⟨9, 9, .ro, 0x0⟩, ⟨8, 8, .ro, 0x0⟩, ⟨7, 4, .ro, 0x0⟩, ⟨3, 2, .ro, 0x0⟩, ⟨1, 0, .ro, 0x0⟩]⟩,
   ⟨0x8004, 0x4, 1, [⟨31, 22, .rw, 0x280⟩, ⟨21, 10, .rw, 0x32⟩, ⟨9, 0, .rw, 0xA⟩]⟩,
   ⟨0x8008, 0x4, 1, [⟨31, 24, .ro, 0x0⟩, ⟨23, 16, .rw, 0x18⟩, ⟨15, 0, .rw, 0x10⟩]⟩,
   ⟨0x800C, 0x4, 1, [⟨31, 8, .ro, 0x0⟩, ⟨7, 0, .rw, 0x5⟩]⟩,
   ⟨0x8010, 0x4, 1, [⟨31, 31, .ro, 0x0⟩, ⟨30, 28, .ro, 0x0⟩, ⟨27, 25, .ro, 0x0⟩, ⟨24, 22, .ro, 0x0⟩, ⟨21, 16, .ro, 0x0⟩, ⟨15, 8, .ro, 0x0⟩, ⟨7, 0, .ro, 0x0⟩]⟩,
   ⟨0x8014, 0x4, 1, [⟨31, 0, .ro, 0x0⟩]⟩] ++
  [⟨0x8018, 0x4, 1, [⟨31, 5, .ro, 0x0⟩, ⟨4, 0, .ro, 0x0⟩]⟩,
   ⟨0x9000, 0x4, 1024, [⟨31, 0, .ro, 0x0⟩]⟩,
   ⟨0xA000, 0x4, 1, [⟨31, 16, .wo, 0x0⟩, ⟨15, 3, .ro, 0x0⟩, ⟨2, 2, .ro, 0x0⟩, ⟨1, 1, .wo, 0x0⟩, ⟨0, 0, .wo, 0x0⟩]⟩,
   ⟨0xA004, 0x4, 1, [⟨31, 0, .rw, 0x0⟩]⟩,
   ⟨0xA008, 0x4, 1, [⟨31, 5, .ro, 0x0⟩, ⟨4, 0, .rw, 0x0⟩]⟩,
   ⟨0xA040, 0x4, 16, [⟨31, 0, .ro, 0x0⟩]⟩] ++
  [⟨0xA080, 0x4, 2, [⟨31, 0, .ro, 0x0⟩]⟩,
   ⟨0xA088, 0x4, 2, [⟨31, 0, .ro, 0x0⟩]⟩]

/-- The registers of block CAM (n = 18). -/
def regsCAM : List RegDesc :=
  [⟨0x0, 0x100, 8, [⟨31, 30, .ro, 0x0⟩, ⟨29, 27, .ro, 0x0⟩, ⟨26, 26, .ro, 0x0⟩, ⟨25, 24, .ro, 0x0⟩, ⟨23, 10, .ro, 0x0⟩, ⟨9, 0, .ro, 0x0⟩]⟩,
   ⟨0x4, 0x100, 8, [⟨31, 0, .ro, 0x0⟩]⟩,
   ⟨0x8, 0x100, 8, [⟨31, 30, .ro, 0x0⟩, ⟨29, 16, .ro, 0x0⟩, ⟨15, 14, .ro, 0x0⟩, ⟨13, 0, .ro, 0x0⟩]⟩,
   ⟨0xC, 0x100, 8, [⟨31, 0, .ro, 0x0⟩]⟩,
   ⟨0x10, 0x100, 8, [⟨31, 0, .ro, 0x0⟩]⟩,
   ⟨0x14, 0x100, 8, [⟨31, 16, .ro, 0x0⟩, ⟨15, 0, .ro, 0x0⟩]⟩] ++
  [⟨0x18, 0x100, 8, [⟨31, 0, .ro, 0x0⟩]⟩]

/-- The registers of block ISP (n = 19). -/
def regsISP : List RegDesc :=
  [⟨0x0, 0x4, 1, [⟨31, 16, .ro, 0x0⟩, ⟨15, 6, .ro, 0x0⟩, ⟨5, 5, .ro, 0x0⟩, ⟨4, 4, .ro, 0x0⟩, ⟨3, 3, .ro, 0x0⟩, ⟨2, 0, .ro, 0x0⟩]⟩,
   ⟨0x100, 0x10, 8, [⟨31, 16, .rw, 0x1000⟩, ⟨15, 0, .rw, 0x1000⟩]⟩,
   ⟨0x104, 0x10, 8, [⟨31, 16, .rw, 0x1000⟩, ⟨15, 0, .rw, 0x1000⟩]⟩,
   ⟨0x108, 0x10, 8, [⟨31, 0, .ro, 0x0⟩]⟩]

/-- The registers of block BLT (n = 20). -/
def regsBLT : List RegDesc :=
  [⟨0x0, 0x4, 1, [⟨31, 31, .ro, 0x0⟩, ⟨30, 30, .ro, 0x0⟩, ⟨29, 28, .ro, 0x0⟩, ⟨27, 12, .ro, 0x0⟩, ⟨11, 0, .ro, 0x0⟩]⟩,
   ⟨0x4, 0x4, 1, [⟨31, 0, .ro, 0x0⟩]⟩,
   ⟨0x8, 0x4, 1, [⟨31, 0, .ro, 0x0⟩]⟩,
   ⟨0xC, 0x4, 1, [⟨31, 30, .ro, 0x0⟩, ⟨29, 28, .ro, 0x0⟩, ⟨27, 24, .ro, 0x0⟩, ⟨23, 12, .ro, 0x0⟩, ⟨11, 0, .ro, 0x0⟩]⟩,
   ⟨0x10, 0x4, 1, [⟨31, 10, .ro, 0x0⟩, ⟨9, 0, .rw, 0x0⟩]⟩,
   ⟨0x20, 0x4, 4, [⟨31, 31, .ro, 0x0⟩, ⟨30, 18, .ro, 0x0⟩, ⟨17, 16, .ro, 0x0⟩, ⟨15, 0, .ro, 0x0⟩]⟩]

/-- The registers of block SVC (n = 21). -/
def regsSVC : List RegDesc :=
  [⟨0x0, 0x4, 1, [⟨31, 31, .ro, 0x0⟩, ⟨30, 16, .ro, 0x0⟩, ⟨15, 0, .ro, 0x0⟩]⟩,
   ⟨0x4, 0x4, 1, [⟨31, 16, .ro, 0x0⟩, ⟨15, 0, .wo, 0x0⟩]⟩]

/-- The registers of block n (R2). -/
def blockRegs : Nat → List RegDesc
  | 0 => regsCFG
  | 1 => regsPWR
  | 2 => regsTHM
  | 3 => regsEVT
  | 4 => regsGBK
  | 5 => regsSBX
  | 6 => regsTIM
  | 7 => regsWBS
  | 8 => regsLNK
  | 9 => regsLPH
  | 10 => regsPTR
  | 11 => regsINK
  | 12 => regsRAY
  | 13 => regsENG
  | 14 => regsCDC
  | 15 => regsSCN
  | 16 => regsPNL
  | 17 => regsDRC
  | 18 => regsCAM
  | 19 => regsISP
  | 20 => regsBLT
  | 21 => regsSVC
  | _ => []

/-- The description of the register at an offset of a block, and its index within its array. -/
def findReg (off : Nat) : List RegDesc → Option (RegDesc × Nat)
  | [] => none
  | d :: ds =>
    if d.base ≤ off && (off - d.base) % d.stride = 0 && (off - d.base) / d.stride < d.count then
      some (d, (off - d.base) / d.stride)
    else findReg off ds

/-- Lies an address in the register space of R2 and R5? -/
def inRegSpace (a : Nat) : Bool := 0x40000000 ≤ a && a < 0x40160000

/-- The block number of an address of the register space. -/
def blockOf (a : Nat) : Nat := (a - 0x40000000) / 0x10000

/-- The register at an address (none in a hole of a block window, R4). -/
def regAt (a : Nat) : Option (RegDesc × Nat) :=
  if inRegSpace a then findReg ((a - 0x40000000) % 0x10000) (blockRegs (blockOf a)) else none

/-- The bits of a register whose access code is c. -/
def accMask (d : RegDesc) (c : Acc) : Nat :=
  d.fields.foldl (fun m f => if f.acc = c then m ||| ((2 ^ (f.hi + 1 - f.lo) - 1) * 2 ^ f.lo) else m) 0

/-- The reset value that a register's field table gives. -/
def tableReset (d : RegDesc) : Nat := d.fields.foldl (fun m f => m ||| (f.rst * 2 ^ f.lo)) 0

/-- WARN, RESET and hysteresis of monitor m in mV (R424). -/
def monDefault (m : Nat) : Nat × Nat × Nat :=
  if m < 4 then (713, 675, 8)
  else if m < 7 then (760, 720, 8)
  else if m < 9 then (1140, 1080, 12)
  else if m = 9 then (808, 765, 9)
  else if m = 10 then (1140, 1080, 12)
  else if m < 13 then (855, 810, 9)
  else if m = 13 then (1710, 1620, 18)
  else if m = 14 then (1140, 1080, 12)
  else (1710, 1620, 18)

/-- The nominal voltage of monitor m in mV (R424). -/
def monNominal (m : Nat) : Nat :=
  if m < 4 then 750 else if m < 7 then 800 else if m < 9 then 1200 else if m = 9 then 850 else if m = 10 then 1200
  else if m < 13 then 900 else if m = 13 then 1800 else if m = 14 then 1200 else 1800

/-- The default routing byte of event n without bit 1 (R480): 1 G, 4 F, 8 P, 16 B. -/
def defaultRoute (n : Nat) : Nat :=
  if n = 56 || n = 57 then 0x0D
  else if n = 109 || n = 123 then 0x09
  else if 144 ≤ n && n < 148 then 0x1D
  else if n = 202 then 0x0D
  else if 176 ≤ n && n < 208 then 0x09
  else if n = 228 then 0x19
  else if n = 233 then 0x0D
  else if n = 246 then 0x05
  else if n = 252 then 0x0D
  else 0x01

/-- Bit 1 of the routing byte as the Concierge firmware sets it (R515). -/
def firmwareIrq (n : Nat) : Bool :=
  n < 32 || n = 56 || n = 57 || (64 ≤ n && n ≤ 97) || n = 109 || (112 ≤ n && n ≤ 127) || (144 ≤ n && n ≤ 163) ||
  (176 ≤ n && n ≤ 206) || (208 ≤ n && n ≤ 226) || n = 228 || (232 ≤ n && n ≤ 237) || (240 ≤ n && n ≤ 251) || 253 ≤ n

/-- The Reset value of the register at an address (R11): its field table's, or per instance for the monitor thresholds
(R424) and the routing bytes (R480). The fields that the manual gives as sampled, fused, per die or per MRAM read from
their own state. -/
def resetOf (a : Nat) : Word :=
  match regAt a with
  | none => 0
  | some (d, i) =>
    if blockOf a = 1 && d.base = 0x200 then
      let t := monDefault i
      BitVec.ofNat 32 (t.2.2 * 2 ^ 24 + t.1 * 2 ^ 12 + t.2.1)
    else if blockOf a = 3 && d.base = 0 then
      BitVec.ofNat 32 ((List.range 4).foldr (fun j v => defaultRoute (4 * i + j) + 256 * v) 0)
    else BitVec.ofNat 32 (tableReset d)

end Sys2Proof.Machine
end

