-- ==== Sys2Proof/Config.lean ====
section
/-!
DEFINITION. What one implementation or one die fixes and the manual leaves open: opaque constants, so that no proof can
use a number for them.
-/
namespace Sys2Proof.Config

/-- The fresh free values of the model: the step reads `fresh` of State and applies this (assumption log 2). -/
opaque free : Nat → BitVec 64

/-- What a byte of DRAM that nothing has written since training reads as, by physical address (R448: training step 8
leaves test patterns of unstated content; assumption log 3). -/
opaque dramByte : Nat → Byte

/-- A command that training has issued last, as the freeze history would show it: by the training and the place. -/
opaque trainCommand : Nat → Nat → BitVec 64

/-- The feedback of the 31-bit LFSR of the training pattern (R236), whose taps the manual does not give. -/
opaque lfsrFeedback : BitVec 31 → Bool

/-- The bits that a lane's PRBS generator starts from (R301). -/
opaque prbsStart : Nat → BitVec 31

/-- The check byte of a 64-bit word under the (72,64) SEC-DED code of R220, whose matrix the manual does not give. -/
opaque eccCheck : BitVec 64 → Byte

/-- The cause byte of an event for which no chapter numbers a cause (R474, R480; assumption log 7). -/
opaque openCause : Nat → Byte

/-- The 64-bit die identity of CFG_UID ("per die", chapter 13). -/
opaque dieUid : BitVec 64

/-- An undefined register or local-memory word of an engine at dispatch (R96): the dispatch's own number and the
place. -/
opaque engineUndef : Nat → Nat → Word

/-- Which of the lanes that store different words to one local-memory address in one STV stands last: the manual does not
say (R108). By the dispatch's number and the issue clock; taken modulo the number of such lanes. -/
opaque laneOrder : Nat → Nat → Nat

/-- The linear value of an 8-bit overlay component when the transfer table has 1,024 entries (R57, R78, R118). -/
opaque ovlTable : Nat → Word

/-- The error of a lens phase, which R63 bounds by 2⁻²⁴ period: by output, xs, y and axis. -/
opaque phaseError : Nat → Nat → Nat → Bool → BitVec 64

/-- The raw guess of an SFU operation for an operand (R112): used only where it keeps the manual's error bound. -/
opaque sfuGuess : Nat → Word → Word

/-- The frequency estimate of the time servo at a SYNC (R353), before its bound is applied. -/
opaque servoInc : Nat → BitVec 64

/-- The capture output bytes per frame that admission charges for a camera port (R39, R193): the manual declares no such
figure. -/
opaque captureBytes : Nat → Nat

/-- A byte of a tap, capture or working buffer read before anything has been written to it. -/
opaque bufferByte : Nat → Byte

/-- The value of a CFA colour that no pixel of a frame of one line has, by the coordinates that a stage asks for (R390, R392). -/
opaque missingColour : Int → Int → Nat

/-- The rooms that the CAP and the TAP space give a camera port: the manual states no size for them (R200, R396). -/
opaque capRooms : Nat → Nat
opaque tapRooms : Nat → Nat

end Sys2Proof.Config
end

