-- ==== Sys2Proof/Machine/Records.lean ====
section
/-!
DEFINITION. The Itinerary's records as parsed (R462): what the structured records configure and registers do not hold.
-/
namespace Sys2Proof.Machine

/-- The DRAM record. -/
structure DramRec where
  channels : Nat := 0
  density : Nat := 0
  ranks : Nat := 0
  speed : Nat := 0
  wcrc : Bool := false
  modes : List Nat := []
  deriving DecidableEq, Repr, Inhabited

/-- The LANES record: rate code and FOM_MIN; the lanes' own values go to LPH_CFG. -/
structure LanesRec where
  rate : Nat := 0
  fomMin : Nat := 64
  deriving DecidableEq, Repr, Inhabited

/-- The CARAVAN record: hops used and the chain list, cut to its count. -/
structure CaravanRec where
  upUsed : Bool := false
  dnUsed : Bool := false
  chain : List Nat := []
  deriving DecidableEq, Repr, Inhabited

/-- The TIME record, with the defaults of R346, R349, R352 and R354 when it is absent. -/
structure TimeRec where
  domain : Nat := 0
  logSync : Int := -7
  logPdelay : Int := -4
  lockWaitMs : Nat := 200
  deriving DecidableEq, Repr, Inhabited

/-- One entry of the wall roster (R360). -/
structure RosterEntry where
  node : Nat
  tracker : Bool
  host : Bool
  tile : Bool
  limit : Nat
  mac : BitVec 48
  deriving DecidableEq, Repr, Inhabited

/-- One PHY write of the WALLBUS record (R357). -/
structure PhyWrite where
  mmd : Bool
  regOrDev : Nat
  mmdReg : Nat
  value : Nat
  deriving DecidableEq, Repr, Inhabited

/-- The WALLBUS record. -/
structure WallRec where
  mac : BitVec 48 := 0
  etype : BitVec 16 := 0x88B5
  plca : Bool := false
  nodeId : Nat := 0
  nodeCount : Nat := 0
  timeout : Nat := 32
  phyAddr : Nat := 0
  writes : List PhyWrite := []
  roster : List RosterEntry := []
  key : Bytes := []
  deriving DecidableEq, Repr, Inhabited

/-- One rail channel of the PANEL record (R285): AIN channel, timeout in ms, signed 8.8 mV per code, mV values. -/
structure RailRec where
  ain : Nat := 0
  timeoutMs : Nat := 20
  gain : Int := 0
  offset : Int := 0
  winMin : Int := 0
  winMax : Int := 0
  off : Int := 0
  deriving DecidableEq, Repr, Inhabited

/-- The PANEL record (R277, R285, R290). -/
structure PanelRec where
  pitch : Nat := 0
  layout : Nat := 0
  cdReady : Bool := false
  clearMs : Nat := 30
  thermAin : List Nat := []
  table : List (Nat × Int) := []
  rails : List RailRec := []
  tEq : Nat := 500
  tGh : Nat := 500
  tGl : Nat := 400
  deriving DecidableEq, Repr, Inhabited

/-- The OUTPUT record (R250). -/
structure OutputRec where
  width : Nat := 0
  lines : Nat := 0
  blank : Nat := 0
  chCount : Nat := 0
  period : Nat := 0
  phase : Nat := 0
  chFirst : Nat := 0
  chRate : Nat := 0
  bgRed : Nat := 0
  bgGreen : Nat := 0
  bgBlue : Nat := 0
  staticN : Nat := 0
  staticM : Nat := 0
  deriving DecidableEq, Repr, Inhabited

/-- One band of the BANDS record (R278). -/
structure BandRec where
  lower : Int := 0
  minRefresh : Nat := 0
  maxRefresh : Nat := 0
  inversion : Nat := 0
  n : Nat := 0
  phases : Nat := 0
  lutSet : Nat := 0
  vcomDuty : Nat := 0
  gckRise : Nat := 0
  gckWidth : Nat := 0
  stvLead : Nat := 0
  stvWidth : Nat := 0
  deriving DecidableEq, Repr, Inhabited

/-- The CALIB record (R63–R67, R82): lens values, warp cells, angular map, LUT entries (set after set, three tables of
1,025 each) and decode table. -/
structure CalibRec where
  lensArray : Bool := false
  lutSets : Nat := 0
  pitchU : Nat := 0
  pitchV : Nat := 0
  slantNum : Int := 0
  slantDen : Nat := 0
  phaseU0 : Nat := 0
  phaseV0 : Nat := 0
  lensCode : Nat := 0
  decodeCount : Nat := 0
  cellsX : Nat := 0
  cellsY : Nat := 0
  warp : List (BitVec 64) := []
  amap : List (BitVec 64) := []
  luts : List (BitVec 16) := []
  decode : List (BitVec 16) := []
  deriving DecidableEq, Repr, Inhabited

/-- A RAYPROG record that the loader accepted (R127–R129), with the base the loader gave it. -/
structure ProgRec where
  view : Bool := false
  depth : Bool := false
  tracked : Bool := false
  cost : Nat := 0
  slots : Nat := 0
  vrf : Nat := 0
  code : List Word := []
  deriving DecidableEq, Repr, Inhabited

/-- One overlay plane of the RAYMODE record. -/
structure PlaneRec where
  enable : Bool := false
  depthTest : Bool := false
  dp : Nat := 0
  deriving DecidableEq, Repr, Inhabited

/-- The RAYMODE record (R69). -/
structure RaymodeRec where
  mode : Nat := 0
  tracked : Bool := false
  prog : Nat := 0
  format : Nat := 0
  nu : Nat := 0
  nv : Nat := 0
  depth : Bool := false
  transfer : Nat := 0
  vw : Nat := 0
  vh : Nat := 0
  xtalk : Nat := 0
  depthTol : Nat := 0
  tanU : Word := 0
  tanV : Word := 0
  confMin : Nat := 0
  dither : Nat := 0
  outBits : Nat := 0
  refX : Int := 0
  refY : Int := 0
  ovlBytes : Nat := 0
  planes : List PlaneRec := []
  user : List Word := []
  deriving DecidableEq, Repr, Inhabited

/-- The CODEC record: per output the declared compressed bytes and the out-of-window allowance (R39). -/
structure CodecRec where
  chains : Nat := 0
  encMask : BitVec 16 := 0
  legPool : Nat := 0
  outs : List (Nat × Nat) := []
  deriving DecidableEq, Repr, Inhabited

/-- The STOCK_MAP record (R210–R213). -/
structure StockRec where
  rooms : Nat := 0
  lists : Nat := 0
  auto : List Nat := []
  playlists : List Nat := []
  deriving DecidableEq, Repr, Inhabited

/-- The CAMERA record (R382). -/
structure CameraRec where
  lanes : Nat := 0
  dtype : Nat := 0
  vc : Nat := 0
  cfa : Nat := 0
  width : Nat := 0
  height : Nat := 0
  output : Nat := 0
  fsyncDiv : Nat := 0
  fsync : Nat := 0
  fsyncUs : Nat := 0
  lateUs : Nat := 1000
  cciMaster : Nat := 0
  cciAddr : Nat := 0
  cciSpeed : Nat := 0
  ring : Nat := 0
  encode : Bool := false
  level : Nat := 0
  chain : Nat := 0
  legRows : Nat := 0
  alloc : Nat := 0
  outFormat : Nat := 0
  space : Nat := 0
  outWidth : Nat := 0
  outHeight : Nat := 0
  deriving DecidableEq, Repr, Inhabited

/-- One step of a SENSOR_SCRIPT (R387, R462). -/
structure ScriptStep where
  op : Nat
  bytes : Nat
  shift : Nat
  reg : Nat
  value : Nat
  mask : Nat
  deriving DecidableEq, Repr, Inhabited

/-- One tap of the ISP record (R394). -/
structure TapRec where
  enable : Bool := false
  decimation : Nat := 1
  ring : Nat := 1
  send : Bool := false
  deriving DecidableEq, Repr, Inhabited

/-- The ISP record (R390, R391, R394). -/
structure IspRec where
  black : List Nat := []
  dpcThr : Nat := 0
  wb : List Nat := []
  ccm : List Int := []
  ccmOff : List Int := []
  csc : List Int := []
  cscOff : List Int := []
  taps : List TapRec := []
  tapBytes : Nat := 0
  defects : List (Nat × Nat) := []
  shading : Bool := false
  shade : List (BitVec 16) := []
  tone : List (BitVec 16) := []
  coefs : List Int := []
  deriving DecidableEq, Repr, Inhabited

/-- The BLIT_CARD record (R411). -/
structure CardRec where
  plane : Nat := 0
  cardAfter : Nat := 120
  list : Bytes := []
  image : Bytes := []
  imageOffset : Nat := 0
  deriving DecidableEq, Repr, Inhabited

/-- The POWER record, but for its monitor thresholds, which stand in PWR_MON_CFG (R49, R415). Energies in pJ per active
clock and per 64-byte transfer, idle power in mW, per block. -/
structure PowerRec where
  fbb : List Nat := List.replicate 48 2
  rbb : List Nat := List.replicate 48 2
  coreAin : Option Nat := none
  coreGain : Nat := 0
  blocks : List (Nat × Nat × Nat) := []
  leak25 : Nat := 0
  leakDouble : Nat := 0
  deriving DecidableEq, Repr, Inhabited

/-- A SLEEP_GROUP record (R418). -/
structure SleepRec where
  off : Bool := false
  static : Bool := false
  idleUs : Nat := 0
  members : List Nat := []
  deriving DecidableEq, Repr, Inhabited

/-- The IDENT record beside what the slot's check reads (R462): build time, label, the ROM's patch. -/
structure IdentRec where
  buildTime : Nat := 0
  label : Bytes := []
  patch : Bytes := []
  deriving DecidableEq, Repr, Inhabited

/-- The Itinerary as applied (R460, R461); the REGWRITE entries that were applied, as (address, value, mask). -/
structure Itin where
  ident : IdentRec := {}
  engineCap : Nat := 0
  dram : Option DramRec := none
  lanes : Option LanesRec := none
  caravan : Option CaravanRec := none
  time : TimeRec := {}
  wall : Option WallRec := none
  panel : Vector (Option PanelRec) 4 := Vector.replicate 4 none
  output : Vector (Option OutputRec) 4 := Vector.replicate 4 none
  bands : Vector (List BandRec) 4 := Vector.replicate 4 []
  calib : Vector (Option CalibRec) 4 := Vector.replicate 4 none
  prog : Vector (Option ProgRec) 4 := Vector.replicate 4 none
  raymode : Vector (Option RaymodeRec) 4 := Vector.replicate 4 none
  codec : Option CodecRec := none
  stock : Option StockRec := none
  camera : Vector (Option CameraRec) 8 := Vector.replicate 8 none
  scripts : Vector (List ScriptStep) 32 := Vector.replicate 32 []
  isp : Vector (Option IspRec) 8 := Vector.replicate 8 none
  card : Vector (Option CardRec) 4 := Vector.replicate 4 none
  power : PowerRec := {}
  sleep : Vector (Option SleepRec) 8 := Vector.replicate 8 none
  logBytes : Nat := 0
  fallback : Vector (List Nat) 4 := Vector.replicate 4 []
  regwrites : List (Nat × Word × Word) := []
  deriving DecidableEq, Repr, Inhabited

end Sys2Proof.Machine
end

