-- ==== Sys2Proof/Machine/State.lean ====
section
/-!
DEFINITION. The state of one LQ5120 as plain data, its stop reasons, and State.reset. Registers of the register blocks
stand in one list by address (`regs`; an address not listed reads as its Reset value, R11); everything the manual gives
the device beside its registers has a field of its own here.
-/
namespace Sys2Proof.Machine

/-- A finite map with Nat keys, in canonical form when its keys rise strictly (see Ops). -/
abbrev Sparse (α : Type) := List (Nat × α)

/-- The time clock (R340, R342): edges since reset release, TIME_NS with 32 fraction bits, TIME_INC 32.32, and the
REFCLK/XTAL ratio (32 fraction bits) by which TIME_INC was multiplied at the last change to XTAL. -/
structure Clock where
  edges : Nat := 0
  ns : BitVec 96 := 0
  inc : BitVec 64 := 0x0000000200000000
  ratio : Nat := 0x100000000
  deriving DecidableEq, Repr, Inhabited

/-- Where the device stands in its life from one reset to the next (R445, R464, R467, R444, R432). -/
inductive Phase where
  | inReset
  | training
  | running
  | safeHarbour
  | thermalShutdown
  | poweredDown
  deriving DecidableEq, Repr, Inhabited

/-- What a reset that waits for its power-off sequences will be (R288, R445). -/
inductive ResetKind where
  | resetN
  | afterSnapshot
  deriving DecidableEq, Repr, Inhabited

/-- OTP fuses (R454): key digest (none = blank), sig_required, safe key. -/
structure Otp where
  digest : Option (BitVec 256) := none
  sigRequired : Bool := false
  safeKey : Option Bytes := none
  deriving DecidableEq, Repr, Inhabited

/-- A command sent to the flash (R449): opcode, address, bytes read or programmed, clock in MHz where a rule gives one, dummy
clocks. -/
structure FlashCmd where
  code : Nat
  addr : Option Nat := none
  count : Nat := 0
  mhz : Option Nat := none
  dummy : Nat := 0
  deriving DecidableEq, Repr, Inhabited

/-- Start-up and flash (R445–R469): phase, reset waiting, ROM boot ended (R447), flash contents by address (unlisted
bytes are erased, 0xFF), the three ID bytes that the flash answers, the commands sent to it since the start, OTP, the
Concierge's copy of the image (R463). -/
structure Boot where
  phase : Phase := .inReset
  waiting : Option ResetKind := none
  romDone : Bool := false
  flash : Sparse Byte := []
  flashId : BitVec 24 := 1
  flashCmds : List FlashCmd := []
  otp : Otp := {}
  image : Bytes := []
  dramFailed : Bool := false
  deriving DecidableEq, Repr, Inhabited

/-- One pending raise of the event router (R474, R475). -/
structure Raise where
  src : Nat
  cause : Byte
  arg : Word
  stamp : Nat
  coalesced : Bool
  injected : Bool
  frozen : Bool
  harbour : Bool
  deriving DecidableEq, Repr, Inhabited

/-- One Guestbook entry of 16 bytes (R481). -/
structure GbEntry where
  w0 : Word
  w1 : Word
  w2 : Word
  w3 : Word
  deriving DecidableEq, Repr, Inhabited

/-- The event router and the Guestbook (R475–R482): pending raises in rising source number, stored entries by physical
index, the event waiting for a STATUS push with the edge of its entry (R367), Concierge interrupts by source, edge of the last
write. -/
structure Router where
  pend : List Raise := []
  book : Sparse GbEntry := []
  push : Option (BitVec 16) := none
  irq : Sparse Nat := []
  wroteAt : Option Nat := none
  deriving DecidableEq, Repr, Inhabited

/-- A snapshot slot of the Strongbox (R486–R488): the summary's words from offset 0, the entries, the freeze history
words and the stored CRC. -/
structure Slot where
  valid : Bool := false
  kept : Bool := false
  kind : Nat := 0
  serial : Word := 0
  summary : List Word := []
  entries : List GbEntry := []
  hist : List Word := []
  crc : Word := 0
  deriving DecidableEq, Repr, Inhabited

/-- A snapshot request: kind, the routed event's code and, when its entry was stored, that entry's number (R484, R487). -/
structure SnapReq where
  kind : Nat
  code : BitVec 16 := 0
  entry : Option Nat := none
  deriving DecidableEq, Repr, Inhabited

/-- The Strongbox (R484–R489): MRAM slots (they outlive resets), the slot being written, the queued request, triggers
merged since the previous snapshot, the device-life serial, the edge of the last rate-limited start, the slot of the last write
if its verify failed. -/
structure Strongbox where
  slots : Vector Slot 16 := Vector.replicate 16 {}
  writing : Option (Fin 16 × Slot) := none
  queued : Option SnapReq := none
  merged : Nat := 0
  serial : Word := 0
  lastLimited : Option Nat := none
  failed : Option Nat := none
  deriving DecidableEq, Repr, Inhabited

/-- The service port (R491, R492): edge of the last frame, the bytes it answered to the last command, WSTAT of the last
word written. -/
structure Service where
  lastFrame : Nat := 0
  answer : Bytes := []
  wstat : Byte := 0
  deriving DecidableEq, Repr, Inhabited

/-- A retry in progress on a channel (R241–R243): CA parity or write CRC, and the command that started it. -/
structure Retry where
  ca : Bool
  cmd : DramCmd
  deriving DecidableEq, Repr, Inhabited

/-- One command of the freeze history (chapter 6 register table). -/
structure HistEntry where
  hi : Word
  lo : Word
  deriving DecidableEq, Repr, Inhabited

/-- A read below class A that waits at its channel (R224, R226): requester, class (1 B, 2 C, 3 D, 4 below D), unit, and the
bytes that a read-modify-write puts into it (R221). -/
structure DramReq where
  req : Nat
  cls : Nat
  unit : Nat
  merge : Option MergeWrite := none
  deriving DecidableEq, Repr, Inhabited

/-- A write burst in a channel's write buffer (R226): unit, requester, and what the unit held before, which stands again when
a freeze discards the burst (R245). -/
structure QueuedWrite where
  unit : Nat
  req : Nat
  old : List Host.Cell
  deriving DecidableEq, Repr, Inhabited

/-- A unit of DRAM with words whose stored bits are wrong, and how (R220). -/
structure UnitErr where
  unit : Nat
  errs : List WordErr
  deriving DecidableEq, Repr, Inhabited

/-- Bank-sweep refresh (R230, R231): the edge at which it began, the bank that a sequence has locked with the edge of the
lock, and the edges at which banks were swept out of turn. -/
structure Sweep where
  since : Nat
  locked : Option (Nat × Nat) := none
  late : Sparse Nat := []
  deriving DecidableEq, Repr, Inhabited

/-- What the pattern generator of the training helpers sends (R236): the 31-bit LFSR of each byte lane, walking ones, walking
zeros, the MPR pattern, one of the 16 stored patterns. -/
inductive Pattern where
  | lfsr (lanes : List (BitVec 31))
  | walkingOnes
  | walkingZeros
  | mpr
  | stored (k : Fin 16)
  deriving DecidableEq, Repr, Inhabited

/-- The training helpers of a channel (R236): pattern and the 16 stored 64-byte ones, errors counted per data bit, ALERT_n
pulses, read and write delays per data bit and per strobe, CA delay per pin, controller read Vref. -/
structure Helpers where
  pattern : Pattern := .mpr
  stored : List Bytes := []
  errors : List (BitVec 16) := List.replicate 72 0
  alerts : Nat := 0
  delays : TrainDelays := {}
  deriving DecidableEq, Repr, Inhabited

/-- One DRAM channel's state beside its registers (R220–R243): consecutive hot and cool temperature reads, the retries in
progress oldest first, commands issued (newest last, at most 64), bounces of the interval, intervals without a bounce, the last
request and last refresh edges, the scrub position (unit number) and the edge at which its pass began, corrected errors and
whether EV048 was raised in the 1 s interval; open rows by bank; class A reads oldest first (cluster and line), lower reads
oldest first, row hits taken before older reads in a row, the write buffer, the write-retry store (unit, requester), the
refresh granularity that the next REF brings, bank sweep, and the training helpers. -/
structure DramCh where
  hot : Nat := 0
  cool : Nat := 0
  retry : List Retry := []
  issued : List HistEntry := []
  bounces : Nat := 0
  quiet : Nat := 0
  lastReq : Nat := 0
  lastRef : Vector Nat 2 := Vector.replicate 2 0
  lastTemp : Nat := 0
  scrubAt : Nat := 0
  passAt : Nat := 0
  secCount : Nat := 0
  secRaised : Bool := false
  rows : Sparse Nat := []
  fills : List (Fin 32 × CacheKey) := []
  reads : List DramReq := []
  streak : Nat := 0
  writes : List QueuedWrite := []
  sent : List (Nat × Nat) := []
  gran : Option Bool := none
  sweep : Option Sweep := none
  helpers : Helpers := {}
  deriving DecidableEq, Repr, Inhabited

/-- The DRAM and its controller: bytes by physical address (a byte never written is not listed), channels, the frozen
history of each channel, the edge of step 1 of the freeze, whether the freeze's panel hold has run, the thaw read in
flight, whether thaw has been entered, the edges at which the last 1 s interval of R223 and the last bounce interval of
R234 began, and the units with words whose stored bits are wrong (R220). -/
structure Dram where
  mem : List Host.Cell := []
  chans : Vector DramCh 8 := Vector.replicate 8 {}
  hist : Vector (List HistEntry) 8 := Vector.replicate 8 []
  frozenAt : Option Nat := none
  held : Bool := false
  thaw : Option Nat := none
  thawing : Bool := false
  intervalAt : Nat := 0
  bounceAt : Nat := 0
  bad : List UnitErr := []
  deriving DecidableEq, Repr, Inhabited

/-- An item in the LEG pool (R205): kind (0 decode leg, 1 overlay list, 2 flip marker), output, serial, chain or output
stream, offset of its first byte in the LEG space, bytes stored so far, whether its last byte has been stored, arrival
number of its first wagon, bytes of the pool set aside for it (0 while that is not known). A leg of a playlist's bundle (R212)
is an item with `stock`: its offset is a stock address. -/
structure LegItem where
  kind : Nat
  out : Fin 4
  serial : Word
  stream : Nat
  offset : Nat
  got : Nat
  complete : Bool
  order : Nat
  stock : Bool := false
  size : Nat := 0
  deriving DecidableEq, Repr, Inhabited

/-- An own wagon that waits in its receive buffer (R207, R324): its arrival number and its bytes. -/
structure HeldWagon where
  id : Nat
  bytes : Bytes
  deriving DecidableEq, Repr, Inhabited

/-- Where items of an output and serial are packed next in the pool (R205): the first room of the present row of rooms, and its
bytes in use from there on. -/
structure LegFill where
  out : Fin 4
  serial : Word
  room : Nat
  used : Nat
  deriving DecidableEq, Repr, Inhabited

/-- An alcove with a double-bit error that waits for a spare (R209): its number, the output at whose next tick the spare
replaces it (none: the next tick of any output), the camera port that holds it, and whether its owner stops when no spare
is left. -/
structure DeadAlcove where
  alcove : Nat
  owner : Option (Fin 4)
  port : Option (Fin 8) := none
  stops : Bool := true
  deriving DecidableEq, Repr, Inhabited

/-- The Innkeeper (R196–R214): first physical room of each mapped space, tags of the LEG rooms (index in the pool), where
each tag's items continue, the VRN at which the next room is taken, items stored, next arrival number, own wagons held
while intake stalls (R207, R324), whether EV240 was raised since the last tick, alcoves that wait for a spare (R209), and the
TLB of each requester: the VRNs that it holds, latest used first (R201). -/
structure Rooms where
  first : Vector (Option Nat) 16 := Vector.replicate 16 none
  legTags : Sparse (Fin 4 × Word) := []
  fills : List LegFill := []
  cursor : Nat := 0
  items : List LegItem := []
  arrivals : Nat := 0
  heldOwn : List HeldWagon := []
  stallRaised : Bool := false
  dead : List DeadAlcove := []
  tlb : Sparse (List Nat) := []
  deriving DecidableEq, Repr, Inhabited

/-- One span row in the class A queue (R14, R184): output, first active line, deadline in 2⁻¹⁶ ns of TIME_NS, undispatched
span columns. -/
structure SpanRow where
  out : Fin 4
  y : Nat
  deadline : Nat
  cols : List Nat
  deriving DecidableEq, Repr, Inhabited

/-- A capture leg whose rows are complete in CAP (R183): port, capture counter, first output row, rows. -/
structure CapLeg where
  port : Fin 8
  gen : Word
  row : Nat
  rows : Nat
  deriving DecidableEq, Repr, Inhabited

/-- Class D work (R183): an overlay list (LEG item number), a card render, a statistics record. -/
inductive ClassD where
  | list (out : Fin 4) (item : Nat)
  | card (out : Fin 4)
  | stats (port : Fin 8)
  deriving DecidableEq, Repr, Inhabited

/-- The Porter's queue (R184, R185): entries of classes A–D, work ready behind a full quota, tokens of the buckets B, C
and D with the edge of the last refill and the rates and depths in effect (R192), the classes whose quota has filled in the
present frame of each output, class C and D work that waits for the end of a tick service (R194), and the tokens that the
request in hand of a requester has taken so far (R192). -/
structure Porter where
  qa : List SpanRow := []
  qb : List Nat := []
  qc : List CapLeg := []
  qd : List ClassD := []
  waitB : List Nat := []
  waitC : List CapLeg := []
  waitD : List ClassD := []
  tokB : Nat := 0
  tokC : Nat := 0
  tokD : Nat := 0
  lastRefill : Nat := 0
  buckets : Vector (Nat × Nat) 3 := Vector.replicate 3 (1, 16)
  filled : List (Fin 4 × Nat) := []
  heldC : List CapLeg := []
  heldD : List ClassD := []
  paid : Sparse Nat := []
  deriving DecidableEq, Repr, Inhabited

/-- A flip marker stored for an output (R330): serial, listed legs (leg_id, chain), TIME_NS of arrival. -/
structure Marker where
  serial : Word
  legs : List (Word × Nat)
  stamp : Nat
  deriving DecidableEq, Repr, Inhabited

/-- A leg of an output as the commit status reports it (R176, R331): item, leg_id, chain, serial, outcome once it has
failed, whether it has completed in its unit, arrival number; and the TIME_NS stamps of its arrival and of its end (R21). -/
structure LegRec where
  item : Nat
  legId : Word
  chain : Nat
  serial : Word
  outcome : Option Nat
  done : Bool
  order : Nat
  stamp : Nat := 0
  ended : Nat := 0
  deriving DecidableEq, Repr, Inhabited

/-- One tracked eye (R368): x, y, z in 0.5 mm and the confidence. -/
structure Eye where
  x : Int
  y : Int
  z : Int
  conf : Nat
  deriving DecidableEq, Repr, Inhabited

/-- An accepted TRACK (R368, R369): meas_time, receipt stamp, eyes 0–15. -/
structure TrackMsg where
  meas : Nat
  receipt : Nat
  eyes : List (Option Eye)
  deriving DecidableEq, Repr, Inhabited

/-- A position set (R369): meas_time, each eye's x, y, z as fp32 mm and its confidence, and the positions it came from. -/
structure PosSet where
  meas : Nat
  words : List Word
  from_ : TrackMsg
  deriving DecidableEq, Repr, Inhabited

/-- A change waiting for its tick (R24): what it is and the edge at which it became pending. -/
inductive ChangeKind where
  | band (j : Nat)
  | throttle (level : Nat)
  | rate (mayRaise : Bool)
  | clusters
  | playback (list : Option Nat)
  deriving DecidableEq, Repr, Inhabited

structure Change where
  kind : ChangeKind
  since : Nat
  deriving DecidableEq, Repr, Inhabited

/-- A sent row whose LOAD comes at the next line start, with the gate timing of its frame's band (R259, R271). -/
structure SentRow where
  y : Nat
  pol : Bool
  phases : Nat
  rise : Nat
  width : Nat
  deriving DecidableEq, Repr, Inhabited

/-- The row-drive pins (R269–R273): gate pulses of the latched rows as (GCK line, rise, fall), the start pulse's rise and
fall, all in ns of TIME_NS; the level of POL; the row that the next LOAD latches. XON stands in PNL_OUT_STAT. -/
structure RowDrive where
  pulses : List (Nat × Nat × Nat) := []
  stvRise : Nat := 0
  stvFall : Nat := 0
  pol : Bool := false
  sent : Option SentRow := none
  deriving DecidableEq, Repr, Inhabited

/-- What a column channel sends (R258, R265, R284): idle symbols, electrical idle, a packet, or the repeating packets of
training and discharge. -/
inductive ColumnSend where
  | electricalIdle
  | idle
  | line (load : Bool) (packet : Bytes)
  | load
  | train (packet : Bytes)
  | discharge (packet : Bytes)
  deriving DecidableEq, Repr, Inhabited

/-- The frame cycle of one output (R13–R30): TIME_NS and edge of its last tick, TIME_NS of the next grid instant, whether it has ticked
since start, whether the tick service is in progress, whether the frame was marked ready, its cutoffs have passed, and the
cause of R27 found at the decode cutoff,
serials, markers, legs, claims (plane, view, band), chains seen (chain, serial), serials of the markers received, serials of
the halves, span rows released
in this frame, and the candidate rate that the latest admission gave the output (R42). -/
structure Cycle where
  tickAt : Nat := 0
  tickEdge : Nat := 0
  nextTick : Nat := 0
  ticked : Bool := false
  service : Bool := false
  cutB : Bool := false
  cutCD : Bool := false
  ready : Bool := false
  withheld : Option Nat := none
  decided : Option Word := none
  decode : Option Word := none
  display : Option Word := none
  markers : List Marker := []
  legs : List LegRec := []
  claims : List (Bool × Nat × Nat) := []
  seen : List (Nat × Word) := []
  flips : List Word := []
  stripes : List Nat := List.range 32
  planes : Vector (Option Bool) 4 := Vector.replicate 4 none
  changes : List Change := []
  released : Nat := 0
  target : Nat := 0
  deriving DecidableEq, Repr, Inhabited

/-- The rendering side of one output: configuration in effect (R84, R89, R267), constant table (R121), position sets
(R369), ring entries by slot × Wsub + xs (R254), spans held valid as (first line, column), whether the card is shown, or
the background in place of a card that no record gives (R412, R460), whether either is due. -/
structure Render where
  cfg : Word := 0
  ovl : Word := 0
  bright : Word := 0x8000
  bg : Word := 0
  consts : Sparse Word := []
  posSet : Option PosSet := none
  nextSet : Option PosSet := none
  ring : Sparse (BitVec 16) := []
  valid : List (Nat × Nat) := []
  cardShown : Bool := false
  bare : Bool := false
  cardDue : Bool := false
  deriving DecidableEq, Repr, Inhabited

/-- Scan-out and panel of one output beside its registers (R252–R292): the next line to start, what each channel sends, its
running disparity where that began (true: positive) and the edge at which it began (R256),
underrun channel-lines and pin-echo mismatches (channel, count) of the frame, row drive, edge of the present sequence
step, whether training or a wait is under way, band dwell counters (R278), static refresh counters (R280), whether the next grid instant has been decided to be a tick, or
to be skipped (R281). -/
structure Scan where
  line : Nat := 0
  slots : Sparse ColumnSend := []
  disparity : Sparse Bool := []
  sendAt : Nat := 0
  underruns : Nat := 0
  echo : Sparse Nat := []
  rows : RowDrive := {}
  stepAt : Nat := 0
  thermFail : Bool := false
  thermKnown : Bool := false
  upRounds : Nat := 0
  upTarget : Nat := 0
  downRounds : Nat := 0
  railBad : Vector Nat 4 := Vector.replicate 4 0
  unchanged : Nat := 0
  gridSince : Nat := 0
  staticTick : Bool := false
  staticSkip : Bool := false
  deriving DecidableEq, Repr, Inhabited

/-- Playback on one output beside PTR_OUT_PLAY (R211–R213): ticks left of the bundle on display, ticks without a flip
marker on VC1, whether a live marker has arrived, whether the last frame is held, the next entry to take, the entry whose
bundle is being decoded. -/
structure Play where
  repeatLeft : Nat := 0
  noMarker : Nat := 0
  liveMarker : Bool := false
  held : Bool := false
  next : Nat := 0
  taken : Option Nat := none
  deriving DecidableEq, Repr, Inhabited

/-- One output. -/
structure Out where
  cycle : Cycle := {}
  render : Render := {}
  scan : Scan := {}
  play : Play := {}
  deriving DecidableEq, Repr, Inhabited

/-- A request in a shared unit's queue (R92, R105): the unit, the opcode, fields d and b, the active lanes, the operand
values of lanes 0–7 as read at issue, the instruction's place, its issue clock, and whether a view-cache line that it needs
has had to be filled from DRAM. -/
structure UnitReq where
  unit : SharedUnit
  op : Nat
  d : Nat
  b : Nat
  active : BitVec 8
  ops : List (List Word)
  pc : Nat
  clk : Nat
  fill : Bool := false
  deriving DecidableEq, Repr, Inhabited

/-- A request that its unit has served (R92, R104, R106, R125): the unit, the registers of its result, the engine clocks from
and up to which it waited for a line fill, the clock at which its service ended and its queue entry became free, and the clock
at which its result is readable. -/
structure Served where
  unit : SharedUnit
  keys : List Nat
  fillFrom : Nat
  fillTo : Nat
  done : Nat
  ready : Nat
  deriving DecidableEq, Repr, Inhabited

/-- An engine with a span in hand (R90–R125): output, slot, span index, first column and line, width, pc, engine clocks
since dispatch and those R125 leaves out, dispatch number, the registers and local-memory words written since dispatch
(v: 8 × register + lane), the clock at which each register with a write under way becomes readable, outstanding
shared-unit requests oldest first, served ones whose results or queue entries may still be waited for, subpixels OUT has written (bit 8 × column + line), whether END has issued, the clock a bank frees,
and the local-memory words that a double-bit error has made unreadable (R124). -/
structure Engine where
  out : Fin 4
  slot : Nat
  span : Nat
  xs0 : Nat
  y0 : Nat
  w : Nat
  pc : Nat := 0
  clk : Nat := 0
  excluded : Nat := 0
  token : Nat := 0
  v : Sparse Word := []
  s : Sparse Word := []
  p : Sparse (BitVec 8) := []
  lm : Sparse Word := []
  busy : Sparse Nat := []
  reqs : List UnitReq := []
  served : List Served := []
  written : Nat := 0
  ending : Bool := false
  bankFree : Nat := 0
  lost : List Nat := []
  deriving DecidableEq, Repr, Inhabited

/-- A filled line of a view cache (R117) with its 64 bytes. -/
structure CacheLine where
  key : CacheKey
  data : Bytes
  deriving DecidableEq, Repr, Inhabited

/-- A recent-offset entry (R148, R149, R167): kind 1 INTRA, 2 INTER, 3 TEMPORAL, 4 STOCK. -/
structure Recent where
  kind : Nat
  du : Int := 0
  dv : Int := 0
  dx : Int := 0
  dy : Int := 0
  deriving DecidableEq, Repr, Inhabited

/-- The symbol counts of a block (R154). -/
structure Hists where
  cmd : List Nat := []
  len : List Nat := []
  ofs : List Nat := []
  lit : List Nat := []
  deriving DecidableEq, Repr, Inhabited

/-- The fields of a leg header (R131) that decoding uses. -/
structure LegHeader where
  magic : Nat := 0
  version : Nat := 0
  flags : Nat := 0
  legId : Word := 0
  chain : Nat := 0
  chainHi : Nat := 0
  output : Nat := 0
  format : Nat := 0
  gen : Word := 0
  startGen : Word := 0
  serial : Word := 0
  refSerial : Word := 0
  viewFirst : Nat := 0
  viewLast : Nat := 0
  rowFirst : Nat := 0
  rowCount : Nat := 0
  decoded : Nat := 0
  compressed : Nat := 0
  blocks : Nat := 0
  width : Nat := 0
  reservedZero : Bool := true
  deriving DecidableEq, Repr, Inhabited

/-- A context record (R165, R167). -/
structure CtxRec where
  gen : Word
  serial : Word
  output : Nat
  format : Nat
  viewFirst : Nat
  viewLast : Nat
  rowFirst : Nat
  rowCount : Nat
  width : Nat
  recent : List Recent
  hist : Hists
  deriving DecidableEq, Repr, Inhabited

/-- A chain's three slots (R160, R166): current, previous, pending with its output. -/
structure Chain where
  cur : Option CtxRec := none
  prev : Option CtxRec := none
  pend : Option CtxRec := none
  deriving DecidableEq, Repr, Inhabited

/-- An unfinished token of a leg (R139, R172): a literal run or a copy, the pixels of it still to come, the pixels of it put
out, and for a copy its offset and, of a REP token, its number. -/
structure OpenToken where
  copy : Option Recent := none
  rep : Option Nat := none
  left : Nat
  done : Nat := 0
  deriving DecidableEq, Repr, Inhabited

/-- How far a decode has come (R135–R157, R168): byte offset of the block in hand within the leg's blocks, bit position in it,
its end, blocks begun, pixels left in it, code lengths of its tables, its counts, recent offsets, pixels produced, the token
in hand, the band window (pixels, newest first), bytes of the blocks fetched from DRAM, the unit of the last source read. -/
structure DecState where
  blockAt : Nat := 0
  bit : Nat := 0
  blockEnd : Nat := 0
  begun : Nat := 0
  left : Nat := 0
  lens : Hists := {}
  hist : Hists := {}
  recent : List Recent := []
  produced : Nat := 0
  token : Option OpenToken := none
  window : List (List Nat) := []
  fetched : Nat := 0
  source : Option Nat := none
  deriving DecidableEq, Repr, Inhabited

/-- The leg a codec unit holds: LEG item (or a bundle leg of a playlist by stock address), header after substitution,
progress, whether every pixel is out. -/
structure LegRun where
  item : Nat
  hdr : LegHeader
  playback : Bool := false
  dec : DecState := {}
  finished : Bool := false
  deriving DecidableEq, Repr, Inhabited

/-- What a unit has sent of the capture leg in hand (R332): bytes of its item, pixels encoded, the blocks. -/
structure CapSent where
  bytes : Nat := 0
  pixels : Nat := 0
  body : Bytes := []
  deriving DecidableEq, Repr, Inhabited

/-- A codec unit (R169–R182): decode leg or capture leg in hand, what it has sent of that, draining after an abort. -/
structure Codec where
  leg : Option LegRun := none
  cap : Option CapLeg := none
  sent : CapSent := {}
  draining : Bool := false
  deriving DecidableEq, Repr, Inhabited

/-- An item being reassembled (R315): type, stream, source, destination, bytes received so far; their content (not for a
LEG, which goes straight into its rooms), and the item in the pool that a LEG fills. -/
structure OpenItem where
  type : Nat
  stream : Nat
  src : Nat
  dst : Nat
  got : Nat
  bytes : Bytes
  item : Option Nat
  deriving DecidableEq, Repr, Inhabited

/-- What a partner's HELLO with peer_seen said (R309): whether it keeps link state, its rx_next, its tile. -/
structure PeerHello where
  warm : Bool
  rxNext : BitVec 16
  tile : Nat
  deriving DecidableEq, Repr, Inhabited

/-- One hop (R308–R310): warm attempts since it went down, a valid HELLO received, a HELLO with peer_seen sent, the last one
received with peer_seen, whether this end keeps its link state, bring-up found its lanes, edge at which the present attempt
or wait began, edges of the last LINK_STATE and HELLO sent, whether a bring-up has run before, the edge at which every receive
lane had reached FOM_MIN in this bring-up, the partner's tile. -/
structure HopSt where
  tries : Nat := 0
  peerSeen : Bool := false
  sentSeen : Bool := false
  gotSeen : Option PeerHello := none
  warm : Bool := false
  lanesReady : Bool := false
  since : Nat := 0
  lastState : Option Nat := none
  lastHello : Option Nat := none
  began : Bool := false
  fomAt : Option Nat := none
  partner : Nat := 0
  deriving DecidableEq, Repr, Inhabited

/-- A receive group (R315–R338): expected sequence number, received units and advertised limits of VC1–VC3, space held by
arrival number (VC and units), waiting for a replay, edge of the last NAK, open items, edges of counted violations, per code
the violations since the last COMPLAINT and the edge of that one, edges of the last LINK_STATE and of the last other VC0
wagon received. -/
structure RxGroup where
  expected : BitVec 16 := 0
  received : Vector Word 3 := Vector.replicate 3 0
  limits : Vector Word 3 := Vector.replicate 3 0
  held : Sparse (Nat × Nat) := []
  waiting : Bool := false
  lastNak : Nat := 0
  opens : List OpenItem := []
  violations : List Nat := []
  complaints : Sparse (Nat × Option Nat) := []
  lastState : Option Nat := none
  lastVc0 : Option Nat := none
  deriving DecidableEq, Repr, Inhabited

/-- A wagon to be relayed: its arrival number and its bytes without CRC. -/
structure RelayWagon where
  id : Nat
  bytes : Bytes
  deriving DecidableEq, Repr, Inhabited

/-- A transmit group (R317–R328): next sequence number, consumed units and the partner's limits of VC1–VC3, unacknowledged
wagons with their numbers, numbers still to be resent, waiting wagons per VC (VC2 in two queues, own and relayed), whether the
last VC2 wagon was an own one, how many own ones have been started, edge of the last ack progress, timeouts in a row, a CRC
to be corrupted, edges of the last LINK_STATE and of the last other VC0 wagon started, the wagon now on the wire and the arrival
number of a relayed one, rows sent by the last wagon boundary since bring-up, its edge, and the lanes' scramblers there
(R302–R305). -/
structure TxGroup where
  next : BitVec 16 := 0
  consumed : Vector Word 3 := Vector.replicate 3 0
  limit : Vector Word 3 := Vector.replicate 3 0
  replay : List (BitVec 16 × Bytes) := []
  resend : List (BitVec 16) := []
  q0 : List Bytes := []
  q1 : List RelayWagon := []
  q2own : List Bytes := []
  q2relay : List RelayWagon := []
  q3 : List RelayWagon := []
  lastOwn : Bool := false
  ownDone : Nat := 0
  ackAt : Nat := 0
  timeouts : Nat := 0
  corrupt : Bool := false
  lastVc0 : Option Nat := none
  lastState : Option Nat := none
  wire : Option Bytes := none
  leaving : Option Nat := none
  rows : Nat := 0
  rowsAt : Nat := 0
  scramblers : Vector (BitVec 58) 8 := Vector.replicate 8 0
  deriving DecidableEq, Repr, Inhabited

/-- A lane (R300, R301): low FOM updates in a row, whether cause 1 may be raised again, the edge at which its PRBS test began, the
bits inverted in that on command. -/
structure LaneSt where
  low : Nat := 0
  armed : Bool := true
  prbsAt : Nat := 0
  inverted : List Nat := []
  deriving DecidableEq, Repr, Inhabited

/-- The Caravan link beside its registers; the next arrival number of a wagon, and whether a lane rail has stopped the lanes
(R429). -/
structure Link where
  hopUp : HopSt := {}
  hopDn : HopSt := {}
  rxUp : RxGroup := {}
  rxDn : RxGroup := {}
  txUp : TxGroup := {}
  txDn : TxGroup := {}
  lanes : Vector LaneSt 32 := Vector.replicate 32 {}
  arrivals : Nat := 0
  stopped : Bool := false
  deriving DecidableEq, Repr, Inhabited

/-- The time servo beside its registers (R346–R356): last SYNC edge, runs of SYNCs within 20 ns and beyond 100 ns,
grandmaster, valid delay samples (each twice its value, in 2⁻¹⁶ ns, newest first, at most 8), number of the last request,
its t1 and edge while outstanding, edge of the last request, missed or invalid in a row, twice the last sample in 2⁻¹⁶ ns,
D_up in 2⁻¹⁶ ns, the frequency estimate, whether EV119 has been raised, whether any output has ticked, edge at which the UP
hop came up, whether lock_wait is over. -/
structure Servo where
  lastSync : Option Nat := none
  good : Nat := 0
  bad : Nat := 0
  master : Option (BitVec 64) := none
  samples : List Nat := []
  reqSeq : BitVec 16 := 0
  outstanding : Option (Nat × Nat) := none
  lastReq : Option Nat := none
  misses : Nat := 0
  lastSample : Option Int := none
  dUp : Nat := 0
  estimate : BitVec 64 := 0x0000000200000000
  intervalNoted : Bool := false
  anyTick : Bool := false
  upAt : Option Nat := none
  waitOver : Bool := false
  deriving DecidableEq, Repr, Inhabited

/-- What the tile keeps of a wall-bus sender (R375–R377): last accepted counter, edges of counted violations, end of its
quarantine, per code the violations since the last COMPLAINT and the edge of that one, frames ignored in quarantine. -/
structure NodeSt where
  counter : Option Nat := none
  violations : List Nat := []
  quarantine : Option Nat := none
  complaints : Sparse (Nat × Option Nat) := []
  ignored : Nat := 0
  deriving DecidableEq, Repr, Inhabited

/-- A LOGDATA answer in progress (R372, R483): requester's address, number of the request, next entry, entries left, whether
entries were overwritten since the last frame. -/
structure LogAnswer where
  dest : BitVec 48
  seq : BitVec 16
  next : Nat
  left : Nat
  overwritten : Bool
  deriving DecidableEq, Repr, Inhabited

/-- A register write to the PHY as a Clause 22 MDIO frame (R357). -/
structure MdioWrite where
  phy : Nat
  reg : Nat
  value : Nat
  deriving DecidableEq, Repr, Inhabited

/-- The wall bus beside its registers (R357–R379): whether the MAC is enabled, whether PLCA is configured, own address and
EtherType, senders by node (or by MAC address + 64 without a roster), accepted TRACKs, LOGDATA answers in progress, own frames
of the first four classes of R366 in their order, the frame last put on the wire, MDIO frames sent to the PHY, edge of the last voiding case and of the last push, strangers' edges of the last
second and edge of the last EV121, ticks and edge since the last periodic STATUS, status_n in effect, own number. -/
structure Wall where
  up : Bool := false
  plca : Bool := false
  mac : BitVec 48 := 0
  etype : BitVec 16 := 0x88B5
  nodes : Sparse NodeSt := []
  tracks : List TrackMsg := []
  logs : List LogAnswer := []
  txPush : List Frame := []
  txComplaint : List Frame := []
  txReply : List Frame := []
  txStatus : List Frame := []
  sent : Option Frame := none
  mdio : List MdioWrite := []
  lastVoid : Nat := 0
  lastPush : Option Nat := none
  strangers : List Nat := []
  strangerAt : Option Nat := none
  ticksSince : Nat := 0
  lastPeriodic : Nat := 0
  statusN : Nat := 12
  seq : BitVec 16 := 0
  deriving DecidableEq, Repr, Inhabited

/-- A capture frame of a port (R386): counter of its window, lines that have arrived, lines of its image, marks, image ended
by a missing line, discarded as a whole, lines dropped, ring buffer, gains in effect (R, Gr, Gb, B), taps it fills as (tap,
buffer), the lines that the ISP has processed, output rows that stand in CAP for good, output rows complete, output rows made legs, CRC and ECC errors,
whether EV152 cause 3 has been raised. -/
structure CamFrame where
  gen : Word
  arrived : Nat := 0
  lines : Nat := 0
  marks : BitVec 10 := 0
  imageEnd : Bool := false
  discard : Bool := false
  dropped : Nat := 0
  buffer : Nat := 0
  wb : List Nat := []
  taps : List (Nat × Nat) := []
  rows : List (List Nat) := []
  outRows : Nat := 0
  done : Nat := 0
  legRow : Nat := 0
  crcN : Nat := 0
  eccN : Nat := 0
  thresholdRaised : Bool := false
  deriving DecidableEq, Repr, Inhabited

/-- A script in progress (R387): which of the four, next step, values of the AE template, whether the present transaction
has been retried, edge at which the present step began. -/
structure ScriptRun where
  script : Nat
  step : Nat
  ae : List Nat := []
  retried : Bool := false
  since : Nat := 0
  deriving DecidableEq, Repr, Inhabited

/-- A tap buffer of the TAP space (R394): tap, buffer number, capture counter, its bytes, whether it awaits sending, and the
count of started own VC2 wagons at which its item has gone. -/
structure TapBuf where
  tap : Nat
  buffer : Nat
  gen : Word
  bytes : Bytes
  waiting : Bool
  sentAt : Nat := 0
  deriving DecidableEq, Repr, Inhabited

/-- A held buffer of a port's ring in CAP (R396): its number, the capture counter of its frame, capture legs of it not yet
ended, whether its frame is still being written, and the count of started own VC2 wagons at which its last item has gone. -/
structure RingBuf where
  buffer : Nat
  gen : Word
  legs : Nat
  writing : Bool
  sentAt : Nat := 0
  deriving DecidableEq, Repr, Inhabited

/-- One camera port beside its registers (R380–R397): frame open, closed frames that the ISP still processes (oldest first),
whether a frame window has begun and whether it has had a Frame Start, edge of its boundary, grid instants counted, whether a
boundary is due, TIME_NS of the next grid instant while the output does not tick, line buffer (each line with the counter of
its frame), ring buffers held and the next one, pin CAM_RST_N, edge of the latest FSYNC
pulse, script in progress and scripts waiting, failed transactions in a row, edge of the last failure of the port, tap
buffers and the next buffer of each tap, statistics ready to write, the last statistics record written and whether the
Concierge has still to act on it, capture rows by 65,536 × counter + row, each pixel in the leg's packing. -/
structure Cam where
  frame : Option CamFrame := none
  closing : List CamFrame := []
  window : Bool := false
  started : Bool := false
  boundaryAt : Nat := 0
  gridCount : Nat := 0
  due : Bool := false
  nextGrid : Nat := 0
  buffer : List (Word × List Nat) := []
  ring : List RingBuf := []
  nextBuf : Nat := 0
  rstHigh : Bool := false
  fsyncAt : Option Nat := none
  script : Option ScriptRun := none
  todo : List (Nat × List Nat) := []
  cciFails : Nat := 0
  failedAt : Nat := 0
  taps : List TapBuf := []
  tapNext : Vector Nat 4 := Vector.replicate 4 0
  stats : List (Word × Bytes) := []
  record : Bytes := []
  aeDue : Bool := false
  outRows : Sparse (List Word) := []
  deriving DecidableEq, Repr, Inhabited

/-- The image pipeline (R388, R389): line in hand as (port, counter of its frame, samples), port served last, DRAM write
tokens that the line in hand has taken (R192). -/
structure Isp where
  line : Option (Fin 8 × Word × List Nat) := none
  last : Nat := 7
  paid : Nat := 0
  deriving DecidableEq, Repr, Inhabited

/-- A blitter command (R399). -/
structure BlitCmd where
  op : Nat := 0
  flags : Nat := 0
  sfmt : Nat := 0
  dfmt : Nat := 0
  width : Nat := 0
  height : Nat := 0
  sspace : Nat := 0
  dead : Nat := 0
  spitch : Nat := 0
  soffset : Nat := 0
  dspace : Nat := 0
  dpitch : Nat := 0
  doffset : Nat := 0
  colour : Word := 0
  colour2 : Word := 0
  reservedZero : Bool := true
  deriving DecidableEq, Repr, Inhabited

/-- The list a blitter runs (R398, R407): output, plane, whether it is a card render, base of its data in LEG (or none
for a card), bytes of the item, commands, index of the command in hand, edge at which it came to hand. -/
structure ListRun where
  out : Fin 4
  plane : Nat
  card : Bool
  base : Nat
  size : Nat
  cmds : List BlitCmd
  index : Nat := 0
  since : Nat := 0
  deriving DecidableEq, Repr, Inhabited

/-- The blitter (R407–R412): the list in hand, draining after an abort. -/
structure Blitter where
  run : Option ListRun := none
  draining : Bool := false
  deriving DecidableEq, Repr, Inhabited

/-- A dip of a supply monitor (R425, R426): edge of its first crossing, minimum seen in mV. -/
structure Dip where
  since : Nat
  min : Nat
  deriving DecidableEq, Repr, Inhabited

/-- A sleep group's run beside PWR_SG_STAT (R419–R422): edge since which no member has held a waybill, or of the present
step; a wake that came during the commit (its source); edge of the last request that did not end DONE. -/
structure SleepSt where
  since : Nat := 0
  wake : Option Nat := none
  refusedAt : Option Nat := none
  deriving DecidableEq, Repr, Inhabited

/-- Domains, supplies and sleep beside the registers: targets of domains that are changing (0 off, 1 retention, 2 on) and edges
at which their changes have had their time (R416),
domains off from start, groups, dips in hand, edge of the brace's start and of its latest crossing, whether its snapshot was
requested, edges of the brace starts of the last second, edge at which the last second with more than 16 of them ends, rails that
stopped lanes or cameras, edge of an abrupt loss, domains whose contents the Itinerary has still to restore (R416, R429). -/
structure Power where
  target : Sparse Nat := []
  due : Sparse Nat := []
  offFromStart : List Nat := []
  groups : Vector SleepSt 8 := Vector.replicate 8 {}
  dips : Sparse Dip := []
  braceAt : Nat := 0
  crossAt : Nat := 0
  braceSnap : Bool := false
  starts : List Nat := []
  alertAt : Nat := 0
  recovering : List Nat := []
  lossAt : Option Nat := none
  lost : List Nat := []
  deriving DecidableEq, Repr, Inhabited

/-- Thermal policy beside the THM registers (R436–R443): rounds at or above and below each threshold (warning, throttle,
throttle2, shutdown), entered flags, edge at which the hold-off ends, level forced to 2 for want of sensors, raw codes of the
last round, the level last made pending or in effect, and the levels that wait for their ticks, oldest first (R24, R443). -/
structure Thermal where
  above : Vector Nat 4 := Vector.replicate 4 0
  below : Vector Nat 4 := Vector.replicate 4 0
  entered : Vector Bool 4 := Vector.replicate 4 false
  holdUntil : Option Nat := none
  forced : Bool := false
  raw : Vector (Option Int) 24 := Vector.replicate 24 none
  level : Nat := 0
  steps : List Change := []
  deriving DecidableEq, Repr, Inhabited

/-- The staging session (R470–R472): path, sender (as the wall bus keeps it; 0 for the head), number, image length, seq, target
slot (0 A, 1 B), whether it goes straight into the target, the image's first 256 bytes, which reach a target last, edge of the
last message, the COMMIT being answered. The bytes received stand in CFG_STAGE_RX. -/
structure Session where
  caravan : Bool
  sender : Nat
  number : BitVec 16
  length : Nat
  seq : Word
  target : Nat
  direct : Bool
  header : Bytes := []
  lastAt : Nat
  commit : Option StageMsg := none
  deriving DecidableEq, Repr, Inhabited

/-- Staging: the open session and the counter of the head (R470). -/
structure Stage where
  session : Option Session := none
  headCounter : Option Nat := none
  deriving DecidableEq, Repr, Inhabited

/-- Rays delivered since the energy account closed, and the edge at which it closed (R47, R48). -/
structure Energy where
  rays : Nat := 0
  closedAt : Nat := 0
  deriving DecidableEq, Repr, Inhabited

/-- The whole device. `pending` is the model's queue of commands, first in first out; `fresh` counts the free values
taken (the model's own field). -/
structure State where
  pending : List Instr := []
  fresh : Nat := 0
  clock : Clock := {}
  regs : Sparse Word := []
  shadow : Sparse Word := []
  lowWords : Sparse Word := []
  boot : Boot := {}
  itin : Itin := {}
  evt : Router := {}
  sbx : Strongbox := {}
  svc : Service := {}
  dram : Dram := {}
  rooms : Rooms := {}
  porter : Porter := {}
  outs : Vector Out 4 := Vector.replicate 4 {}
  engines : Sparse Engine := []
  caches : Vector (List CacheLine) 32 := Vector.replicate 32 []
  imem : List Word := []
  codecs : Vector Codec 16 := Vector.replicate 16 {}
  chains : Sparse Chain := []
  link : Link := {}
  servo : Servo := {}
  wall : Wall := {}
  cams : Vector Cam 8 := Vector.replicate 8 {}
  isp : Isp := {}
  blt : Blitter := {}
  power : Power := {}
  therm : Thermal := {}
  stage : Stage := {}
  energy : Energy := {}
  deriving DecidableEq, Repr, Inhabited

/-- The device right after reset is asserted, before its release (R447, R448): every register at its Reset value, TIME_NS
0 and TIME_INC 2.0 ns, every queue empty, every output unpowered, the Guestbook empty. -/
def State.reset : State := {}

/-- Reasons for which a step stops with a fault. The LQ5120 never stops because of what it is sent (R335, R377): what goes
wrong is an event, a trap or a status in State, so no fault is raised by any meaning. -/
inductive Fault where
  /-- Raised by nobody: the manual gives the device no way of stopping. Safe. -/
  | neverRaised
  deriving DecidableEq, Repr

/-- Reasons for which a step has no answer. -/
inductive Refusal where
  /-- Raised by exec's arm of a command that the model does not give a meaning to. Safe. -/
  | notModelled (mnemonic : String)
  deriving DecidableEq, Repr

end Sys2Proof.Machine
end

