-- ==== Sys2Proof/Machine/Ops.lean ====
section
/-!
DEFINITION. The named operations over State that every chapter uses: finite maps, registers and their fields, the time
clock, free values, DRAM bytes, events.
-/
namespace Sys2Proof.Machine

/-! ### Finite maps -/

/-- The value at a key. -/
def Sparse.get? {α : Type} : Sparse α → Nat → Option α
  | [], _ => none
  | (k, v) :: m, x => if k = x then some v else Sparse.get? m x

/-- The map with a value at a key; keys stay strictly rising. -/
def Sparse.set {α : Type} : Sparse α → Nat → α → Sparse α
  | [], x, w => [(x, w)]
  | (k, v) :: m, x, w =>
    if x < k then (x, w) :: (k, v) :: m
    else if x = k then (x, w) :: m
    else (k, v) :: Sparse.set m x w

/-- The map without a key. -/
def Sparse.erase {α : Type} : Sparse α → Nat → Sparse α
  | [], _ => []
  | (k, v) :: m, x => if k = x then m else (k, v) :: Sparse.erase m x

/-- The value at a key or a default. -/
def Sparse.getD {α : Type} (m : Sparse α) (k : Nat) (d : α) : α := (Sparse.get? m k).getD d

/-- Do the keys of a map rise strictly? -/
def Sparse.wf {α : Type} : Sparse α → Bool
  | [] => true
  | [_] => true
  | (k, _) :: (k', v') :: m => decide (k < k') && Sparse.wf ((k', v') :: m)

/-! ### Registers -/

/-- The stored value of the register at an address; its Reset value while nothing has changed it (R11). -/
def State.reg (s : State) (a : Nat) : Word := Sparse.getD s.regs a (resetOf a)

/-- s with a register's stored value replaced: the hardware's own update, past the access codes. -/
def State.setReg (s : State) (a : Nat) (w : Word) : State := { s with regs := Sparse.set s.regs a w }

/-- A field of a register, as a number. -/
def State.fld (s : State) (f : RegField) : Nat := bits (s.reg f.addr).toNat f.hi f.lo

/-- s with a field of a register replaced. -/
def State.setFld (s : State) (f : RegField) (v : Nat) : State := s.setReg f.addr (setBits (s.reg f.addr) f.hi f.lo v)

/-- s with n added to a field, saturating at all ones. -/
def State.incFld (s : State) (f : RegField) (n : Nat) : State :=
  s.setFld f (satAdd (f.hi + 1 - f.lo) (s.fld f) n)

/-- s with 1 added to a field that wraps. -/
def State.wrapFld (s : State) (f : RegField) : State :=
  s.setFld f ((s.fld f + 1) % 2 ^ (f.hi + 1 - f.lo))

/-- A 64-bit quantity in two registers. -/
def State.setPair (s : State) (lo hi : Nat) (v : Nat) : State :=
  (s.setReg lo (BitVec.ofNat 32 v)).setReg hi (BitVec.ofNat 32 (v / 2 ^ 32))

/-! ### Time -/

/-- s when time-clock edge t has come: at every edge TIME_NS increases by TIME_INC (R340). An instant already past leaves
the clock as it is. -/
def State.advanceTo (s : State) (t : Nat) : State :=
  if s.clock.edges < t then
    { s with clock := { s.clock with
        edges := t,
        ns := s.clock.ns + s.clock.inc.setWidth 96 * BitVec.ofNat 96 (t - s.clock.edges) } }
  else s

/-- Edges of the time clock since reset release: the 2 ns measure of every duration. -/
def State.now (s : State) : Nat := s.clock.edges

/-- The integer part of TIME_NS. -/
def State.timeNs (s : State) : Nat := s.clock.ns.toNat / 2 ^ 32

/-- Time-clock edges in n nanoseconds, microseconds, milliseconds, seconds. -/
def edgesNs (n : Nat) : Nat := ceilDiv n 2
def edgesUs (n : Nat) : Nat := 500 * n
def edgesMs (n : Nat) : Nat := 500000 * n
def edgesS (n : Nat) : Nat := 500000000 * n

/-- Have n edges passed since edge t0? -/
def State.elapsed (s : State) (t0 n : Nat) : Bool := t0 + n ≤ s.now

/-! ### Free values -/

/-- The next fresh free value, and s with it taken. -/
def State.take (s : State) : BitVec 64 × State := (Config.free s.fresh, { s with fresh := s.fresh + 1 })

/-! ### Power domains -/

/-- The state of a power domain: 0 off, 1 retention, 2 on, 3 changing (R413, PWR_PD_STATE). -/
def State.pd (s : State) (k : Nat) : Nat := s.fld ⟨PWR_PD_STATE (k / 16), 2 * (k % 16) + 1, 2 * (k % 16)⟩

def State.setPd (s : State) (k v : Nat) : State :=
  s.setFld ⟨PWR_PD_STATE (k / 16), 2 * (k % 16) + 1, 2 * (k % 16)⟩ v

/-- The power domain of the register at an offset of block n, as each chapter states it. -/
def regDomain (n off : Nat) : Nat :=
  match n with
  | 7 => 44
  | 8 => 38
  | 9 => 38
  | 10 => 46
  | 11 => 46
  | 12 => 45
  | 13 => 45
  | 14 => if off < 0x1000 then 32 + off / 0x400 else 32
  | 16 => if 0x1000 ≤ off && off < 0x1400 then 39 + (off - 0x1000) / 0x100 else 47
  | 17 => 43
  | 18 => 36
  | 19 => 36
  | 20 => 37
  | _ => 47

/-! ### Outputs and other indexed parts -/

def State.out (s : State) (o : Output) : Out := s.outs[o]
def State.setOut (s : State) (o : Output) (x : Out) : State := { s with outs := s.outs.set o x }
def State.updCycle (s : State) (o : Output) (f : Cycle → Cycle) : State :=
  s.setOut o { s.out o with cycle := f (s.out o).cycle }
def State.updRender (s : State) (o : Output) (f : Render → Render) : State :=
  s.setOut o { s.out o with render := f (s.out o).render }
def State.updScan (s : State) (o : Output) (f : Scan → Scan) : State :=
  s.setOut o { s.out o with scan := f (s.out o).scan }
def State.updPlay (s : State) (o : Output) (f : Play → Play) : State :=
  s.setOut o { s.out o with play := f (s.out o).play }
def State.codec (s : State) (u : CodecUnit) : Codec := s.codecs[u]
def State.setCodec (s : State) (u : CodecUnit) (x : Codec) : State := { s with codecs := s.codecs.set u x }
def State.cam (s : State) (p : Port) : Cam := s.cams[p]
def State.setCam (s : State) (p : Port) (x : Cam) : State := { s with cams := s.cams.set p x }
def State.dch (s : State) (c : Channel) : DramCh := s.dram.chans[c]
def State.setDch (s : State) (c : Channel) (x : DramCh) : State :=
  { s with dram := { s.dram with chans := s.dram.chans.set c x } }

/-- The outputs, the ports and the clusters in increasing number. -/
def allOutputs : List Output := [0, 1, 2, 3]
def allPorts : List Port := [0, 1, 2, 3, 4, 5, 6, 7]
def allChannels : List Channel := [0, 1, 2, 3, 4, 5, 6, 7]

/-- Is an output scanning (SCN_OUT_STAT state 2)? These are the active outputs once the device runs. -/
def State.scanning (s : State) (o : Output) : Bool := s.fld (SCN_OUT_STAT_state o) = 2

/-- The active outputs: those scanning, in increasing number. -/
def State.activeOutputs (s : State) : List Output := allOutputs.filter s.scanning

/-- The outputs that passed admission and have not begun to power off: powering on or scanning. They share the device's
capacity (R36). -/
def State.sharing (s : State) : List Output :=
  allOutputs.filter fun o => s.fld (SCN_OUT_STAT_state o) = 1 || s.fld (SCN_OUT_STAT_state o) = 2

/-- The lowest-numbered active output. -/
def State.lowestActive (s : State) : Option Output := s.activeOutputs.head?

/-- Is cluster c in service (R126)? -/
def State.inService (s : State) (c : Nat) : Bool := s.fld (ENG_CL_STAT_out c) = 0

/-- The clusters in service in increasing number. -/
def State.clusters (s : State) : List Nat := (List.range 32).filter s.inService

/-- Is the DRAM controller frozen (R245)? -/
def State.frozen (s : State) : Bool := s.fld DRC_FREEZE_INFO_frozen = 1

/-! ### DRAM bytes -/

/-- The byte listed at a physical address; none where nothing has been written. -/
def memGet? : List Host.Cell → Nat → Option Byte
  | [], _ => none
  | (k, v) :: m, a => if k = a then some v else memGet? m a

/-- The memory with a byte written; addresses stay strictly rising. -/
def memSet : List Host.Cell → Nat → Byte → List Host.Cell
  | [], a, b => [(a, b)]
  | (k, v) :: m, a, b =>
    if a < k then (a, b) :: (k, v) :: m
    else if a = k then (a, b) :: m
    else (k, v) :: memSet m a b

/-- The canonical form of DRAM contents: addresses strictly rising. A byte never written is not listed, so no entry can
equal what an unlisted address holds. -/
def Memory.wf : List Host.Cell → Bool
  | [] => true
  | [_] => true
  | (k, _) :: (k', v') :: m => decide (k < k') && Memory.wf ((k', v') :: m)

/-- The byte at a physical address: what was written there, else a free value (assumption log 3). -/
def State.memByte (s : State) (a : Nat) : Byte := (memGet? s.dram.mem a).getD (Config.dramByte a)

/-- n bytes from a physical address. -/
def State.memBytes (s : State) (a n : Nat) : Bytes := (List.range n).map fun i => s.memByte (a + i)

def memSetBytes (m : List Host.Cell) (a : Nat) : Bytes → List Host.Cell
  | [] => m
  | b :: bs => memSetBytes (memSet m a b) (a + 1) bs

/-- s with bytes written from a physical address on. -/
def State.memWrite (s : State) (a : Nat) (bs : Bytes) : State :=
  { s with dram := { s.dram with mem := memSetBytes s.dram.mem a bs } }

/-! ### Events -/

/-- The domain field of event n (R480). -/
def eventDomain (n : Nat) : Nat :=
  if n < 32 then n
  else if n < 48 then 32 + (n - 32) / 4
  else if n < 64 then 43
  else if n < 112 then 38
  else if n < 120 then 47
  else if n < 128 then 44
  else if n < 136 then 45
  else if n < 144 then 39 + (n - 136) / 2
  else if n < 152 then 47
  else if n < 168 then 36
  else if n < 176 then 37
  else if n < 232 then 47
  else if n < 248 then 46
  else 47

/-- The severity of event n (R480). -/
def eventSeverity (n : Nat) : Nat :=
  if n = 56 || n = 57 || n = 109 || n = 202 || n = 233 || n = 246 || n = 252 then 4
  else if n = 228 then 3
  else if n < 32 then 3
  else if n < 48 then 2
  else if n < 64 then 1
  else if n < 112 then 2
  else if n < 128 then 1
  else if n < 144 then 2
  else if n < 148 then 4
  else if n < 152 then 0
  else if n < 176 then 2
  else if n < 200 then 3
  else if n < 232 then 2
  else if n < 240 then 1
  else if n < 248 then 2
  else 1

/-- A raise put among the pending ones, in rising source number; a second raise of a source is dropped and marks the
first coalesced (R475). The flag says whether it coalesced. -/
def addRaise (r : Raise) : List Raise → List Raise × Bool
  | [] => ([r], false)
  | x :: xs =>
    if r.src < x.src then (r :: x :: xs, false)
    else if r.src = x.src then ({ x with coalesced := true } :: xs, true)
    else
      let (ys, c) := addRaise r xs
      (x :: ys, c)

/-- Event n raised with a cause and an argument, stamped with TIME_NS (R474, R475). -/
def State.raiseWith (s : State) (n : Nat) (cause : Byte) (arg : Word) (injected : Bool) : State :=
  let r : Raise := { src := n, cause, arg, stamp := s.timeNs, coalesced := false, injected,
                     frozen := s.frozen, harbour := s.boot.phase = .safeHarbour }
  let (ps, c) := addRaise r s.evt.pend
  let s := { s with evt := { s.evt with pend := ps } }
  if c then s.incFld EVT_LOST_count 1 else s

/-- Event n raised with a cause that its chapter numbers. -/
def State.raise (s : State) (n cause arg : Nat) : State :=
  s.raiseWith n (BitVec.ofNat 8 cause) (BitVec.ofNat 32 arg) false

/-- Event n raised where no chapter numbers its cause byte (assumption log 7). -/
def State.raiseOpen (s : State) (n arg : Nat) : State :=
  s.raiseWith n (Config.openCause n) (BitVec.ofNat 32 arg) false

/-- An own VC2 wagon's type, stream, item flag and payload queued toward the source (R313, R319): a header whose seq and
CRCs are written when it is sent. -/
def wagonBytes (type vc addr flags length offset stream : Nat) (payload : Bytes) : Bytes :=
  toLe 1 type ++ toLe 1 vc ++ toLe 1 addr ++ toLe 1 flags ++ toLe 2 0 ++ toLe 2 length ++ toLe 4 offset ++
    toLe 2 stream ++ toLe 2 0 ++ payload

/-- The tile's own number, as strapped (R446). -/
def State.tileId (s : State) : Nat := s.fld CFG_STRAPS_tile_id

/-- The bytes of an item from its byte `off` on, cut into fragments of at most 9,216 bytes (R315); `ends` says whether the item
ends with them. Fuel bounds the number of fragments. -/
def fragments (type stream tile : Nat) (ends : Bool) : Nat → Nat → Bytes → List Bytes
  | 0, _, _ => []
  | fuel + 1, off, bs =>
    let part := bs.take 9216
    let rest := bs.drop 9216
    let flags := b2n (off = 0) + 2 * b2n (rest.isEmpty && ends)
    wagonBytes type 2 (15 + 16 * tile) flags part.length off stream part ::
      (if rest.isEmpty then [] else fragments type stream tile ends fuel (off + part.length) rest)

/-- A wagon's charge in units of 256 bytes (R317). -/
def wagonCharge (length : Nat) : Nat := ceilDiv (20 + length) 256

/-- The consumed units leave room for a charge (R317). -/
def hasCredit (t : TxGroup) (vc charge : Nat) : Bool :=
  let i := Fin.ofNat 3 (vc - 1)
  charge ≤ (t.limit.get i - t.consumed.get i).toNat

/-- Is the CARAVAN record's hop used? -/
def State.hopUsed (s : State) (h : Hop) : Bool :=
  match h with
  | .up => s.fld LNK_STAT_up_state != 0
  | .dn => s.fld LNK_STAT_dn_state != 0

/-- The bytes of an own VC2 item from its byte `off` on queued on UP_TX, unless a freeze allows STATUS only (R334); `ends` says
whether the item ends with them. -/
def State.sendPart (s : State) (type stream off : Nat) (ends : Bool) (payload : Bytes) : State :=
  if (s.frozen && type != 0x43) || !s.hopUsed .up then s
  else
    let ws := fragments type stream s.tileId ends (payload.length / 9216 + 1) off payload
    { s with link := { s.link with txUp := { s.link.txUp with q2own := s.link.txUp.q2own ++ ws } } }

/-- An own item or wagon of VC2 queued on UP_TX. -/
def State.sendUp (s : State) (type stream : Nat) (payload : Bytes) : State := s.sendPart type stream 0 true payload

/-- Has UP_TX credit for its next own VC2 wagon: the one at the head of its queue, else one of so many bytes (R182, R317)? -/
def State.ownCredit (s : State) (length : Nat) : Bool :=
  let t := s.link.txUp
  hasCredit t 2 (wagonCharge (match t.q2own with
    | [] => min length 9216
    | w :: _ => w.length - 16))

end Sys2Proof.Machine
end

