-- ==== Sys2Proof/Machine/Event.lean ====
section
/-!
DEFINITION. The event router's write, the Guestbook and the Strongbox (R474–R490).
-/
namespace Sys2Proof.Machine

/-! ### Snapshot requests (R484, R485) -/

/-- Kinds under the rate limit (R484). -/
def limitedKind (k : Nat) : Bool := k = 1 || k = 2 || k = 8

/-- Kinds that mark their slot kept (R484). -/
def keptKind (k : Nat) : Bool := 3 ≤ k && k ≤ 7

/-- A trigger merged or refused (R484, R485). -/
def State.mergeTrigger (s : State) : State :=
  { s with sbx := { s.sbx with merged := s.sbx.merged + 1 } }.incFld SBX_STAT_merged 1

/-- A snapshot trigger (R484, R485): refused by the rate limit, merged into a queued one, or queued. A trigger of kinds
3–7 takes the place of a queued one of kinds 1, 2 or 8. -/
def State.snapRequest (s : State) (kind : Nat) (code : BitVec 16) (entry : Option Nat) : State :=
  let refused := limitedKind kind && s.sbx.lastLimited.any fun t => !s.elapsed t (edgesS 1)
  if refused then s.mergeTrigger
  else
    let put (s : State) : State :=
      { s with sbx := { s.sbx with queued := some { kind, code, entry } } }
    match s.sbx.queued with
    | none => put s
    | some q => if keptKind kind && !keptKind q.kind then put s.mergeTrigger else s.mergeTrigger

/-! ### Writing an entry (R476–R478, R481, R482) -/

/-- The routing byte of event n (R477); bit 1 is the firmware's, from the end of the ROM boot on (R515). -/
def State.route (s : State) (n : Nat) : Nat :=
  let b := bits (s.reg (EVT_ROUTE (n / 4))).toNat (8 * (n % 4) + 7) (8 * (n % 4))
  b - bits b 1 1 * 2 + (if s.boot.romDone && firmwareIrq n then 2 else 0)

/-- The pending raise that is written next: the lowest stamp, equal stamps in increasing source number (R476). -/
def nextRaise : List Raise → Option Raise
  | [] => none
  | r :: rs =>
    match nextRaise rs with
    | none => some r
    | some q => if q.stamp < r.stamp then some q else some r

/-- The code of a raise: source in [15:8], cause in [7:0] (R474). -/
def raiseCode (r : Raise) : BitVec 16 := BitVec.ofNat 16 (r.src * 256 + r.cause.toNat)

/-- The Guestbook entry of a raise (R481). -/
def entryOf (r : Raise) : GbEntry :=
  { w0 := BitVec.ofNat 32 r.stamp
    w1 := BitVec.ofNat 32 (r.stamp / 2 ^ 32)
    w2 := BitVec.ofNat 32 ((raiseCode r).toNat + eventDomain r.src * 2 ^ 16 + eventSeverity r.src * 2 ^ 24 +
      b2n r.coalesced * 2 ^ 28 + b2n r.injected * 2 ^ 29 + b2n r.frozen * 2 ^ 30 + b2n r.harbour * 2 ^ 31)
    w3 := r.arg }

/-- The entry stored in the Guestbook under the next number, and that number (R476, R482). -/
def State.storeEntry (s : State) (g : GbEntry) : State :=
  let h := s.reg GBK_HEAD
  { s with evt := { s.evt with book := Sparse.set s.evt.book (h.toNat % 8192) g } }.setReg GBK_HEAD (h + 1)

/-- Bit 2: the event's EVT_FAULT bit (R478). -/
def State.latchFault (s : State) (n : Nat) : State := s.setFld ⟨EVT_FAULT (n / 32), n % 32, n % 32⟩ 1

/-- The actions of a routing byte at the write of an entry (R477). -/
def State.routeActions (s : State) (r : Raise) : State :=
  let b := s.route r.src
  let h := (s.reg GBK_HEAD).toNat
  let s := if bit b 0 then s.storeEntry (entryOf r) else s
  let s := if bit b 1 then
      { s with evt := { s.evt with irq := Sparse.set s.evt.irq r.src (Sparse.getD s.evt.irq r.src 0 + 1) } } else s
  let s := if bit b 2 then s.latchFault r.src else s
  let s := if bit b 3 then { s with evt := { s.evt with push := some (raiseCode r) } } else s
  if bit b 4 then s.snapRequest 1 (raiseCode r) (if bit b 0 then some h else none) else s

/-- EVENT_WRITE (R476): the router writes one entry every 4 ns, that of the pending raise with the lowest stamp. -/
def execEventWrite (t : Nat) (s : State) : Host.Outcome State Fault Refusal :=
  .next <|
    let s := s.advanceTo t
    match nextRaise s.evt.pend with
    | none => s
    | some r =>
      if s.evt.wroteAt.any fun e => !s.elapsed e (edgesNs 4) then s
      else
        let s := { s with evt := { s.evt with pend := s.evt.pend.filter (·.src != r.src), wroteAt := some s.now } }
        s.routeActions r

/-- FAULT_N (R478): low while any EVT_FAULT bit is set, and from reset until the ROM boot ends. -/
def State.faultN (s : State) : Bool :=
  s.boot.romDone && (List.range 8).all fun i => s.reg (EVT_FAULT i) = 0

/-! ### Snapshots (R486–R489) -/

/-- A slot of the Strongbox. -/
def Strongbox.slot (b : Strongbox) (i : Fin 16) : Slot := b.slots.get i

/-- The lowest serial among slots; the first of them stands for an empty list's default. -/
def Strongbox.lowest (b : Strongbox) : Fin 16 → List (Fin 16) → Fin 16
  | i, [] => i
  | i, j :: is => b.lowest (if (b.slot j).serial < (b.slot i).serial then j else i) is

/-- The slot that a snapshot goes to (R486): among the unkept ones the first empty or invalid one, else the one with the
lowest serial; a slot whose verify has just failed is passed over (R489). -/
def Strongbox.pick (b : Strongbox) : Fin 16 :=
  let all : List (Fin 16) := List.finRange 16
  let free := all.filter fun i => !(b.slot i).kept && b.failed != some i.val
  match free.find? fun i => !(b.slot i).valid with
  | some i => i
  | none =>
    match free with
    | [] => 0
    | i :: is => b.lowest i is

/-- Kept slots. -/
def Strongbox.keptCount (b : Strongbox) : Nat := (b.slots.toList.filter fun x => x.valid && x.kept).length

/-- The kept slot with the lowest serial unmarked (R486). -/
def Strongbox.unmarkLowest (b : Strongbox) : Strongbox :=
  let kept := (List.finRange 16).filter fun i => (b.slot i).valid && (b.slot i).kept
  match kept with
  | [] => b
  | i :: is =>
    let m := b.lowest i is
    { b with slots := b.slots.set m { b.slot m with kept := false } }

/-- The words of the state summary of R488 from offset 0x010 on. -/
def State.summaryBody (s : State) : List Word :=
  let rs (l : List Nat) : List Word := l.map s.reg
  [s.reg CFG_CHIP_ID, Config.dieUid.setWidth 32, (Config.dieUid >>> 32).setWidth 32,
   BitVec.ofNat 32 s.timeNs, BitVec.ofNat 32 (s.timeNs / 2 ^ 32)] ++
  rs [CFG_SEQ, CFG_CRC, GBK_HEAD] ++
  (List.range 4).flatMap (fun o => rs [SCN_FRAME o, SCN_OUT_STAT o]) ++
  rs [THM_STATE, THM_MAX] ++ rs ((List.range 16).map PWR_MON_STAT) ++ rs ((List.range 3).map PWR_PD_STATE) ++
  rs [DRC_FREEZE_INFO, DRC_FREEZE_ADDR_LO, DRC_FREEZE_ADDR_HI] ++ rs [LNK_STAT, TIM_STAT] ++
  rs ((List.range 32).map ENG_CL_STAT) ++ rs ((List.range 8).map EVT_FAULT)

/-- The state summary of a snapshot (R488). -/
def State.summary (s : State) (q : SnapReq) (serial : Word) : List Word :=
  [0x58424B53,
   BitVec.ofNat 32 (1 + (q.kind + b2n (keptKind q.kind) * 128) * 2 ^ 8 + q.code.toNat * 2 ^ 16),
   serial, BitVec.ofNat 32 s.sbx.merged] ++ s.summaryBody

/-- The zero entry. -/
def zeroEntry : GbEntry := ⟨0, 0, 0, 0⟩

/-- The 1,024 stored entries of a snapshot, oldest first (R487). -/
def State.snapEntries (s : State) (q : SnapReq) : List GbEntry :=
  let last := match q.entry with
    | some n => n + 1
    | none => (s.reg GBK_HEAD).toNat
  (List.range 1024).map fun i =>
    if last + i < 1024 then zeroEntry
    else Sparse.getD s.evt.book ((last + i - 1024) % 8192) zeroEntry

/-- The freeze history words of a channel in the layout of DRC_FREEZE_HIST: entry 63 is the newest. -/
def histWords (l : List HistEntry) : List Word :=
  (List.replicate (64 - l.length) ([0, 0] : List Word)).flatten ++ l.flatMap fun h => [h.lo, h.hi]

/-- The words of a slot before its CRC (R487): summary, entries, history, zeros. -/
def Slot.body (x : Slot) : List Word :=
  let sum := x.summary ++ List.replicate (256 - x.summary.length) 0
  let es := x.entries.flatMap fun g => [g.w0, g.w1, g.w2, g.w3]
  let es := es ++ List.replicate (4096 - es.length) 0
  let hs := x.hist ++ List.replicate (1024 - x.hist.length) 0
  sum ++ es ++ hs ++ List.replicate 2815 0

/-- Words as bytes. -/
def wordBytes (ws : List Word) : Bytes := ws.flatMap fun w => toLe 4 w.toNat

/-- Word i of a slot as SBX_WINDOW shows it; the valid byte of a slot that is not valid reads 0 (R487). -/
def Slot.word (x : Slot) (i : Nat) : Word :=
  let w := if i = 8191 then x.crc else x.body.getD i 0
  if i = 1 && !x.valid then w &&& 0xFFFFFF00 else w

/-- SNAPSHOT_WRITE (R485–R488): the queued snapshot starts: its slot's valid byte is cleared and its content is taken. -/
def execSnapshotWrite (t : Nat) (s : State) : Host.Outcome State Fault Refusal :=
  .next <|
    let s := s.advanceTo t
    match s.sbx.writing, s.sbx.queued with
    | none, some q =>
      let i := s.sbx.pick
      let serial := s.sbx.serial + 1
      let slot : Slot :=
        { valid := true
          kept := keptKind q.kind
          kind := q.kind
          serial
          summary := s.summary q serial
          entries := s.snapEntries q
          hist := s.dram.hist.toList.flatMap histWords }
      { s with sbx := { s.sbx with
          slots := s.sbx.slots.set i { s.sbx.slot i with valid := false }
          writing := some (i, slot)
          queued := none
          merged := 0
          lastLimited := if limitedKind q.kind then some s.now else s.sbx.lastLimited
          serial } }
    | _, _ => s

/-! ### Reset (R445, R448) -/

/-- The state that a reset leaves: every register at its Reset value, TIME_NS 0; flash, fuses and the Strongbox's slots
stay. -/
def State.afterReset (s : State) : State :=
  { State.reset with
    pending := s.pending
    fresh := s.fresh
    boot := { flash := s.boot.flash, flashId := s.boot.flashId, otp := s.boot.otp }
    sbx := { slots := s.sbx.slots, serial := s.sbx.serial } }

/-- A reset that waits takes effect once no output is powered and, where a snapshot comes first, once it has been written
(R288, R291, R429, R445, R496). -/
def State.checkReset (s : State) : State :=
  let off := allOutputs.all fun o => s.fld (SCN_OUT_STAT_state o.val) = 0
  let written := s.sbx.queued.isNone && s.sbx.writing.isNone
  match s.boot.waiting with
  | some .resetN => if off then s.afterReset else s
  | some .afterSnapshot => if off && written then s.afterReset else s
  | none => s

/-- SNAPSHOT_COMPLETE (R486, R487, R489): the write ends; `ok` is the read-back verify. -/
def execSnapshotComplete (t : Nat) (ok : Bool) (s : State) : Host.Outcome State Fault Refusal :=
  .next <|
    let s := s.advanceTo t
    match s.sbx.writing with
    | none => s
    | some (i, slot) =>
      if ok then
        let slot := { slot with crc := crc32 (wordBytes slot.body) }
        -- at most 8 kept slots
        let b := if slot.kept && s.sbx.keptCount = 8 then s.sbx.unmarkLowest else s.sbx
        let s := { s with sbx := { b with slots := b.slots.set i slot, writing := none, failed := none } }
        (s.raiseOpen 253 (i.val + slot.kind * 2 ^ 8 + b2n slot.kept * 2 ^ 16)).checkReset
      else
        let s := { s with sbx := { s.sbx with
          slots := s.sbx.slots.set i { slot with valid := false, kept := false }
          writing := none, failed := some i.val } }
        (s.raiseOpen 254 i.val).checkReset

/-- Every slot unmarked (R486). -/
def State.clearKeep (s : State) : State :=
  { s with sbx := { s.sbx with slots := s.sbx.slots.map fun x => { x with kept := false } } }

end Sys2Proof.Machine
end

