-- ==== Sys2Proof/Machine/Rooms.lean ====
section
/-!
DEFINITION. The Innkeeper's address spaces (R196–R203): translation, access rights, faults, and the layouts of the VIEW
and OVL spaces. Every space lies in contiguous rooms (R200), so a space is its first physical room and its size.
-/
namespace Sys2Proof.Machine

/-- Bytes of a room (R196). -/
def roomBytes : Nat := 1048576

/-- Spaces (R197). -/
def spCTX : Nat := 4
def spLEG : Nat := 5
def spSTOCK : Nat := 6
def spOVL : Nat := 7
def spCAP : Nat := 8
def spTAP : Nat := 9
def spBLIT : Nat := 10
def spFW : Nat := 11

/-- Requesters (R201): a cluster's view cache is its number, a codec unit 32 + its number. -/
def rqCodec (u : CodecUnit) : Nat := 32 + u.val
def rqBlitter : Nat := 48
def rqIsp : Nat := 49
def rqIntake : Nat := 51
def rqEgress : Nat := 52
def rqConcierge : Nat := 53

/-- May a requester read a space (R197)? The blitter reads the OVL pixels that a command draws on (R403, R406, the example of
R410) as part of its write to them. -/
def mayRead (rq sp : Nat) : Bool :=
  if sp < 4 then decide (rq < 48)
  else if sp = spCTX then decide (32 ≤ rq) && decide (rq < 48)
  else if sp = spLEG || sp = spSTOCK then decide (32 ≤ rq) && decide (rq < 49)
  else if sp = spOVL then decide (rq < 32)
  else if sp = spCAP then (decide (32 ≤ rq) && decide (rq < 48)) || decide (rq = 52)
  else if sp = spTAP then decide (rq = 53) || decide (rq = 52)
  else if sp = spBLIT then decide (rq = 48)
  else if sp = spFW then decide (rq = 53)
  else false

/-- May a requester write a space (R197)? -/
def mayWrite (rq sp : Nat) : Bool :=
  if sp < 4 then decide (32 ≤ rq) && decide (rq < 48)
  else if sp = spCTX then decide (32 ≤ rq) && decide (rq < 48)
  else if sp = spLEG || sp = spSTOCK then decide (rq = 51)
  else if sp = spOVL then decide (rq = 48)
  else if sp = spCAP then decide (rq = 49) || (decide (32 ≤ rq) && decide (rq < 48))
  else if sp = spTAP then decide (rq = 49)
  else if sp = spBLIT then decide (rq = 48) || decide (rq = 53)
  else if sp = spFW then decide (rq = 53)
  else false

/-- Rooms of a space. -/
def State.spaceRooms (s : State) (sp : Nat) : Nat := s.fld (INK_SPACE_SIZE_rooms sp)

/-- The physical address of an offset of a space (R196); none where the space has no room there (R203). -/
def State.phys? (s : State) (sp off : Nat) : Option Nat :=
  match (s.rooms.first.toList)[sp]? with
  | some (some r) => if off < s.spaceRooms sp * roomBytes then some (r * roomBytes + off) else none
  | _ => none

/-- Is the room table entry of a space's room valid (R199, R203)? Every entry is from the start on, but that of a LEG room only
while an output and serial hold the room (R205, R206). -/
def State.entryValid (s : State) (sp room : Nat) : Bool := sp != spLEG || (Sparse.get? s.rooms.legTags room).isSome

/-- The room table entry of a space's room (R199): physical room, space, valid, wprot (stock rooms, R210), frame, output and
serial of a per-frame room, stock index of a stock room. -/
def State.tableEntry (s : State) (sp room : Nat) : BitVec 64 :=
  match (s.rooms.first.toList)[sp]? with
  | some (some r) =>
    if s.spaceRooms sp ≤ room || !s.entryValid sp room then 0
    else
      let tag := match if sp = spLEG then Sparse.get? s.rooms.legTags room else none with
        | some (o, serial) => 2 ^ 26 + o.val * 2 ^ 27 + serial.toNat * 2 ^ 32
        | none => if sp = spSTOCK then 2 ^ 25 + room * 2 ^ 32 else 0
      BitVec.ofNat 64 (r + room + sp * 2 ^ 20 + 2 ^ 24 + tag)
  | _ => 0

/-- The VRN of a space's room (R196). -/
def State.vrn (s : State) (sp room : Nat) : Nat := s.fld (INK_SPACE_BASE_base sp) + room

/-- Entries of a TLB (R201). -/
def tlbEntries : Nat := 32

/-- Does a requester's TLB hold a VRN? -/
def State.tlbHit (s : State) (rq vrn : Nat) : Bool := (Sparse.getD s.rooms.tlb rq []).contains vrn

/-- A translation of a VRN in a requester's TLB: the least recently used entry makes room (R201). -/
def State.tlbUse (s : State) (rq vrn : Nat) : State :=
  let l := (vrn :: (Sparse.getD s.rooms.tlb rq []).filter (· != vrn)).take tlbEntries
  { s with rooms := { s.rooms with tlb := Sparse.set s.rooms.tlb rq l } }

/-- VRNs whose entries have changed leave every TLB (R202). -/
def State.tlbDrop (s : State) (vrns : List Nat) : State :=
  { s with rooms := { s.rooms with tlb := s.rooms.tlb.map fun (x : Nat × List Nat) =>
      (x.1, x.2.filter fun v => !(vrns.contains v)) } }

/-- An unmapped (kind 1, EV242) or forbidden (kind 2, EV243) access (R197, R203): the first one is latched. -/
def State.noteFault (s : State) (kind sp rq off : Nat) (write : Bool) : State :=
  let s :=
    if s.fld INK_FAULT_INFO_valid = 1 then s
    else
      (s.setReg INK_FAULT_INFO (BitVec.ofNat 32 (2 ^ 31 + kind * 2 ^ 28 + sp * 2 ^ 24 + rq * 2 ^ 16 + b2n write))).setPair
        INK_FAULT_OFS_LO INK_FAULT_OFS_HI off
  s.raiseOpen (241 + kind) (sp * 2 ^ 24 + rq * 2 ^ 16)

/-- An access of n bytes (R196, R197, R201, R203): the physical address of its first byte, or none after the fault has been
noted. -/
def State.access (s : State) (rq sp off n : Nat) (write : Bool) : Option Nat × State :=
  if !(if write then mayWrite rq sp else mayRead rq sp) then (none, s.noteFault 2 sp rq off write)
  else
    let rooms := (List.range ((off + n - 1) / roomBytes + 1 - off / roomBytes)).map (off / roomBytes + ·)
    match s.phys? sp off, s.phys? sp (off + n - 1), rooms.all (s.entryValid sp) with
    | some p, some _, true => (some p, rooms.foldl (fun s k => s.tlbUse rq (s.vrn sp k)) s)
    | _, _, _ => (none, s.noteFault 1 sp rq off write)

/-- n bytes of a mapped space, without the checks; what lies beyond its rooms reads as no bytes. -/
def State.spaceBytes (s : State) (sp off n : Nat) : Bytes :=
  match s.phys? sp off with
  | some p => s.memBytes p n
  | none => []

/-- Bytes written into a mapped space. -/
def State.spaceWrite (s : State) (sp off : Nat) (bs : Bytes) : State :=
  match s.phys? sp off with
  | some p => s.memWrite p bs
  | none => s

/-! ### The view store (R55, R56) -/

def State.raymode (s : State) (o : Output) : RaymodeRec := (s.itin.raymode[o]).getD {}
def State.outRec (s : State) (o : Output) : OutputRec := (s.itin.output[o]).getD {}
def State.calib (s : State) (o : Output) : CalibRec := (s.itin.calib[o]).getD {}
def State.panelRec (s : State) (o : Output) : PanelRec := (s.itin.panel[o]).getD {}

/-- Subpixels per line and active lines of an output (R51). -/
def State.wsub (s : State) (o : Output) : Nat := 3 * (s.outRec o).width
def State.lines (s : State) (o : Output) : Nat := (s.outRec o).lines

/-- Tile sizes (R55). -/
def colourTile (r : RaymodeRec) : Nat := if r.format = 0 then 192 else 256
def depthTile : Nat := 128

/-- Bytes of one colour plane, of one depth plane, of a view (R56). -/
def colourPlane (r : RaymodeRec) : Nat := r.vw * r.vh / 64 * colourTile r
def depthPlane (r : RaymodeRec) : Nat := if r.depth then r.vw * r.vh / 64 * depthTile else 0
def viewBytes (r : RaymodeRec) : Nat := colourPlane r + depthPlane r

/-- Rooms of one half: a whole number of rooms (R197). -/
def halfRooms (r : RaymodeRec) : Nat := ceilDiv (r.nu * r.nv * viewBytes r) roomBytes

/-- The half on display (R198): 0 A, 1 B. -/
def State.displayHalf (s : State) (o : Output) : Nat := if (s.fld INK_FLIP_display).testBit o.val then 1 else 0

/-- Base of a half in the VIEW space. -/
def State.halfBase (s : State) (o : Output) (half : Nat) : Nat := half * halfRooms (s.raymode o) * roomBytes
def State.displayBase (s : State) (o : Output) : Nat := s.halfBase o (s.displayHalf o)
def State.decodeBase (s : State) (o : Output) : Nat := s.halfBase o (1 - s.displayHalf o)

/-- Offset of a colour texel of a view within its half, and its bytes (R55, R56). -/
def texelOffset (r : RaymodeRec) (view x y : Nat) : Nat :=
  let tile := (y / 8) * (r.vw / 8) + x / 8
  view * viewBytes r + tile * colourTile r + (if r.format = 0 then 3 else 4) * (8 * (y % 8) + x % 8)

/-- Offset of a depth sample of a view within its half (R55, R56). -/
def depthOffset (r : RaymodeRec) (view x y : Nat) : Nat :=
  let tile := (y / 8) * (r.vw / 8) + x / 8
  view * viewBytes r + colourPlane r + tile * depthTile + 2 * (8 * (y % 8) + x % 8)

/-! ### Alcoves of the shared pool (R208, R209): numbered in the order of the allocation -/

/-- First alcove of each use: room table, Porter queue, codec band windows, calibration store, camera line buffers, rings. -/
def alTable : Nat := 0
def alQueue : Nat := 16
def alWindow : Nat := 18
def alCalib : Nat := 274
def alCamera : Nat := 402
def alRing : Nat := 418

/-- Alcoves of an output's line-buffer ring. -/
def State.ringAlcoves (s : State) (o : Output) : Nat :=
  if (s.itin.output[o]).isSome then ceilDiv (96 * s.wsub o) 65536 else 0

/-- The alcove of an entry of an output's ring. -/
def State.ringAlcove (s : State) (o : Output) (entry : Nat) : Nat :=
  alRing + ((allOutputs.filter fun (x : Output) => decide (x.val < o.val)).map s.ringAlcoves).sum + entry / 32768

/-- First alcove of the image pipeline's working store, and of the blitter's. -/
def State.alStore (s : State) : Nat := alRing + (allOutputs.map s.ringAlcoves).sum
def State.alBlit (s : State) : Nat := s.alStore + 32

/-- A double-bit error in an alcove (R209): EV244, and the alcove waits for its spare. -/
def State.alcoveLost (s : State) (d : DeadAlcove) : State :=
  let s := s.raiseOpen 244 (d.alcove % 2048)
  if s.rooms.dead.any (·.alcove = d.alcove) then s
  else { s with rooms := { s.rooms with dead := s.rooms.dead ++ [d] } }

/-! ### Overlay planes: outputs in increasing number, planes 0–3, buffer 0 before buffer 1, each in whole rooms, rows at a
pitch of 4 bytes a pixel rounded up to 64 (assumption log 13) -/

def ovlPitch (width : Nat) : Nat := ceilDiv (4 * width) 64 * 64
def ovlBufferBytes (r : OutputRec) : Nat := ovlPitch r.width * r.lines
def ovlBufferRooms (r : OutputRec) : Nat := ceilDiv (ovlBufferBytes r) roomBytes

/-- Has an output a RAYMODE record, and with it overlay planes? -/
def State.hasOvl (s : State) (o : Output) : Bool := (s.itin.raymode[o]).isSome && (s.itin.output[o]).isSome

/-- Rooms of an output's planes. -/
def State.ovlRooms (s : State) (o : Output) : Nat := if s.hasOvl o then 8 * ovlBufferRooms (s.outRec o) else 0

/-- Base of a plane's buffer in the OVL space. -/
def State.ovlBase (s : State) (o : Output) (plane buf : Nat) : Nat :=
  (((allOutputs.filter fun (x : Output) => decide (x.val < o.val)).map s.ovlRooms).sum + (2 * plane + buf) * ovlBufferRooms (s.outRec o)) *
    roomBytes

/-- The front buffer of a plane in this frame (RAY_OVL_CTRL front). -/
def State.frontBuf (s : State) (o : Output) (plane : Nat) : Nat :=
  if (s.fld (RAY_OVL_CTRL_front o.val)).testBit plane then 1 else 0

end Sys2Proof.Machine
end

