-- ==== Sys2Proof/Machine/Dram.lean ====
section
/-!
DEFINITION. The DDR4 controller (R215–R249): address mapping, error correction and counting, refresh, self-refresh, alert
retries, the freeze and the thaw.
-/
namespace Sys2Proof.Machine

/-! ### Address mapping (R218) -/

/-- log₂ of the populated channels. -/
def State.chanLog (s : State) : Nat :=
  match s.fld DRC_CFG_channels with
  | 2 => 1
  | 4 => 2
  | 8 => 3
  | _ => 0

/-- Populated channels. -/
def State.populated (s : State) : List Channel := allChannels.filter fun c => c.val < s.fld DRC_CFG_channels

/-- The channel of a physical address (R218). -/
def channelOf (k a : Nat) : Nat := ((a / 2 ^ 6) % 2 ^ k) ^^^ ((a / 2 ^ 17) % 2 ^ k)

/-- The channel-local byte address (R218). -/
def localAddr (k a : Nat) : Nat := a / 2 ^ (6 + k) * 64 + a % 64

/-- The physical unit (address / 64) of unit u of channel c (R218 inverted). -/
def unitOf (k c u : Nat) : Nat := u * 2 ^ k + (c ^^^ ((u / 2 ^ (11 - k)) % 2 ^ k))

/-- The fields of a channel-local address (R219): rank, bank group, bank, row, first column of the burst, the beat that the
controller sends first, and the byte within a beat, which data device of that number carries. -/
structure DramFields where
  rank : Nat
  group : Nat
  bank : Nat
  row : Nat
  column : Nat
  beat : Nat
  byte : Nat
  deriving DecidableEq, Repr

def dramFields (ranks2 : Bool) (a : Nat) : DramFields :=
  let row := if ranks2 then a / 2 ^ 18 else a / 2 ^ 17
  { rank := if ranks2 then bits a 17 17 else 0
    group := bits a 7 6
    bank := bits a 16 15 ^^^ (row % 4)
    row
    column := bits a 14 8 * 8
    beat := bits a 5 3
    byte := bits a 2 0 }

/-- The device of a rank that carries the check byte of a beat (R219); data byte j is carried by device j. -/
def checkDevice : Nat := 8

/-- A bank of a channel as one number. -/
def DramFields.key (f : DramFields) : Nat := 16 * f.rank + 4 * f.group + f.bank

/-- 64-byte units of one channel (R215). -/
def State.chanUnits (s : State) : Nat :=
  2 ^ 27 * (1 + s.fld DRC_CFG_d16) * (1 + s.fld DRC_CFG_ranks2)

/-! ### Freeze (R244, R245) -/

def State.chState (s : State) (c : Channel) : Nat := s.fld (DRC_CH_STAT_state c.val)

/-- A command as the freeze history shows it; the controller's clock count is a free value. -/
def State.issued (s : State) (c : Channel) (code rank group bank addr req : Nat) : State :=
  let (v, s) := s.take
  let lo := BitVec.ofNat 32 (code * 2 ^ 28 + rank * 2 ^ 27 + group * 2 ^ 25 + bank * 2 ^ 23 + addr * 2 ^ 6 + req)
  let d := s.dch c
  let l := d.issued ++ [{ hi := v.setWidth 32, lo }]
  s.setDch c { d with issued := l.drop (l.length - 64) }

/-- The fields of an address on its channel. -/
def State.fieldsOf (s : State) (addr : Nat) : DramFields :=
  dramFields (s.fld DRC_CFG_ranks2 = 1) (localAddr s.chanLog addr)

/-- Ranks of a channel. -/
def State.ranks (s : State) : List Nat := if s.fld DRC_CFG_ranks2 = 1 then [0, 1] else [0]

/-- Precharge-all of a rank: its rows are closed. -/
def State.closeRank (s : State) (c : Channel) (rank : Nat) : State :=
  (s.setDch c { s.dch c with rows := (s.dch c).rows.filter fun (x : Nat × Nat) => decide (x.1 / 16 != rank) }).issued c 5
    rank 0 0 0 0x3F

/-- The memory in which a queued write is undone: its unit holds again what it held before. -/
def undoWrite (m : List Host.Cell) (w : QueuedWrite) : List Host.Cell :=
  w.old.foldl (fun m x => memSet m x.1 x.2) (m.filter fun (x : Host.Cell) => decide (x.1 / 64 != w.unit))

/-- What a channel does once the freeze record stands (R245): queued requests are discarded, and every rank receives
precharge-all and SRE. -/
def State.freezeChannel (s : State) (c : Channel) : State :=
  let d := s.dch c
  let s := { s with dram := { s.dram with mem := d.writes.reverse.foldl undoWrite s.dram.mem } }
  let s := s.setDch c { d with retry := [], writes := [], reads := [], fills := [] }
  let s := s.ranks.foldl (fun s k => (s.closeRank c k).issued c 9 k 0 0 0 0x3F) s
  s.setFld (DRC_CH_STAT_state c.val) 5

/-- The freeze record (R245, chapter 6 registers). -/
def State.freezeRecord (s : State) (trigger channel word req syndrome addr : Nat) : State :=
  (s.setReg DRC_FREEZE_INFO (BitVec.ofNat 32
    (2 ^ 31 + trigger * 2 ^ 28 + channel * 2 ^ 25 + word * 2 ^ 22 + req * 2 ^ 16 + syndrome * 2 ^ 8))).setPair
    DRC_FREEZE_ADDR_LO DRC_FREEZE_ADDR_HI addr

/-- A freeze trigger (R244, R245): 1 read DED, 2 CA parity, 3 write CRC, 4 room table DED. Of two channels that trigger at one
edge the record names the lower; a later trigger is counted. -/
def State.freeze (s : State) (trigger channel word req syndrome addr : Nat) : State :=
  if s.frozen then
    if s.dram.frozenAt = some s.now && trigger != 4 && s.fld DRC_FREEZE_INFO_trigger != 4 then
      if channel < s.fld DRC_FREEZE_INFO_channel then s.freezeRecord trigger channel word req syndrome addr else s
    else s.incFld DRC_FREEZE_INFO_later 1
  else
    let s := s.raise 56 trigger (trigger * 2 ^ 28 + channel * 2 ^ 25)
    let s := s.freezeRecord trigger channel word req syndrome addr
    let s := { s with dram := { s.dram with
      frozenAt := some s.now, hist := s.dram.chans.map fun (d : DramCh) => d.issued, held := false } }
    (s.populated.foldl State.freezeChannel s).snapRequest 3 0 none

/-- An error of a room table entry that a translation reads (R204, R209): a single-bit error is corrected and counted; a
double-bit error raises EV244 and EV246, is latched in INK_FAULT_INFO, and freezes. The channel, word, syndrome and address
of that freeze record are free: no DRAM word was read. -/
def State.tableError (s : State) (index : Nat) (double : Bool) (sp rq off : Nat) : State :=
  if !double then s.incFld INK_TBL_SEC_count 1
  else
    let s := (s.raiseOpen 244 (alTable + index / 8192)).raiseOpen 246 (index % 2 ^ 17)
    let s :=
      if s.fld INK_FAULT_INFO_valid = 1 then s
      else
        (s.setReg INK_FAULT_INFO (BitVec.ofNat 32 (2 ^ 31 + 3 * 2 ^ 28 + sp * 2 ^ 24 + rq * 2 ^ 16))).setPair
          INK_FAULT_OFS_LO INK_FAULT_OFS_HI off
    let (v, s) := s.take
    s.freeze 4 (v.toNat % 8) (v.toNat / 8 % 8) (rq % 64) (v.toNat / 64 % 256) (v.toNat / 2 ^ 14 % 2 ^ 37)

/-! ### Error correction (R220, R223) -/

/-- n corrected errors on a channel, the last at a 64-byte unit (R220, R223). -/
def State.countSec (s : State) (c : Channel) (n unit : Nat) : State :=
  if n = 0 then s
  else
    let s := s.incFld (DRC_CH_ECC_sec c.val) n
    let d := s.dch c
    let total := d.secCount + n
    let thr := s.fld DRC_ECC_CFG_sec_thresh
    let hit := thr != 0 && !d.secRaised && decide (thr ≤ total)
    let s := s.setDch c { d with secCount := total, secRaised := d.secRaised || hit }
    if hit then s.raiseOpen (48 + c.val) unit else s

/-- The channel of a physical unit, as a channel. -/
def State.unitChannel (s : State) (unit : Nat) : Channel := Fin.ofNat 8 (channelOf s.chanLog (64 * unit))

/-- Is a 64-byte unit fitted? -/
def State.unitFitted (s : State) (unit : Nat) : Bool :=
  decide (unit < s.chanUnits * s.fld DRC_CFG_channels)

/-- A command of the hardware on the bus, with the fields of an address. -/
def State.issuedAt (s : State) (c : Channel) (code addr req : Nat) : State :=
  let f := s.fieldsOf addr
  s.issued c code f.rank f.group f.bank (if code = 1 then f.row else f.column) req

/-- The row of an address opened (R226): a row hit needs nothing, another open row of the bank is closed first. -/
def State.openRow (s : State) (c : Channel) (addr req : Nat) : State :=
  let f := s.fieldsOf addr
  let d := s.dch c
  let act (s : State) : State :=
    (s.setDch c { s.dch c with rows := Sparse.set (s.dch c).rows f.key f.row }).issuedAt c 1 addr req
  match Sparse.get? d.rows f.key with
  | none => act s
  | some r => if r = f.row then s else act (s.issued c 4 f.rank f.group f.bank 0 req)

/-! ### Refresh (R228, R229) -/

/-- tREFI in time-clock edges (R228). -/
def State.trefi (s : State) (c : Channel) : Nat := if s.fld (DRC_CH_STAT_fgr2x c.val) = 1 then 1950 else 3900

/-- An all-bank REF of a rank that fell due at an edge: its banks are closed, and a granularity that waits for the next REF
takes effect (R229). -/
def State.refRank (s : State) (c : Channel) (k : Fin 2) (due : Nat) : State :=
  let s := if (s.dch c).rows.any fun (x : Nat × Nat) => x.1 / 16 == k.val then s.closeRank c k.val else s
  let s := (s.setDch c { s.dch c with lastRef := (s.dch c).lastRef.set k due }).issued c 6 k.val 0 0 0 0x3F
  match (s.dch c).gran with
  | none => s
  | some g =>
    let s := s.setDch c { s.dch c with gran := none }
    (s.setFld (DRC_CH_STAT_fgr2x c.val) (b2n g)).raiseOpen 61 (c.val * 2 ^ 29 + b2n g)

/-- Is a rank's REF due (R228)? -/
def State.refDue (s : State) (c : Channel) (k : Fin 2) : Bool := s.elapsed ((s.dch c).lastRef[k]) (s.trefi c)

/-- The REFs of a rank that have fallen due, each at its own instant: none is postponed (R228). The first one may change the
granularity of the others. The history keeps the last 64. -/
def State.refsOf (s : State) (c : Channel) (k : Fin 2) : State :=
  if !s.refDue c k then s
  else
    let s := s.refRank c k ((s.dch c).lastRef[k] + s.trefi c)
    let last := (s.dch c).lastRef[k]
    let n := (s.now - last) / s.trefi c
    (List.range (min n 64)).foldl (fun s i => s.refRank c k (last + (n - min n 64 + i + 1) * s.trefi c)) s

/-- The REFs of a channel that have fallen due. -/
def State.refsDue (s : State) (c : Channel) : State :=
  if s.chState c != 2 then s
  else
    let s := s.refsOf c 0
    if s.fld DRC_CFG_ranks2 = 1 then s.refsOf c 1 else s

/-! ### Self-refresh exit (R228, R232, R233) -/

/-- SRX: the request that causes it counts as a bounce, and the next REF falls due one tREFI later. -/
def State.exitSelfRefresh (s : State) (c : Channel) : State :=
  let d := s.dch c
  let s := s.setDch c { d with bounces := d.bounces + 1, lastReq := s.now, lastRef := Vector.replicate 2 s.now }
  (s.ranks.foldl (fun s k => s.issued c 10 k 0 0 0 0x3F) s).setFld (DRC_CH_STAT_state c.val) 2

/-- A request arrives at a channel: it ends self-refresh, and what REF is due goes first (R226). -/
def State.arriveAt (s : State) (c : Channel) : State :=
  let s := if s.chState c = 3 then s.exitSelfRefresh c else s
  (s.setDch c { s.dch c with lastReq := s.now }).refsDue c

/-! ### The queue of a channel (R224–R226) -/

/-- The class of a requester's requests (R224): 0 A, 1 B, 2 C, 3 D, 4 below D. Intake writes LEG as class B, STOCK as class
D; scrubbing and ECC write-back come below. -/
def State.reqClass (s : State) (req : Nat) (stock : Bool) : Nat :=
  if req < 32 then 0
  else if req < 48 then if (s.codec (Fin.ofNat 16 (req - 32))).cap.isSome then 2 else 1
  else if req = 48 || req = 53 then 3
  else if req = 51 then if stock then 3 else 1
  else if req < 53 then 2
  else 4

/-- Does class A demand exist: a class A waybill queued or running (R31)? -/
def State.classADemand (s : State) : Bool := !s.porter.qa.isEmpty || !s.engines.isEmpty

/-- Does a class A read still stand for an engine: has its cluster a texture request outstanding? -/
def State.fillStands (s : State) (x : Fin 32 × CacheKey) : Bool :=
  s.engines.any fun (y : Nat × Engine) =>
    decide (y.1 / 16 = x.1.val) && y.2.reqs.any fun r => r.unit == .sample || r.unit == .overlay

/-- The class A reads of a channel, oldest first: the first 16 are accepted, a further one waits at its requester (R225). -/
def State.classAReads (s : State) (c : Channel) : List (Fin 32 × CacheKey) := (s.dch c).fills.filter s.fillStands

/-- Class A reads that a channel accepts at once (R225). -/
def acceptedA : Nat := 16

/-- Entries of the write buffer, the fill at which it drains though reads wait (R226), and of the write-retry store (R242). -/
def writeBuffer : Nat := 64
def drainAt : Nat := 48
def retryStore : Nat := 8

/-- Row hits that may go before an older row miss in a row (R226). -/
def hitsInARow : Nat := 16

/-- Does a unit lie in an open row? -/
def State.rowHit (s : State) (c : Channel) (unit : Nat) : Bool :=
  let f := s.fieldsOf (64 * unit)
  Sparse.get? (s.dch c).rows f.key == some f.row

/-- The read that a channel takes of some waiting ones of a class, in age order: the oldest, or before it, at most 16 times in a
row, a row hit to another bank (R226). The flag says whether it is such a hit. -/
def State.pickRead (s : State) (c : Channel) (l : List DramReq) : Option (DramReq × Bool) :=
  match l with
  | [] => none
  | r :: rest =>
    let other (x : DramReq) : Bool := s.rowHit c x.unit && (s.fieldsOf (64 * x.unit)).key != (s.fieldsOf (64 * r.unit)).key
    if s.rowHit c r.unit || hitsInARow ≤ (s.dch c).streak then some (r, false)
    else
      match rest.find? other with
      | some x => some (x, true)
      | none => some (r, false)

/-- What a channel does in its next command slot once no REF is due (R226). -/
inductive SlotUse where
  | classA
  | write
  | read (r : DramReq) (hit : Bool)
  | idle
  deriving DecidableEq, Repr

def State.nextSlot (s : State) (c : Channel) : SlotUse :=
  let d := s.dch c
  let ofClass (k : Nat) : List DramReq := d.reads.filter fun r => r.cls = k
  if !(s.classAReads c).isEmpty then .classA
  else if !d.writes.isEmpty && (drainAt ≤ d.writes.length || d.reads.isEmpty) then .write
  else
    match s.pickRead c (ofClass 1), s.pickRead c (ofClass 2), s.pickRead c (ofClass 3), s.pickRead c (ofClass 4) with
    | some (r, h), _, _, _ => .read r h
    | none, some (r, h), _, _ => .read r h
    | none, none, some (r, h), _ => .read r h
    | none, none, none, some (r, h) => .read r h
    | none, none, none, none => .idle

/-! ### Bursts (R220, R221, R242) -/

/-- The words of a unit whose stored bits are wrong. -/
def State.badWords (s : State) (unit : Nat) : List WordErr :=
  (s.dram.bad.filter fun x => x.unit = unit).flatMap (·.errs)

/-- Words of a unit found wrong. -/
def State.spoil (s : State) (unit : Nat) (errs : List WordErr) : State :=
  if errs.isEmpty then s else { s with dram := { s.dram with bad := s.dram.bad ++ [{ unit, errs }] } }

/-- A unit written whole: its words and check bits are right again. -/
def State.heal (s : State) (unit : Nat) : State :=
  { s with dram := { s.dram with bad := s.dram.bad.filter fun x => x.unit != unit } }

/-- A write burst on the bus; the store of R242 keeps the last 8. -/
def State.writeBurst (s : State) (c : Channel) (unit req : Nat) : State :=
  let s := (s.openRow c (64 * unit) req).issuedAt c 3 (64 * unit) req
  let d := s.dch c
  let l := d.sent ++ [(unit, req)]
  (s.setDch c { d with sent := l.drop (l.length - retryStore) }).heal unit

/-- Is a write to a unit queued? -/
def State.writeQueued (s : State) (c : Channel) (unit : Nat) : Bool := (s.dch c).writes.any fun w => w.unit = unit

/-- A write to a unit: on the bus at once, or, while a class A read is queued, in the write buffer (R226). -/
def State.putWrite (s : State) (c : Channel) (unit req : Nat) : State :=
  if (s.classAReads c).isEmpty then s.writeBurst c unit req
  else if s.writeQueued c unit then s
  else
    let d := s.dch c
    s.setDch c { d with writes := d.writes ++
      [{ unit, req, old := s.dram.mem.filter fun (x : Host.Cell) => decide (x.1 / 64 = unit) }] }

/-- What the ECC decoder does with the words of one read (R220): single-bit errors are corrected and counted; the first
word with a double-bit error triggers the freeze. -/
def State.eccRead (s : State) (c : Channel) (req unit : Nat) (errs : List WordErr) : State :=
  let s := s.countSec c (errs.filter (!·.double)).length unit
  match errs.find? (·.double) with
  | some e => s.freeze 1 c.val e.word.val (req % 64) e.syndrome.toNat (64 * unit)
  | none => s

/-- Does a read meet a double-bit error? -/
def hasDouble (errs : List WordErr) : Bool := errs.any (·.double)

/-- A read burst (R220): every word is checked. A corrected unit is written back, unless a write to it is queued or, as for a
merge, follows at once. -/
def State.readBurst (s : State) (c : Channel) (unit req : Nat) (follows : Bool) : State :=
  let errs := s.badWords unit
  let s := ((s.openRow c (64 * unit) req).issuedAt c 2 (64 * unit) req).eccRead c req unit errs
  if errs.isEmpty || hasDouble errs || follows || s.writeQueued c unit then s else s.putWrite c unit 0x3F

/-- Bytes put into a unit by a read-modify-write (R221). -/
def State.mergeWrite (s : State) (c : Channel) (r : DramReq) (m : MergeWrite) : State :=
  (s.putWrite c r.unit (r.req % 64)).memWrite (64 * r.unit + m.offset) (m.data.take (64 - m.offset))

/-- A waiting read served; with `merge` its write follows, and no other request to the unit comes between (R221). -/
def State.serveRead (s : State) (c : Channel) (r : DramReq) (hit : Bool) : State :=
  let d := s.dch c
  let s := s.setDch c { d with reads := d.reads.erase r, streak := if hit then d.streak + 1 else 0 }
  let s := s.readBurst c r.unit (r.req % 64) r.merge.isSome
  if s.frozen then s
  else
    match r.merge with
    | some m => s.mergeWrite c r m
    | none => s

/-- The oldest write of the buffer goes on the bus. -/
def State.drainWrite (s : State) (c : Channel) : State :=
  match (s.dch c).writes with
  | [] => s
  | w :: ws => (s.setDch c { s.dch c with writes := ws }).writeBurst c w.unit w.req

/-- A channel's command slots until it has nothing to issue or a class A read, which VIEW_CACHE_FILL completes, is next. -/
def State.runSlots (c : Channel) : Nat → State → State
  | 0, s => s
  | fuel + 1, s =>
    if s.frozen then s
    else
      match s.nextSlot c with
      | .classA => s
      | .idle => s
      | .write => State.runSlots c fuel (s.drainWrite c)
      | .read r hit => State.runSlots c fuel (s.serveRead c r hit)

/-- All slots that a channel can use now. -/
def State.runChannel (s : State) (c : Channel) : State :=
  State.runSlots c (2 * (s.dch c).reads.length + (s.dch c).writes.length + 1) s

/-- Does a channel answer requests: in normal service, or in self-refresh, which a request ends (R232)? -/
def State.serves (s : State) (c : Channel) : Bool := s.chState c = 2 || s.chState c = 3

/-! ### Tokens (R192) -/

/-- Tokens of the bucket of a class, 1 B to 3 D. -/
def State.tokens (s : State) (cls : Nat) : Nat :=
  match cls with
  | 1 => s.porter.tokB
  | 2 => s.porter.tokC
  | _ => s.porter.tokD

def State.setTokens (s : State) (cls n : Nat) : State :=
  { s with porter := match cls with
    | 1 => { s.porter with tokB := n }
    | 2 => { s.porter with tokC := n }
    | _ => { s.porter with tokD := n } }

/-- Must a request of a class pay (R192)? -/
def State.mustPay (s : State) (cls : Nat) : Bool := s.classADemand && decide (1 ≤ cls) && decide (cls ≤ 3)

/-- A request of `need` transactions takes its tokens (R192). Where the bucket is short it takes what there is and waits; what it
has taken it keeps. -/
def State.pay (s : State) (cls req need : Nat) : Bool × State :=
  if !s.mustPay cls then (true, s)
  else
    let had := Sparse.getD s.porter.paid req 0
    let give := min (need - had) (s.tokens cls)
    let s := s.setTokens cls (s.tokens cls - give)
    if had + give < need then
      (false, { s with porter := { s.porter with paid := Sparse.set s.porter.paid req (had + give) } })
    else (true, { s with porter := { s.porter with paid := Sparse.erase s.porter.paid req } })

/-! ### A requester's transactions (R196–R204, R220–R226, R246) -/

/-- An access of a requester: space, offset, bytes, whether it writes; whether what it writes depends on what stands there. -/
structure Xact where
  sp : Nat
  off : Nat
  n : Nat
  write : Bool
  merge : Bool := false
  deriving DecidableEq, Repr

/-- How a requester's accesses end: done; waiting, without loss; refused by the Innkeeper (R197, R203); answered with an error
by a freeze (R246). -/
inductive Dma where
  | done
  | wait
  | refused
  | error
  deriving DecidableEq, Repr

/-- One 64-byte transaction: unit, whether it writes, whether it replaces the unit whole. -/
structure UnitXact where
  unit : Nat
  write : Bool
  whole : Bool
  deriving DecidableEq, Repr

/-- The transactions of n bytes from a physical address on. -/
def unitXacts (a n : Nat) (write merge : Bool) : List UnitXact :=
  if n = 0 then []
  else (List.range ((a + n - 1) / 64 + 1 - a / 64)).map fun i =>
    let u := a / 64 + i
    { unit := u, write, whole := !merge && decide (a ≤ 64 * u) && decide (64 * u + 64 ≤ a + n) }

/-- 64-byte transactions that one costs: a partial write is a read and a write (R221). -/
def UnitXact.cost (x : UnitXact) : Nat := if x.write && !x.whole then 2 else 1

/-- Must a transaction wait at its channel: a read behind queued class A reads, a write behind a full buffer (R226)? -/
def State.xactWaits (s : State) (x : UnitXact) : Bool :=
  let c := s.unitChannel x.unit
  s.serves c && !(s.classAReads c).isEmpty &&
    (!x.write || !x.whole || (!s.writeQueued c x.unit && decide (writeBuffer ≤ (s.dch c).writes.length)))

/-- One transaction on its channel. -/
def State.xactOn (s : State) (req : Nat) (x : UnitXact) : State :=
  let c := s.unitChannel x.unit
  if s.frozen || !s.serves c then s
  else
    let s := s.arriveAt c
    let s := if x.write && x.whole then s else s.readBurst c x.unit (req % 64) x.write
    if s.frozen || !x.write then s else s.putWrite c x.unit (req % 64)

/-- Transactions in order until one must wait or a freeze answers it. -/
def State.xactsOn (req : Nat) : List UnitXact → State → Dma × State
  | [], s => (if s.frozen then .error else .done, s)
  | x :: xs, s =>
    if s.frozen then (.error, s)
    else if s.xactWaits x then (.wait, s)
    else State.xactsOn req xs (s.xactOn req x)

/-- The physical places of some accesses; the first refused one is noted (R197, R203). -/
def State.places (rq : Nat) : List Xact → State → Option (List UnitXact) × State
  | [], s => (some [], s)
  | x :: xs, s =>
    match s.access rq x.sp x.off x.n x.write with
    | (none, s) => (none, s)
    | (some a, s) =>
      match State.places rq xs s with
      | (none, s) => (none, s)
      | (some l, s) => (some (unitXacts a x.n x.write x.merge ++ l), s)

/-- A requester's accesses: rights and translation, tokens, then the channels. A write's bytes are put into memory by the
caller once the answer is `done`. -/
def State.transact (s : State) (rq : Nat) (xs : List Xact) : Dma × State :=
  match State.places rq xs s with
  | (none, s) => (.refused, s)
  | (some l, s) =>
    if s.frozen then (.error, s)
    else if l.any s.xactWaits then (.wait, s)
    else
      match s.pay (s.reqClass rq (xs.any fun x => x.sp = spSTOCK)) rq (l.map UnitXact.cost).sum with
      | (false, s) => (.wait, s)
      | (true, s) => State.xactsOn rq l s

/-- The space whose rooms hold a room table index, and the index within it (R196, R200). -/
def State.spaceOfIndex (s : State) (index : Nat) : Nat × Nat :=
  let holds (sp : Nat) : Bool :=
    decide (s.fld (INK_SPACE_BASE_base sp) ≤ index) && decide (index < s.fld (INK_SPACE_BASE_base sp) + s.spaceRooms sp)
  match (List.range 16).find? holds with
  | some sp => (sp, index - s.fld (INK_SPACE_BASE_base sp))
  | none => (0, index)

/-- What the walk of the room table meets before a DRAM read whose translation the requester's TLB does not hold (R201). -/
def State.readWalk (s : State) (req unit : Nat) (tbl : Option TableHit) : State :=
  match tbl with
  | none => s
  | some h =>
    if s.tlbHit (req % 64) h.index.val then s
    else
      let (sp, room) := s.spaceOfIndex h.index.val
      (s.tableError h.index.val h.double sp (req % 64) (room * roomBytes + 64 * unit % roomBytes)).tlbUse (req % 64)
        h.index.val

/-- The space that a physical unit lies in is STOCK. -/
def State.inStock (s : State) (unit : Nat) : Bool :=
  match s.phys? spSTOCK 0 with
  | some a => decide (a ≤ 64 * unit) && decide (64 * unit < a + s.spaceRooms spSTOCK * roomBytes)
  | none => false

/-- DRAM_READ (R192, R204, R220, R221, R224–R226, R246): a requester reads a 64-byte unit, whose words `errs` are stored
wrong; with `merge` it is the read of a read-modify-write, whose write follows. Without the token that it needs the request
waits, and so it does at its channel behind what goes first. During a freeze the requester has an error response and nothing
is read; so it is when the room table entry of its translation has a double-bit error. -/
def execDramRead (t : Nat) (req : Nat) (unit : Nat) (errs : List WordErr) (merge : Option MergeWrite)
    (tbl : Option TableHit) (s : State) : Host.Outcome State Fault Refusal :=
  .next <|
    let s := (s.advanceTo t).readWalk req unit tbl
    let c := s.unitChannel unit
    if s.frozen || !s.unitFitted unit || !s.serves c then s
    else
      let cls := s.reqClass req (s.inStock unit)
      match (s.spoil unit errs).pay cls req (if merge.isSome then 2 else 1) with
      | (false, s) => s
      | (true, s) =>
        let s := s.arriveAt c
        let d := s.dch c
        (s.setDch c { d with reads := d.reads ++ [{ req, cls := max 1 cls, unit, merge }] }).runChannel c

/-- REFRESH (R228): a rank's all-bank REFs that have fallen due. -/
def execRefresh (t : Nat) (c : Channel) (rank : Bool) (s : State) : Host.Outcome State Fault Refusal :=
  .next <|
    let s := s.advanceTo t
    if s.frozen || s.chState c != 2 || (rank && s.fld DRC_CFG_ranks2 = 0) then s
    else s.refsOf c (if rank then 1 else 0)

/-- Is the last command of a channel a REF? -/
def State.justRefreshed (s : State) (c : Channel) : Bool :=
  (s.dch c).issued.getLast?.any fun x => x.lo.toNat / 2 ^ 28 == 6

/-- DRAM_TEMPERATURE_READ (R229): every 32 ms, right after a REF, the MPR temperature of each rank. A reading is the range of a
rank's hottest device. A new granularity waits for the next REF. -/
def execDramTemperatureRead (t : Nat) (c : Channel) (readings : List (Fin 3)) (s : State) :
    Host.Outcome State Fault Refusal :=
  .next <|
    let s := s.advanceTo t
    if s.frozen || s.chState c != 2 || !s.elapsed (s.dch c).lastTemp (edgesMs 32) ||
        readings.length != s.ranks.length then s
    else
      let s := s.refsDue c
      if !s.justRefreshed c then s
      else
        let top := readings.foldl (fun m r => max m r.val) 0
        let d := s.dch c
        let hot := if top = 2 then d.hot + 1 else 0
        let cool := if top = 2 then 0 else d.cool + 1
        let fast := s.fld (DRC_CH_STAT_fgr2x c.val) = 1
        let gran := if 2 ≤ hot && !fast then some true else if 8 ≤ cool && fast then some false else d.gran
        let s := (s.setDch c { d with hot, cool, lastTemp := s.now, gran }).setFld (DRC_CH_STAT_temp c.val) top
        s.ranks.foldl (fun s k => s.issued c 11 k 0 0 0 0x3F) s

/-- Edges of one scrub period (R222): scrub_h hours, 0 counting as 1. -/
def State.scrubPeriod (s : State) : Nat := 3600 * edgesS 1 * max 1 (s.fld DRC_ECC_CFG_scrub_h)

/-- Has the time of a channel's next scrub read come: units are read at an even rate over the period (R222)? -/
def State.scrubDue (s : State) (c : Channel) : Bool :=
  let d := s.dch c
  decide (d.scrubAt * s.scrubPeriod ≤ (s.now - d.passAt) * s.chanUnits)

/-- SCRUB (R222): a channel reads its next 64-byte unit, behind class D and without a token; EV063 at the end of a pass. -/
def execScrub (t : Nat) (c : Channel) (errs : List WordErr) (s : State) : Host.Outcome State Fault Refusal :=
  .next <|
    let s := s.advanceTo t
    if s.frozen || !s.serves c || !s.scrubDue c then s
    else
      let unit := unitOf s.chanLog c.val (s.dch c).scrubAt
      let next := (s.dch c).scrubAt + 1
      let ends := decide (s.chanUnits ≤ next)
      let s := (s.spoil unit errs).arriveAt c
      let d := s.dch c
      let s := s.setDch c { d with
        scrubAt := if ends then 0 else next
        passAt := if ends then s.now else d.passAt
        reads := d.reads ++ [{ req := 0x3F, cls := 4, unit }] }
      (if ends then s.raiseOpen 63 (c.val * 2 ^ 29) else s).runChannel c

/-- SEC_INTERVAL (R223): at the end of each 1 s interval of 5 × 10⁸ edges the counts restart. -/
def execSecInterval (t : Nat) (s : State) : Host.Outcome State Fault Refusal :=
  .next <|
    let s := s.advanceTo t
    if !s.elapsed s.dram.intervalAt (edgesS 1) then s
    else
      { s with dram := { s.dram with
          intervalAt := s.dram.intervalAt + edgesS 1
          chans := s.dram.chans.map fun d => { d with secCount := 0, secRaised := false } } }

/-! ### Idle self-refresh (R232–R234) -/

/-- Is a span row of any output released within `ns` nanoseconds (R14), or class A work queued or running (R232)? Span row
y is released 2 µs after the tick, or, from y = 48 on, at the end of the transmit of frame line B + y − 41. -/
def State.classAForecast (s : State) (ns : Nat) : Bool :=
  !s.porter.qa.isEmpty || !s.engines.isEmpty ||
    s.activeOutputs.any fun o =>
      let cy := (s.out o).cycle
      let r := s.outRec o
      let p := s.fld (PTR_OUT_PERIOD_period_ns o.val)
      let soon (x : Nat) : Bool := decide (s.timeNs ≤ x) && decide (x ≤ s.timeNs + ns)
      soon (cy.tickAt + 2000) || soon (cy.nextTick + 2000) ||
        (List.range (r.lines / 8)).any fun k =>
          6 ≤ k && soon (cy.tickAt + (r.blank + 8 * k - 40) * p / (r.lines + r.blank))

/-- SELF_REFRESH_ENTRY (R232): an idle channel issues SRE. -/
def execSelfRefreshEntry (t : Nat) (c : Channel) (s : State) : Host.Outcome State Fault Refusal :=
  .next <|
    let s := s.advanceTo t
    let idle := s.fld (DRC_CH_SR_idle_us c.val)
    if s.frozen || s.chState c != 2 || s.fld DRC_SR_CFG_idle_us = 0 || !s.elapsed (s.dch c).lastReq (edgesUs idle) ||
        s.classAForecast (1000 * s.fld DRC_SR_CFG_guard_us) then s
    else
      let s := s.refsDue c
      (s.ranks.foldl (fun s k => (s.closeRank c k).issued c 9 k 0 0 0 0x3F) s).setFld (DRC_CH_STAT_state c.val) 3

/-- SELF_REFRESH_EXIT (R228, R233): a request arrives at a channel in self-refresh. -/
def execSelfRefreshExit (t : Nat) (c : Channel) (s : State) : Host.Outcome State Fault Refusal :=
  .next <|
    let s := s.advanceTo t
    if s.frozen || s.chState c != 3 then s else s.exitSelfRefresh c

/-- One channel at the end of a bounce interval (R234). -/
def State.closeBounces (s : State) (c : Channel) : State :=
  let d := s.dch c
  let fd := DRC_CH_SR_idle_us c.val
  let idle := s.fld fd
  let s := s.setFld (DRC_CH_SR_bounces c.val) (min d.bounces 255)
  let quiet := if d.bounces = 0 then d.quiet + 1 else 0
  if 8 < d.bounces then
    let new := min (2 * idle) (s.fld DRC_SR_CFG_idle_max_us)
    let s := s.setDch c { d with bounces := 0, quiet := 0 }
    if idle < new then (s.setFld fd new).raiseOpen 58 (c.val * 2 ^ 29 + new) else s
  else if quiet = 16 then
    let new := max (idle / 2) (s.fld DRC_SR_CFG_idle_us)
    (s.setDch c { d with bounces := 0, quiet := 0 }).setFld fd new
  else s.setDch c { d with bounces := 0, quiet }

/-- BOUNCE_INTERVAL (R234): the interval ends at a tick of the lowest-numbered active output, or after 10 ms when no output
is active. -/
def execBounceInterval (t : Nat) (s : State) : Host.Outcome State Fault Refusal :=
  .next <|
    let s := s.advanceTo t
    let due :=
      match s.lowestActive with
      | some o => decide (s.dram.bounceAt < (s.out o).cycle.tickEdge)
      | none => s.elapsed s.dram.bounceAt (edgesMs 10)
    if s.frozen || !due then s
    else
      let s := { s with dram := { s.dram with bounceAt := s.now } }
      s.populated.foldl State.closeBounces s

/-! ### Alert retries (R240–R243) -/

/-- Is an ALERT_n pulse of so many device clocks a write CRC error (R240)? Any other width is a CA parity error. -/
def alertIsCrc (width : Nat) : Bool := 6 ≤ width && width ≤ 10

/-- A command as its history entry's low word shows it. -/
def cmdLo (x : DramCmd) : Nat :=
  x.code.toNat * 2 ^ 28 + b2n x.rank * 2 ^ 27 + x.bg.toNat * 2 ^ 25 + x.bank.toNat * 2 ^ 23 + x.addr.toNat * 2 ^ 6 + x.req.toNat

/-- Does a history entry show a command? -/
def shows (x : DramCmd) (e : HistEntry) : Bool := e.lo.toNat == cmdLo x

/-- The failing command stands in the channel's history (R245). -/
def State.noteCommand (s : State) (c : Channel) (x : DramCmd) : State :=
  if (s.dch c).issued.any (shows x) then s
  else s.issued c x.code.toNat (b2n x.rank) x.bg.toNat x.bank.toNat x.addr.toNat x.req.toNat

/-- The rows of a rank that were open are opened again, and every command to the rank from the failing one on is issued again, in
order (R241). -/
def State.reissue (s : State) (c : Channel) (x : DramCmd) : State :=
  let d := s.dch c
  let again := (d.issued.drop ((d.issued.findIdx? (shows x)).getD d.issued.length)).filter fun e =>
    (e.lo.toNat / 2 ^ 27 % 2 == 1) == x.rank
  let open_ := d.rows.filter fun (y : Nat × Nat) => y.1 / 16 == b2n x.rank
  let s := open_.foldl (fun (s : State) y => s.issued c 1 (y.1 / 16) (y.1 / 4 % 4) (y.1 % 4) y.2 0x3F) s
  again.foldl (fun (s : State) e =>
    let w := e.lo.toNat
    s.issued c (w / 2 ^ 28) (bits w 27 27) (bits w 26 25) (bits w 24 23) (bits w 22 6) (bits w 5 0)) s

/-- The write bursts of the write-retry store are sent again, oldest first (R242). -/
def State.resend (s : State) (c : Channel) : State :=
  (s.dch c).sent.foldl (fun (s : State) w => (s.openRow c (64 * w.1) w.2).issuedAt c 3 (64 * w.1) w.2) s

/-- ALERT_N_PULSE (R236, R240–R245): a pulse has ended. A first one starts a retry; one of the same cause during it triggers the
freeze. -/
def execAlertNPulse (t : Nat) (c : Channel) (width : Nat) (cmd : DramCmd) (s : State) :
    Host.Outcome State Fault Refusal :=
  .next <|
    let s := s.advanceTo t
    let crc := alertIsCrc width
    let again := (s.dch c).retry.any fun r => r.ca != crc
    let unit := cmd.phys / 64 * 64
    let code := cmd.code.toNat
    let d := s.dch c
    let s := s.setDch c { d with helpers := { d.helpers with alerts := d.helpers.alerts + 1 } }
    if s.frozen then s.incFld DRC_FREEZE_INFO_later 1
    else if !(s.chState c = 2) then s
    else
      let s := s.noteCommand c cmd
      if again then
        if crc then s.freeze 3 c.val 0 cmd.req.toNat 0 unit
        else if code = 2 || code = 3 then s.freeze 2 c.val 0 cmd.req.toNat 0 unit
        else s.freeze 2 c.val 0 0x3F 0 0
      else
        let d := s.dch c
        let s := s.setDch c { d with retry := d.retry ++ [{ ca := !crc, cmd }] }
        if crc then
          ((s.resend c).incFld (DRC_CH_RETRY_crc c.val) 1).raiseOpen 60 (c.val * 2 ^ 29 + cmd.addr.toNat % 2 ^ 10)
        else
          ((s.reissue c cmd).incFld (DRC_CH_RETRY_ca c.val) 1).raiseOpen 59
            (c.val * 2 ^ 29 + b2n cmd.rank * 2 ^ 28 + code)

/-- RETRY_COMPLETE (R243): a retry on a channel has ended. DESIGN CHOICE (log 78): where the retries of both causes are in
progress, which of them has ended is a free value, since its latency is the DDR4 standard's; the other goes on. -/
def execRetryComplete (t : Nat) (c : Channel) (s : State) : Host.Outcome State Fault Refusal :=
  .next <|
    let s := s.advanceTo t
    match (s.dch c).retry with
    | r :: r' :: rs =>
      let (x, s) := s.take
      s.setDch c { s.dch c with retry := (if x.getLsbD 0 then r else r') :: rs }
    | _ => s.setDch c { s.dch c with retry := [] }

/-! ### Training helpers (R236) -/

/-- One step of a lane's LFSR: the bit that it puts out and its next value. -/
def lfsrStep (x : BitVec 31) : Bool × BitVec 31 := (x.getLsbD 30, (x.shiftLeft 1) ||| (if Config.lfsrFeedback x then 1 else 0))

/-- Eight steps of a lane's LFSR: the byte that it puts out, first bit lowest. -/
def lfsrByte (x : BitVec 31) : Byte × BitVec 31 :=
  (List.range 8).foldl (fun (acc : Byte × BitVec 31) i =>
    let (b, y) := lfsrStep acc.2
    (acc.1 ||| (if b then BitVec.ofNat 8 (2 ^ i) else 0), y)) (0, x)

/-- The k-th beat of a pattern over the nine byte lanes, data lanes first; the LFSR lanes move on. The MPR pattern alternates
zeros and ones from beat to beat. -/
def Helpers.beat (h : Helpers) (k : Nat) : List Byte × Helpers :=
  match h.pattern with
  | .lfsr lanes =>
    let l := lanes.map lfsrByte
    (l.map (·.1), { h with pattern := .lfsr (l.map (·.2)) })
  | .walkingOnes => ((List.range 9).map fun i => if k % 72 / 8 = i then BitVec.ofNat 8 (2 ^ (k % 8)) else 0, h)
  | .walkingZeros => ((List.range 9).map fun i => if k % 72 / 8 = i then BitVec.ofNat 8 (255 - 2 ^ (k % 8)) else 255, h)
  | .mpr => (List.replicate 9 (if k % 2 = 0 then 0 else 255), h)
  | .stored n => (((h.stored.getD n.val []).drop (8 * (k % 8))).take 8, h)

/-- The compare engine: an error more for every data bit that differs, saturating. -/
def Helpers.compare (h : Helpers) (sent got : List Byte) : Helpers :=
  { h with errors := h.errors.zipIdx.map fun (n, i) =>
      if (sent.getD (i / 8) 0).getLsbD (i % 8) != (got.getD (i / 8) 0).getLsbD (i % 8) && n != BitVec.allOnes 16 then n + 1
      else n }

/-! ### Bank-sweep refresh (R230, R231) -/

/-- Is the channel's last temperature reading above 85 °C? -/
def State.dramHot (s : State) (c : Channel) : Bool := s.fld (DRC_CH_STAT_temp c.val) = 2

/-- The limits of R231 in edges: every unlocked row swept within, longest bank lock, longest gap for any row. -/
def sweepWithin (hot : Bool) : Nat := edgesMs (if hot then 16 else 32)
def lockLimit (hot : Bool) : Nat := edgesMs (if hot then 8 else 16)
def gapLimit (hot : Bool) : Nat := sweepWithin hot + lockLimit hot

/-- Bank sweep begins on a channel. -/
def State.startSweep (s : State) (c : Channel) : State :=
  if (s.dch c).sweep.isSome then s
  else (s.setDch c { s.dch c with sweep := some { since := s.now } }).setFld (DRC_CH_STAT_sweep c.val) 1

/-- Bank sweep ends on a channel. -/
def State.endSweep (s : State) (c : Channel) : State :=
  (s.setDch c { s.dch c with sweep := none }).setFld (DRC_CH_STAT_sweep c.val) 0

/-- A sequence locks a bank. -/
def Sweep.lock (x : Sweep) (bank now : Nat) : Sweep := { x with locked := some (bank, now) }

/-- The sequence releases the bank, or has lost the lock at its limit: the bank is swept at once, before the sequence goes on. -/
def Sweep.release (x : Sweep) (limit now : Nat) : Sweep :=
  match x.locked with
  | none => x
  | some (bank, at_) => { x with locked := none, late := Sparse.set x.late bank (min now (at_ + limit)) }

/-- The edge at which the rows of a bank were last swept: at the end of the last whole sweep, for a locked bank of the last one
before the lock, or when the bank was swept out of turn. -/
def Sweep.sweptAt (x : Sweep) (within bank now : Nat) : Nat :=
  let upTo := match x.locked with
    | some (b, at_) => if b = bank then at_ else now
    | none => now
  max (x.since + (upTo - x.since) / within * within) (Sparse.getD x.late bank x.since)

/-! ### Thaw (R249) -/

/-- start of DRC_THAW_CTRL, with the key: thaw is entered while frozen. -/
def State.thawEnter (s : State) : State :=
  if !s.frozen || s.dram.thawing then s
  else
    let s := { s with dram := { s.dram with thawing := true } }
    let s := s.populated.foldl (fun (s : State) c => s.setFld (DRC_CH_STAT_state c.val) 6) s
    s.raiseOpen 62 0

/-- go of DRC_THAW_CTRL: a read of the unit at DRC_THAW_ADDR is under way. The channel leaves self-refresh and stays in
bank-sweep refresh. -/
def State.thawGo (s : State) : State :=
  if !s.dram.thawing then s
  else
    let a := (s.fld DRC_THAW_ADDR_HI_addr_hi * 2 ^ 32 + (s.reg DRC_THAW_ADDR_LO).toNat) / 64
    let c := s.unitChannel a
    -- the channel leaves self-refresh on its first thaw read; the read locks its bank (R230)
    let s := if (s.dch c).sweep.isSome then s else (s.ranks.foldl (fun s k => s.issued c 10 k 0 0 0 0x3F) s).startSweep c
    let s := s.setDch c { s.dch c with sweep := (s.dch c).sweep.map (·.lock (s.fieldsOf (64 * a)).key s.now) }
    let s := (s.openRow c (64 * a) 0x3F).issuedAt c 2 (64 * a) 0x3F
    ({ s with dram := { s.dram with thaw := some a } }).setFld DRC_THAW_CTRL_done 0

/-- A 64-bit word of DRAM. -/
def State.memWord64 (s : State) (a : Nat) : BitVec 64 := BitVec.ofNat 64 (leNat (s.memBytes a 8))

/-- THAW_READ_COMPLETE (R249): the raw unit, its check bytes and the syndromes. `flips` are words whose stored bits are wrong,
with their syndromes, beside those known already; which bits are wrong is not known, so such a word and its check byte are
free values. The bank that the read has locked is swept. -/
def execThawReadComplete (t : Nat) (flips : List WordErr) (s : State) : Host.Outcome State Fault Refusal :=
  .next <|
    let s := s.advanceTo t
    match s.dram.thaw with
    | none => s
    | some unit =>
      let c := s.unitChannel unit
      let s := s.setDch c { s.dch c with sweep := (s.dch c).sweep.map (·.release (lockLimit (s.dramHot c)) s.now) }
      let flips := flips ++ s.badWords unit
      let s := (List.range 8).foldl (fun (s : State) i =>
        let clean := s.memWord64 (64 * unit + 8 * i)
        let bad := flips.find? (·.word.val = i)
        let (v, s) := s.take
        let (c, s) := s.take
        let word := if bad.isSome then v else clean
        let check : Byte := if bad.isSome then c.setWidth 8 else Config.eccCheck clean
        let syn := (bad.map (·.syndrome.toNat)).getD 0
        let s := s.setPair (DRC_THAW_DATA (2 * i)) (DRC_THAW_DATA (2 * i + 1)) word.toNat
        let s := s.setFld ⟨DRC_THAW_ECC (i / 4), 8 * (i % 4) + 7, 8 * (i % 4)⟩ check.toNat
        s.setFld ⟨DRC_THAW_SYND (i / 4), 8 * (i % 4) + 7, 8 * (i % 4)⟩ syn) s
      ({ s with dram := { s.dram with thaw := none } }).setFld DRC_THAW_CTRL_done 1

end Sys2Proof.Machine
end

