-- ==== Sys2Proof/Machine/Darja.lean ====
section
/-!
DEFINITION. The Darja stream format (R131–R157): headers, code tables, tokens, copies, and decoding a leg as far as its
bytes and its limits allow.
-/
namespace Sys2Proof.Machine

/-! ### Headers (R131, R132, R133) -/

/-- The leg header in 64 bytes. -/
def parseLegHeader (b : Bytes) : LegHeader :=
  { magic := leAt b 0x00 2
    version := leAt b 0x02 1
    flags := leAt b 0x03 1
    legId := BitVec.ofNat 32 (leAt b 0x04 4)
    chain := leAt b 0x08 2 % 4096
    chainHi := leAt b 0x08 2 / 4096
    output := leAt b 0x0A 1
    format := leAt b 0x0B 1
    gen := BitVec.ofNat 32 (leAt b 0x0C 4)
    startGen := BitVec.ofNat 32 (leAt b 0x10 4)
    serial := BitVec.ofNat 32 (leAt b 0x14 4)
    refSerial := BitVec.ofNat 32 (leAt b 0x18 4)
    viewFirst := leAt b 0x1C 2
    viewLast := leAt b 0x1E 2
    rowFirst := leAt b 0x20 2
    rowCount := leAt b 0x22 2
    decoded := leAt b 0x24 4
    compressed := leAt b 0x28 4
    blocks := leAt b 0x2C 4
    width := leAt b 0x30 2
    reservedZero := zeroAt b 0x32 14 }

/-- A header as bytes (R131). -/
def legHeaderBytes (h : LegHeader) : Bytes :=
  toLe 2 h.magic ++ toLe 1 h.version ++ toLe 1 h.flags ++ toLe 4 h.legId.toNat ++ toLe 2 (h.chain + 4096 * h.chainHi) ++
    toLe 1 h.output ++ toLe 1 h.format ++ toLe 4 h.gen.toNat ++ toLe 4 h.startGen.toNat ++ toLe 4 h.serial.toNat ++
    toLe 4 h.refSerial.toNat ++ toLe 2 h.viewFirst ++ toLe 2 h.viewLast ++ toLe 2 h.rowFirst ++ toLe 2 h.rowCount ++
    toLe 4 h.decoded ++ toLe 4 h.compressed ++ toLe 4 h.blocks ++ toLe 2 h.width ++ zeros 14

def legFresh (h : LegHeader) : Bool := bit h.flags 0
def legCapture (h : LegHeader) : Bool := bit h.flags 1

/-- Bytes per pixel by format: RGB888, RGB101010, DEPTH16. -/
def bppOf (format : Nat) : Nat := match format with | 0 => 3 | 1 => 4 | _ => 2

/-- Bits per component (R142). -/
def compBits (format : Nat) : Nat := match format with | 0 => 8 | 1 => 10 | _ => 16

/-- Components per pixel. -/
def compCount (format : Nat) : Nat := if format = 2 then 1 else 3

/-- R132: the conditions of BAD_HEADER on a leg received on VC1. -/
def headerBad (h : LegHeader) : Bool :=
  h.magic != 0xDA4A || h.version != 1 || h.flags / 4 != 0 || h.chainHi != 0 || !h.reservedZero || decide (2 < h.format) ||
    legCapture h || h.blocks == 0 || (legFresh h && h.startGen != 0)

/-- R133: the conditions whose failure is BAD_TARGET. -/
def targetOk (r : RaymodeRec) (h : LegHeader) : Bool :=
  let bpp := bppOf h.format
  decide (h.viewFirst ≤ h.viewLast) && decide (h.viewLast < r.nu * r.nv) &&
    h.rowFirst % 8 == 0 && h.rowCount % 8 == 0 && decide (8 ≤ h.rowCount) && decide (h.rowFirst + h.rowCount ≤ r.vh) &&
    h.width == r.vw && (h.format == r.format || (h.format == 2 && r.depth)) &&
    decide (h.rowCount * h.width * bpp ≤ 1048576) &&
    h.decoded == (h.viewLast + 1 - h.viewFirst) * h.rowCount * h.width * bpp && decide (h.decoded ≤ 67108864)

/-! ### Code tables (R152–R158) -/

/-- Zero counts (R154). -/
def zeroHists : Hists :=
  { cmd := List.replicate 9 0, len := List.replicate 36 0, ofs := List.replicate 36 0, lit := List.replicate 256 0 }

/-- The default code lengths (R158). -/
def defaultLens : Hists :=
  let lo := List.replicate 8 4 ++ List.replicate 8 5 ++ List.replicate 12 6 ++ List.replicate 8 7
  { cmd := [2, 3, 3, 3, 4, 3, 4, 4, 4]
    len := lo
    ofs := lo
    lit := [2] ++ List.replicate 2 3 ++ List.replicate 4 4 ++ List.replicate 8 6 ++ List.replicate 16 8 ++
      List.replicate 32 10 ++ List.replicate 63 12 ++ List.replicate 130 13 }

/-- The halving of R155 until the sum is at most 32,768. -/
def halveCounts : Nat → List Nat → List Nat
  | 0, f => f
  | fuel + 1, f => if 32768 < f.sum then halveCounts fuel (f.map fun x => (x + 1) / 2) else f

/-- The smallest L ≥ 1 with f × 2^L ≥ T. -/
def codeLen (f total : Nat) : Nat := ((List.range 15).find? fun i => total ≤ f * 2 ^ (i + 1)).map (· + 1) |>.getD 15

/-- Symbols in order of decreasing f, equal f in increasing symbol. -/
def insertByFreq (f : Nat → Nat) (s : Nat) : List Nat → List Nat
  | [] => [s]
  | x :: xs => if f x < f s then s :: x :: xs else x :: insertByFreq f s xs

def freqOrder (f : List Nat) : List Nat :=
  (List.range f.length).foldl (fun acc s => insertByFreq (fun i => f.getD i 0) s acc) []

/-- Shortening of one length while the Kraft sum allows it (R155). -/
def shorten : Nat → Nat → Nat → Nat × Nat
  | 0, k, l => (k, l)
  | fuel + 1, k, l => if 1 < l && k + 2 ^ (15 - l) ≤ 32768 then shorten fuel (k + 2 ^ (15 - l)) (l - 1) else (k, l)

/-- Code lengths from counts (R155). -/
def codeLens (count : List Nat) : List Nat :=
  let f := halveCounts 40 (count.map (· + 1))
  let total := f.sum
  let l0 := f.map fun x => codeLen x total
  let k0 := (l0.map fun l => 2 ^ (15 - l)).sum
  ((freqOrder f).foldl (fun (k, ls) s =>
    let (k', l) := shorten 15 k (ls.getD s 1)
    (k', ls.set s l)) (k0, l0)).2

/-- The four tables of a block from the counts of the block before it. -/
def lensOf (h : Hists) : Hists :=
  { cmd := codeLens h.cmd, len := codeLens h.len, ofs := codeLens h.ofs, lit := codeLens h.lit }

/-- The code words by R156: for each symbol its length and code. -/
def codeWords (lens : List Nat) : List (Nat × Nat) :=
  let start := List.replicate lens.length (0, 0)
  ((List.range 15).foldl (fun (st : Nat × List (Nat × Nat)) i =>
    let l := i + 1
    let st := (List.range lens.length).foldl (fun (st : Nat × List (Nat × Nat)) s =>
      if lens.getD s 0 = l then (st.1 + 1, st.2.set s (l, st.1)) else st) st
    (st.1 * 2, st.2)) (0, start)).2

/-! ### Reading bits (R136, R137, R157) -/

/-- Outcome codes of decoding (R176). -/
def ocSizeMismatch : Nat := 0x18
def ocBadCode : Nat := 0x20
def ocBadLength : Nat := 0x21
def ocBadSource : Nat := 0x22
def ocBadStock : Nat := 0x23
def ocTruncated : Nat := 0x24
def ocExpansion : Nat := 0x25
def ocMap : Nat := 0x26
def ocRefSerial : Nat := 0x16

/-- A result of reading: a value, an outcome that fails the leg, or bytes that have not arrived. -/
inductive Got (α : Type) where
  | ok (a : α)
  | fail (code : Nat)
  | stall
  deriving Repr

def Got.bind {α β : Type} : Got α → (α → Got β) → Got β
  | .ok a, f => f a
  | .fail c, _ => .fail c
  | .stall, _ => .stall

/-- The bytes that decoding reads: those of the blocks that have arrived, and whether more may come. -/
structure Body where
  bytes : Array Byte
  complete : Bool
  deriving Repr

/-- The bit at a position, most significant bit of each byte first; `stop` is the block's end in bits. Where the
item's last fragment has come and its bytes end before the block does, R138 names no error: the unit waits for input
(DESIGN CHOICE, log entry 202; a block header met short of bytes is SIZE_MISMATCH, see `nextBlock`). -/
def readBit (b : Body) (stop pos : Nat) : Got Bool :=
  if stop ≤ pos then .fail ocTruncated
  else if b.bytes.size ≤ pos / 8 then .stall
  else .ok ((b.bytes.getD (pos / 8) 0).getLsbD (7 - pos % 8))

/-- n raw bits, most significant first: the value and the next position. -/
def readRaw (b : Body) (stop : Nat) : Nat → Nat → Nat → Got (Nat × Nat)
  | 0, pos, acc => .ok (acc, pos)
  | n + 1, pos, acc => (readBit b stop pos).bind fun x => readRaw b stop n (pos + 1) (2 * acc + b2n x)

/-- A code word, bit by bit (R157): `fuel` bounds its length, `acc` the bits read so far. -/
def readCode (b : Body) (stop : Nat) (codes : List (Nat × Nat)) : Nat → Nat → Nat → Nat → Got (Nat × Nat)
  | 0, _, _, _ => .fail ocBadCode
  | fuel + 1, pos, n, acc =>
    (readBit b stop pos).bind fun x =>
      let acc := 2 * acc + b2n x
      let n := n + 1
      match codes.findIdx? (· == (n, acc)) with
      | some s => .ok (s, pos + 1)
      | none =>
        if codes.any fun (l, c) => decide (n < l) && c / 2 ^ (l - n) == acc then readCode b stop codes fuel (pos + 1) n acc
        else .fail ocBadCode

/-- The number m of a LEN or OFS symbol s ≥ 8 without its extra bits (R140), and how many extra bits it has. -/
def classBase (s : Nat) : Nat × Nat :=
  let k := (s - 8) / 2
  let e := k + 1
  (4 * 2 ^ k + 5 + ((s - 8) % 2) * 2 ^ e, e)

/-- The tables of a block as code words. -/
structure Codes where
  cmd : List (Nat × Nat)
  len : List (Nat × Nat)
  ofs : List (Nat × Nat)
  lit : List (Nat × Nat)

def codesOf (h : Hists) : Codes :=
  { cmd := codeWords h.cmd, len := codeWords h.len, ofs := codeWords h.ofs, lit := codeWords h.lit }

def bump (l : List Nat) (s : Nat) : List Nat := l.set s (l.getD s 0 + 1)

/-- A LEN number: value, position, counts. -/
def readLen (b : Body) (stop : Nat) (c : Codes) (pos : Nat) (h : Hists) : Got (Nat × Nat × Hists) :=
  (readCode b stop c.len 15 pos 0 0).bind fun (s, pos) =>
    let h := { h with len := bump h.len s }
    if s < 8 then .ok (s + 1, pos, h)
    else
      let (base, e) := classBase s
      (readRaw b stop e pos 0).bind fun (x, pos) => .ok (base + x, pos, h)

/-- An OFS number z (R140). -/
def readOfs (b : Body) (stop : Nat) (c : Codes) (pos : Nat) (h : Hists) : Got (Nat × Nat × Hists) :=
  (readCode b stop c.ofs 15 pos 0 0).bind fun (s, pos) =>
    let h := { h with ofs := bump h.ofs s }
    if s < 8 then .ok (s, pos, h)
    else
      let (base, e) := classBase s
      (readRaw b stop e pos 0).bind fun (x, pos) => .ok (base + x - 1, pos, h)

/-- A zigzag number (R141). -/
def zigzag (z : Nat) : Int := if z % 2 = 0 then (z / 2 : Nat) else -((((z + 1) / 2 : Nat) : Int))

/-! ### Pixels -/

/-- Where a leg reads and writes: its requester, header, view-store geometry, output, the offsets in its VIEW space of the half
under decode and of the half on display, mapped stock rooms, and where its blocks stand: space, offset of the first one, bytes
after which the space wraps. A leg that is not `live` only turns bits into pixels: it has no part in DRAM. -/
structure LegCtx where
  rq : Nat
  hdr : LegHeader
  rm : RaymodeRec
  sp : Nat
  decode : Nat
  display : Nat
  stockCount : Nat
  blocksSp : Nat
  blocksAt : Nat
  wrap : Nat
  live : Bool

/-- The offset in its half of the pixel of linear position q of a view (R55, R56, R134). -/
def pixelOffset (c : LegCtx) (view q : Nat) : Nat :=
  let x := q % c.hdr.width
  let y := q / c.hdr.width
  if c.hdr.format = 2 then depthOffset c.rm view x y else texelOffset c.rm view x y

/-- A pixel's components from its bytes. -/
def pixelOf (format : Nat) (b : Bytes) : List Nat :=
  match format with
  | 0 => [leAt b 0 1, leAt b 1 1, leAt b 2 1]
  | 1 => [bits (leNat b) 9 0, bits (leNat b) 19 10, bits (leNat b) 29 20]
  | _ => [leNat b]

/-- A pixel's bytes. -/
def bytesOfPixel (format : Nat) (p : List Nat) : Bytes :=
  match format with
  | 0 => [BitVec.ofNat 8 (p.getD 0 0), BitVec.ofNat 8 (p.getD 1 0), BitVec.ofNat 8 (p.getD 2 0)]
  | 1 => toLe 4 (p.getD 0 0 + p.getD 1 0 * 2 ^ 10 + p.getD 2 0 * 2 ^ 20)
  | _ => toLe 2 (p.getD 0 0)

/-- Pixels of the leg's band in one view. -/
def bandPixels (c : LegCtx) : Nat := c.hdr.rowCount * c.hdr.width

/-- View, linear position and band position of the leg's k-th pixel (R134). -/
def pixelPlace (c : LegCtx) (k : Nat) : Nat × Nat :=
  (c.hdr.viewFirst + k / bandPixels c, c.hdr.rowFirst * c.hdr.width + k % bandPixels c)

/-! ### The band window (R168) -/

/-- Views that the band window holds: the current one and those decoded just before it. -/
def windowViews (c : LegCtx) : Nat := min 11 (1048576 / (bandPixels c * bppOf c.hdr.format))

/-- The pixel that was put out n pixels before the latest one, from the window. -/
def DecState.back (d : DecState) (n : Nat) : List Nat := d.window.getD n []

/-- The window with a pixel put out; the band of the oldest view goes as a new view begins. -/
def DecState.pushed (c : LegCtx) (d : DecState) (p : List Nat) : List (List Nat) :=
  p :: (if d.produced % bandPixels c = 0 then d.window.take ((windowViews c - 1) * bandPixels c) else d.window)

/-! ### What decoding does in DRAM (R168, R172, R192, R203) -/

/-- How a run of the decoder ends: all pixels out, a fault, or a stall: for compressed bytes, for write-back, for a source read
from DRAM. -/
inductive Ran where
  | finished
  | failed (code : Nat)
  | input
  | write
  | source
  deriving DecidableEq, Repr

/-- A pixel read from DRAM as class B through the Innkeeper, or why there is none; consecutive reads in one 64-byte unit are one
transaction. -/
def readPixel (c : LegCtx) (sp off : Nat) (d : DecState) (s : State) : Option Ran × List Nat × DecState × State :=
  let n := bppOf c.hdr.format
  let data (s : State) : List Nat := pixelOf c.hdr.format (s.spaceBytes sp off n)
  let unit := (s.phys? sp off).map (· / 64)
  let last := (s.phys? sp (off + n - 1)).map (· / 64)
  if !c.live then (some (.failed ocMap), [], d, s)
  else if unit.isSome && unit == d.source && last == d.source then (none, data s, d, s)
  else
    match s.transact c.rq [{ sp, off, n, write := false }] with
    | (.done, s) => (none, data s, { d with source := last }, s)
    | (.refused, s) => (some (.failed ocMap), [], d, s)
    | (_, s) => (some .source, [], d, s)

/-- The source pixel of the next pixel for a copy of kind e (R143–R147, R168); `i` counts the copy's pixels. -/
def sourcePixel (c : LegCtx) (e : Recent) (i : Nat) (d : DecState) (s : State) :
    Option Ran × List Nat × DecState × State :=
  let h := c.hdr
  let k := d.produced
  let (v, p) := pixelPlace c k
  let lo : Int := h.rowFirst * h.width
  let hi : Int := (h.rowFirst + h.rowCount) * h.width
  let bad := (some (Ran.failed ocBadSource), ([] : List Nat), d, s)
  match e.kind with
  | 1 =>
    let q : Int := (p : Int) - e.dy * h.width + e.dx
    if lo ≤ q && q < p then (none, d.back (p - q.toNat - 1), d, s) else bad
  | 2 =>
    let u : Int := (v % c.rm.nu : Nat) + e.du
    let w : Int := (v / c.rm.nu : Nat) + e.dv
    let v' := w * c.rm.nu + u
    let q : Int := (p : Int) + e.dy * h.width + e.dx
    if (e.du != 0 || e.dv != 0) && 0 ≤ u && u < c.rm.nu && 0 ≤ w && w < c.rm.nv && (h.viewFirst : Int) ≤ v' && v' < v &&
        lo ≤ q && q < hi then
      if v < v'.toNat + windowViews c then
        (none, d.back (k - ((v'.toNat - h.viewFirst) * bandPixels c + (q - lo).toNat) - 1), d, s)
      else readPixel c c.sp (c.decode + pixelOffset c v'.toNat q.toNat) d s
    else bad
  | 3 =>
    let q : Int := (p : Int) + e.dy * h.width + e.dx
    if 0 ≤ q && q < (c.rm.vw * c.rm.vh : Nat) then readPixel c c.sp (c.display + pixelOffset c v q.toNat) d s else bad
  | _ => readPixel c spSTOCK (e.dx.toNat * roomBytes + e.dy.toNat + i * bppOf h.format) d s

/-- The bytes of the tile whose last pixel is the latest of a window (R55). -/
def tileBytes (c : LegCtx) (window : List (List Nat)) : Bytes :=
  (List.range 8).flatMap fun j => (List.range 8).flatMap fun i =>
    bytesOfPixel c.hdr.format (window.getD ((7 - j) * c.hdr.width + (7 - i)) [])

/-- The next pixel put out into the window, or why it is not; a tile that it completes is written back toward DRAM (R134, R168,
R172). -/
def putPixel (c : LegCtx) (p : List Nat) (d : DecState) (s : State) : Option Ran × DecState × State :=
  let (v, q) := pixelPlace c d.produced
  let x := q % c.hdr.width
  let y := q / c.hdr.width
  let window := d.pushed c p
  let d' := { d with window, produced := d.produced + 1, left := d.left - 1 }
  if !c.live || x % 8 != 7 || y % 8 != 7 then (none, d', s)
  else
    let tile := tileBytes c window
    let off := c.decode + pixelOffset c v (q - 7 * c.hdr.width - 7)
    match s.transact c.rq [{ sp := c.sp, off, n := tile.length, write := true }] with
    | (.done, s) => (none, d', s.spaceWrite c.sp off tile)
    | (.refused, s) => (some (.failed ocMap), d, s)
    | (_, s) => (some .write, d, s)

/-- Bytes past the decoder's position that a unit fetches ahead: more than a token's fields or a pixel need. -/
def fetchAhead : Nat := 16

/-- The compressed bytes around bit `pos` read from their rooms, 64 at a time (R192, R203). -/
def fetchTo (c : LegCtx) (b : Body) (pos : Nat) : Nat → DecState → State → Option Ran × DecState × State
  | 0, d, s => (none, d, s)
  | fuel + 1, d, s =>
    if !c.live || min (pos / 8 + fetchAhead) b.bytes.size ≤ d.fetched then (none, d, s)
    else
      let off := c.blocksAt + d.fetched
      let off := if c.wrap = 0 then off else off % c.wrap
      let n := min 64 (b.bytes.size - d.fetched)
      match s.transact c.rq [{ sp := c.blocksSp, off, n, write := false }] with
      | (.done, s) => fetchTo c b pos fuel { d with fetched := d.fetched + 64 } s
      | (.refused, s) => (some (.failed ocMap), d, s)
      | (_, s) => (some .input, d, s)

/-- The expansion guard (R174): after `pos` bits of the compressed bytes, at most 4,096 c + 65,536 decoded bytes. R174
does not say whether a byte of which only some bits have been read counts in c: it counts whole (DESIGN CHOICE, log
entry 202). -/
def expands (c : LegCtx) (pixels pos : Nat) : Bool :=
  decide (4096 * ceilDiv pos 8 + 65536 < pixels * bppOf c.hdr.format)

/-- The prediction of the next pixel (R142). -/
def predict (c : LegCtx) (d : DecState) : List Nat :=
  let (_, p) := pixelPlace c d.produced
  let w := c.hdr.width
  if p % w != 0 then d.back 0
  else if c.hdr.rowFirst < p / w then d.back (w - 1)
  else [0, 0, 0]

/-- One literal component (R142): the value of the residue's zigzag. -/
def readComp (b : Body) (stop : Nat) (cs : Codes) (w pos : Nat) (h : Hists) : Got (Nat × Nat × Hists) :=
  (readCode b stop cs.lit 15 pos 0 0).bind fun (s, pos) =>
    let h := { h with lit := bump h.lit s }
    if w != 8 && s == 255 then (readRaw b stop w pos 0).bind fun (z, pos) => .ok (z, pos, h)
    else .ok (s, pos, h)

/-- The components of a literal pixel. -/
def readComps (b : Body) (stop : Nat) (cs : Codes) (w : Nat) : List Nat → Nat → Hists → Got (List Nat × Nat × Hists)
  | [], pos, h => .ok ([], pos, h)
  | pred :: rest, pos, h =>
    (readComp b stop cs w pos h).bind fun (z, pos, h) =>
      (readComps b stop cs w rest pos h).bind fun (vs, pos, h) =>
        .ok (patternOf w ((pred : Int) + zigzag z) :: vs, pos, h)

/-! ### Tokens (R139, R148) -/

/-- A signed 5-bit field; −16 is BAD_SOURCE (R141). -/
def readRaw5 (b : Body) (stop pos : Nat) : Got (Int × Nat) :=
  (readRaw b stop 5 pos 0).bind fun (x, pos) =>
    let v := signedOf 5 x
    if v = -16 then .fail ocBadSource else .ok (v, pos)

/-- The fields of a copy token after n (R139). INTRA keeps `up` in dy, STOCK its index in dx and its offset in dy. -/
def readCopy (b : Body) (stop : Nat) (cs : Codes) (cmd pos : Nat) (h : Hists) : Got (Recent × Nat × Hists) :=
  match cmd with
  | 1 =>
    (readOfs b stop cs pos h).bind fun (x, pos, h) =>
      (readOfs b stop cs pos h).bind fun (y, pos, h) => .ok ({ kind := 1, dx := zigzag x, dy := y }, pos, h)
  | 2 =>
    (readRaw5 b stop pos).bind fun (du, pos) =>
      (readRaw5 b stop pos).bind fun (dv, pos) =>
        (readOfs b stop cs pos h).bind fun (x, pos, h) =>
          (readOfs b stop cs pos h).bind fun (y, pos, h) =>
            .ok ({ kind := 2, du, dv, dx := zigzag x, dy := zigzag y }, pos, h)
  | 3 =>
    (readOfs b stop cs pos h).bind fun (x, pos, h) =>
      (readOfs b stop cs pos h).bind fun (y, pos, h) => .ok ({ kind := 3, dx := zigzag x, dy := zigzag y }, pos, h)
  | _ =>
    (readRaw b stop 16 pos 0).bind fun (i, pos) =>
      (readRaw b stop 20 pos 0).bind fun (o, pos) => .ok ({ kind := 4, dx := i, dy := o }, pos, h)

/-- The entry that a copy leaves as entry 0: a stored STOCK entry holds the offset that follows (R148). -/
def afterCopy (c : LegCtx) (e : Recent) (n : Nat) : Recent :=
  if e.kind = 4 then { e with dy := e.dy + (n * bppOf c.hdr.format : Nat) } else e

/-- The fields of the token at the decoder's position (R137, R139–R148): afterwards it is in hand. DESIGN CHOICE: REF_SERIAL,
BAD_STOCK and EXPANSION are judged once every field has been read (assumption log 201). -/
def openToken (c : LegCtx) (b : Body) (cs : Codes) (d : DecState) : Got DecState :=
  let stop := 8 * d.blockEnd
  (readCode b stop cs.cmd 15 d.bit 0 0).bind fun (cmd, pos) =>
    let h := { d.hist with cmd := bump d.hist.cmd cmd }
    (readLen b stop cs pos h).bind fun (n, pos, h) =>
      if 65536 < n || d.left < n then .fail ocBadLength
      else if cmd = 0 then .ok { d with bit := pos, hist := h, token := some { left := n } }
      else
        let found : Got (Recent × Nat × Hists) :=
          if cmd < 5 then readCopy b stop cs cmd pos h else .ok (d.recent.getD (cmd - 5) { kind := 1 }, pos, h)
        found.bind fun (e, pos, h) =>
          let bpp := bppOf c.hdr.format
          if e.kind = 3 && c.hdr.refSerial = 0xFFFFFFFF then .fail ocRefSerial
          else if e.kind = 4 && (!(decide (e.dx.toNat < c.stockCount)) || decide (1048576 < e.dy.toNat + n * bpp)) then
            .fail ocBadStock
          else if expands c (d.produced + n) pos then .fail ocExpansion
          else
            .ok { d with
              bit := pos, hist := h, source := none
              token := some { copy := some e, rep := if cmd < 5 then none else some (cmd - 5), left := n } }

/-- The recent offsets once a token has put out its last pixel (R148). -/
def recentAfter (c : LegCtx) (t : OpenToken) (l : List Recent) : List Recent :=
  match t.copy with
  | none => l
  | some e =>
    afterCopy c e t.done :: (match t.rep with
      | none => l.take 3
      | some k => l.eraseIdx k)

/-- A pixel of the token in hand is out: with its last one the token is done. -/
def DecState.tokenPixel (c : LegCtx) (d : DecState) (t : OpenToken) : DecState :=
  let t := { t with left := t.left - 1, done := t.done + 1 }
  if t.left = 0 then { d with token := none, recent := recentAfter c t d.recent } else { d with token := some t }

/-- Has the decoder come to the pixel at which the sender lets it stall, and how (R172)? -/
def stallsAt (limit : Option (Nat × Ran)) (d : DecState) : Option Ran :=
  match limit with
  | some (n, r) => if n ≤ d.produced then some r else none
  | none => none

/-- A copy, sequential (R150): the pixels of the token in hand, at most n. What it has put out before a fault or a stall
stands. -/
def copyPixels (c : LegCtx) (e : Recent) (limit : Option (Nat × Ran)) :
    Nat → DecState → State → Option Ran × DecState × State
  | 0, d, s => (none, d, s)
  | n + 1, d, s =>
    match stallsAt limit d, d.token with
    | some r, _ => (some r, d, s)
    | none, none => (none, d, s)
    | none, some t =>
      match sourcePixel c e t.done d s with
      | (some r, _, d, s) => (some r, d, s)
      | (none, p, d, s) =>
        match putPixel c p d s with
        | (some r, d, s) => (some r, d, s)
        | (none, d, s) => copyPixels c e limit n (d.tokenPixel c t) s

/-- A literal run (R142): the pixels of the token in hand, at most n. The expansion guard is judged pixel by pixel. -/
def literals (c : LegCtx) (b : Body) (cs : Codes) (limit : Option (Nat × Ran)) :
    Nat → DecState → State → Option Ran × DecState × State
  | 0, d, s => (none, d, s)
  | n + 1, d, s =>
    match stallsAt limit d, d.token with
    | some r, _ => (some r, d, s)
    | none, none => (none, d, s)
    | none, some t =>
      match fetchTo c b d.bit b.bytes.size d s with
      | (some r, d, s) => (some r, d, s)
      | (none, d, s) =>
        let preds := (List.range (compCount c.hdr.format)).map fun i => (predict c d).getD i 0
        match readComps b (8 * d.blockEnd) cs (compBits c.hdr.format) preds d.bit d.hist with
        | .fail code => (some (.failed code), d, s)
        | .stall => (some .input, d, s)
        | .ok (vs, pos, h) =>
          if expands c (d.produced + 1) pos then (some (.failed ocExpansion), d, s)
          else
            match putPixel c vs d s with
            | (some r, d, s) => (some r, d, s)
            | (none, d, s) => literals c b cs limit n ({ d with bit := pos, hist := h }.tokenPixel c t) s

/-- The token in hand goes on (R172). -/
def runToken (c : LegCtx) (b : Body) (cs : Codes) (limit : Option (Nat × Ran)) (t : OpenToken) (d : DecState) (s : State) :
    Option Ran × DecState × State :=
  match t.copy with
  | none => literals c b cs limit t.left d s
  | some e => copyPixels c e limit t.left d s

/-! ### Blocks (R135, R138, R153, R174) -/

/-- The next block header: none once the leg's blocks are complete. Two points are the model's (DESIGN CHOICE, log
entry 202): a leg whose blocks all end with fewer pixels than decoded_size completes, since the rules name only the
excess; and a header that breaks several limits is judged in the order BAD_LENGTH, SIZE_MISMATCH, EXPANSION. -/
def nextBlock (c : LegCtx) (b : Body) (d : DecState) : Got (Option DecState) :=
  let pos := d.blockEnd
  let size := c.hdr.compressed
  if pos = size && d.begun = c.hdr.blocks then .ok none
  else if pos = size || d.begun = c.hdr.blocks || size - pos < 8 then .fail ocSizeMismatch
  else if b.bytes.size < pos + 8 then (if b.complete then .fail ocSizeMismatch else .stall)
  else
    let by8 := (List.range 8).map fun i => b.bytes.getD (pos + i) 0
    let length := leAt by8 0 4
    let pixels := leAt by8 4 2
    let bpp := bppOf c.hdr.format
    if length % 4 != 0 || length < 12 || 262144 < length || pixels = 0 || 32768 < pixels || 65536 < pixels * bpp ||
        !zeroAt by8 6 2 then .fail ocBadLength
    else if size < pos + length || (b.complete && b.bytes.size < pos + length) then .fail ocSizeMismatch
    else if c.hdr.decoded < (d.produced + pixels) * bpp || expands c d.produced (8 * (pos + 8)) then .fail ocExpansion
    else
      .ok (some { d with
        blockAt := pos, bit := 8 * (pos + 8), blockEnd := pos + length, begun := d.begun + 1, left := pixels
        lens := if d.begun = 0 && legFresh c.hdr then defaultLens else lensOf d.hist
        hist := zeroHists })

/-- Decoding from a state until it ends, fails or stalls (R172): the token in hand, then the next token or block. -/
def decodeRun (c : LegCtx) (b : Body) (limit : Option (Nat × Ran)) : Nat → DecState → State → Ran × DecState × State
  | 0, d, s => (.input, d, s)
  | fuel + 1, d, s =>
    match stallsAt limit d with
    | some r => (r, d, s)
    | none =>
      match d.token with
      | some t =>
        match runToken c b (codesOf d.lens) limit t d s with
        | (some r, d, s) => (r, d, s)
        | (none, d, s) => decodeRun c b limit fuel d s
      | none =>
        match fetchTo c b (if d.left = 0 then 8 * d.blockEnd else d.bit) b.bytes.size d s with
        | (some r, d, s) => (r, d, s)
        | (none, d, s) =>
          if d.left = 0 then
            match nextBlock c b d with
            | .ok none => (.finished, d, s)
            | .ok (some d) => decodeRun c b limit fuel d s
            | .fail code => (.failed code, d, s)
            | .stall => (.input, d, s)
          else
            match openToken c b (codesOf d.lens) d with
            | .ok d => decodeRun c b limit fuel d s
            | .fail code => (.failed code, d, s)
            | .stall => (.input, d, s)

/-- The recent offsets of a fresh leg (R149). -/
def freshRecent : List Recent :=
  [{ kind := 1, dx := 0, dy := 1 }, { kind := 1, dx := -1, dy := 0 }, { kind := 2, du := -1 }, { kind := 3 }]

end Sys2Proof.Machine
end

