-- ==== Sys2Proof/Machine/Sleep.lean ====
section
/-!
DEFINITION. Sleep groups' bookkeeping (R418–R423): membership, idle times and wakes, which the blocks that hold waybills
call.
-/
namespace Sys2Proof.Machine

/-- The members of sleep group g; none when its record is absent. -/
def State.members (s : State) (g : SleepGroup) : List Nat :=
  match s.itin.sleep[g] with
  | some r => r.members
  | none => []

def allGroups : List SleepGroup := [0, 1, 2, 3, 4, 5, 6, 7]

def State.updGroup (s : State) (g : SleepGroup) (f : SleepSt → SleepSt) : State :=
  { s with power := { s.power with groups := s.power.groups.set g (f (s.power.groups.get g)) } }

/-- A member domain has just held a waybill: its group's idle time counts from now (R419). -/
def State.busyMember (s : State) (pd : Nat) : State :=
  allGroups.foldl (fun (s : State) g => if (s.members g).contains pd then s.updGroup g fun x => { x with since := s.now } else s) s

/-- µs that the reload of a domain takes (R416). -/
def reloadUs (pd : Nat) : Nat := if pd < 32 then 60 else if pd < 36 then 10 else if pd = 37 then 5 else 0

/-- µs that a state change takes (R416), with the reload of a domain that was off. -/
def changeUs (pd now target : Nat) : Nat :=
  match target, now with
  | 0, _ => 1
  | 1, _ => 2
  | _, 0 => 20 + reloadUs pd
  | _, _ => 5

/-- A domain goes to a state (R416): changing until DOMAIN_TRANSITION_COMPLETE. -/
def State.startTransition (s : State) (pd target : Nat) : State :=
  ({ s with power := { s.power with
    target := Sparse.set s.power.target pd target
    due := Sparse.set s.power.due pd (s.now + edgesUs (changeUs pd (s.pd pd) target)) } }).setPd pd 3

/-- A cluster that left service stays out (R422). -/
def State.skipsWake (s : State) (pd : Nat) : Bool := decide (pd < 32) && !s.inService pd

/-- The wake of a sleeping group (R423). -/
def State.startWake (s : State) (g : SleepGroup) (source : Nat) : State :=
  let s := s.setFld (PWR_SG_STAT_state g.val) 5
  let s := s.setReg PWR_LAST_WAKE (BitVec.ofNat 32 (source * 2 ^ 24 + g.val * 2 ^ 16))
  let s := s.setReg PWR_LAST_WAKE_T (BitVec.ofNat 32 s.timeNs)
  let s := s.raiseOpen 226 (g.val * 2 ^ 8 + source)
  let s := s.updGroup g fun x => { x with wake := none, since := s.now }
  let ms := (s.members g).filter fun pd => !s.skipsWake pd
  if ms.isEmpty then s.setFld (PWR_SG_STAT_state g.val) 1 else ms.foldl (fun s pd => s.startTransition pd 2) s

/-- A wake source arrives for a group (R419, R422). -/
def State.wake (s : State) (g : SleepGroup) (source : Nat) : State :=
  match s.fld (PWR_SG_STAT_state g.val) with
  | 2 =>
    let s := (s.setFld (PWR_SG_STAT_state g.val) 1).setFld (PWR_SG_STAT_status g.val) 3
    (s.updGroup g fun x => { x with since := s.now, refusedAt := some s.now }).raise 224 2 (g.val * 2 ^ 8)
  | 3 => s.updGroup g fun x => { x with wake := some (x.wake.getD source) }
  | 4 => s.startWake g source
  | _ => s

/-- A waybill that domains satisfying p can run is queued (source 1); it also counts as held work. -/
def State.demand (s : State) (p : Nat → Bool) : State :=
  allGroups.foldl (fun (s : State) g =>
    if (s.members g).any p then (s.updGroup g fun x => { x with since := s.now }).wake g 1 else s) s

/-- STATIC groups wake (sources 2 and 3). -/
def State.wakeStatic (s : State) (source : Nat) : State :=
  allGroups.foldl (fun (s : State) g => if (s.itin.sleep[g]).any (·.static) then s.wake g source else s) s

/-- Does a domain accept work: on, and no member of a group in prepare (R417, R420)? -/
def State.accepts (s : State) (pd : Nat) : Bool :=
  s.pd pd = 2 && !allGroups.any fun g => s.fld (PWR_SG_STAT_state g.val) = 2 && (s.members g).contains pd

/-- A change becomes pending for an output (R24); STATIC groups wake (R419). -/
def State.pend (s : State) (o : Output) (k : ChangeKind) : State :=
  (s.updCycle o fun c => { c with changes := c.changes ++ [{ kind := k, since := s.now }] }).wakeStatic 3

/-! ### Sleep requests (R419–R421) -/

/-- The codec units of a domain PD32–PD35. -/
def domainUnits (pd : Nat) : List CodecUnit := (List.range 4).map fun i => Fin.ofNat 16 (4 * (pd - 32) + i)

/-- Does a domain hold a waybill? -/
def State.holdsWork (s : State) (pd : Nat) : Bool :=
  if pd < 32 then s.engines.any fun (e, _) => e / 16 == pd
  else if pd < 36 then (domainUnits pd).any fun u => (s.codec u).leg.isSome || (s.codec u).cap.isSome
  else pd == 37 && s.blt.run.isSome

/-- Does a domain still drain an aborted waybill (R195)? Such a member has not replied yet. -/
def State.drains (s : State) (pd : Nat) : Bool :=
  if pd < 32 then false
  else if pd < 36 then (domainUnits pd).any fun u => (s.codec u).draining
  else pd == 37 && s.blt.draining

/-- A request ends REFUSED: the members resume (R420 step 3′). -/
def State.refuseSleep (s : State) (g : SleepGroup) (refuser : Nat) : State :=
  let s := (s.setFld (PWR_SG_STAT_state g.val) 1).setFld (PWR_SG_STAT_status g.val) 2
  let s := (s.setFld (PWR_SG_STAT_refuser g.val) refuser).incFld (PWR_SG_STAT_refusals g.val) 1
  (s.updGroup g fun x => { x with since := s.now, refusedAt := some s.now }).raise 224 1 (g.val * 2 ^ 8 + refuser)

/-- Every request ends: an abrupt loss or a thermal shutdown governs the domains from then on (R422). -/
def State.endRequests (s : State) : State :=
  allGroups.foldl (fun (s : State) g =>
    if 2 ≤ s.fld (PWR_SG_STAT_state g.val) then
      (s.setFld (PWR_SG_STAT_state g.val) 1).updGroup g fun x => { x with since := s.now, wake := none }
    else s) s

/-- Members that are on go to the target state; the request ends DONE. -/
def State.commitSleep (s : State) (g : SleepGroup) : State :=
  let target := match s.itin.sleep[g] with
    | some r => if r.off then 0 else 1
    | none => 1
  let s := (s.setFld (PWR_SG_STAT_state g.val) 3).setFld (PWR_SG_STAT_status g.val) 1
  let s := s.updGroup g fun x => { x with since := s.now, wake := none }
  let on := (s.members g).filter fun pd => s.pd pd = 2
  if on.isEmpty then s.setFld (PWR_SG_STAT_state g.val) 4 else on.foldl (fun s pd => s.startTransition pd target) s

/-- The replies of a preparing group: the lowest member that holds a waybill refuses; with every reply ready the group
commits. -/
def State.prepareReplies (s : State) (g : SleepGroup) : State :=
  if s.fld (PWR_SG_STAT_state g.val) != 2 then s
  else
    let ms := (List.range 48).filter fun pd => (s.members g).contains pd
    match ms.find? s.holdsWork with
    | some pd => s.refuseSleep g pd
    | none => if ms.any s.drains then s else s.commitSleep g

end Sys2Proof.Machine
end

