-- ==== Sys2Proof/Machine/Operands.lean ====
section
/-!
DEFINITION. Operands of the engine's instructions (R93–R96, R103, R105): reading registers, lanes, immediates and local
memory, and writing destinations. A place that nothing has written since dispatch holds an undefined value (R96).
-/
namespace Sys2Proof.Machine

/-- The lanes of an engine. -/
def lanes : List Nat := List.range 8

def State.engine? (s : State) (e : EngineId) : Option Engine := Sparse.get? s.engines e.val
def State.setEngine (s : State) (e : EngineId) (g : Engine) : State := { s with engines := Sparse.set s.engines e.val g }
/-- The engine becomes free for the next waybill. -/
def State.freeEngine (s : State) (e : EngineId) : State :=
  ({ s with engines := Sparse.erase s.engines e.val }).busyMember (e.val / 16)

/-- The cluster of an engine (R90). -/
def clusterOf (e : EngineId) : Nat := e.val / 16

/-- Lane i of v[r]. -/
def Engine.vreg (g : Engine) (r i : Nat) : Word :=
  (Sparse.get? g.v (8 * r + i)).getD (Config.engineUndef g.token (8 * r + i))

/-- s[r]. -/
def Engine.sreg (g : Engine) (r : Nat) : Word := (Sparse.get? g.s r).getD (Config.engineUndef g.token (512 + r))

/-- p[r]; p0 always reads 0xFF (R93). -/
def Engine.preg (g : Engine) (r : Nat) : Byte :=
  if r = 0 then 0xFF else (Sparse.get? g.p r).getD ((Config.engineUndef g.token (544 + r)).setWidth 8)

/-- The local-memory word at byte address 4 × k. -/
def Engine.lmWord (g : Engine) (k : Nat) : Word := (Sparse.get? g.lm k).getD (Config.engineUndef g.token (1024 + k))

/-- Operand a of a vector instruction in lane i: v[a], or s[a] broadcast (R103). -/
def Engine.opA (g : Engine) (f : Form) (i : Nat) : Word := if f.as then g.sreg f.a.val else g.vreg f.a.val i

/-- Operand b of a vector instruction in lane i: v[b], s[b] broadcast, or the immediate. -/
def Engine.opB (g : Engine) (f : Form) (i : Nat) : Word :=
  match f.imm with
  | some w => w
  | none => if f.bs then g.sreg f.b.val else g.vreg f.b.val i

/-- Operand b of a scalar instruction: s[b] or the immediate. -/
def Engine.sopB (g : Engine) (f : Form) : Word :=
  match f.imm with
  | some w => w
  | none => g.sreg f.b.val

/-- The offset of a load or a store, 0 in the 32-bit form. -/
def formOffset (f : Form) : Word := f.imm.getD 0

/-- v[d] written in the lanes of a mask; the others keep their value (R94). -/
def Engine.writeV (g : Engine) (d : Nat) (mask : Byte) (val : Nat → Word) : Engine :=
  lanes.foldl (fun g i => if mask.getLsbD i then { g with v := Sparse.set g.v (8 * d + i) (val i) } else g) g

def Engine.writeS (g : Engine) (d : Nat) (w : Word) : Engine := { g with s := Sparse.set g.s d w }

/-- p[d] written; p0 keeps its value (R93). -/
def Engine.writeP (g : Engine) (d : Nat) (b : Byte) : Engine :=
  if d = 0 then g else { g with p := Sparse.set g.p d b }

/-- A local-memory word written; its check bits are new with it. -/
def Engine.writeLm (g : Engine) (k : Nat) (w : Word) : Engine :=
  { g with lm := Sparse.set g.lm k w, lost := g.lost.filter (· != k) }

/-! ### Registers that an instruction waits for (R104): v[r] is r, s[r] is 64 + r, p[r] is 96 + r -/

def keyV (r : Nat) : Nat := r
def keyS (r : Nat) : Nat := 64 + r
def keyP (r : Nat) : Nat := 96 + r

/-- The time at which a full queue of a unit frees an entry. -/
def unitKey : SharedUnit → Nat
  | .sample => 128
  | .calib => 129
  | .overlay => 130
  | .sfu => 131
  | .output => 132

/-- The registers an instruction writes. -/
def shapeDests (sh : Shape) (f : Form) : List Nat :=
  let d := f.d.val
  match sh with
  | .plain | .bra | .trap | .outp => []
  | .vab | .vb | .vlane | .lvec | .smpa | .smps | .smpd => [keyV d]
  | .cmp | .pred | .pset => [keyP d]
  | .pget | .sab | .sb | .vext | .ldc | .lscal => [keyS d]
  | .loop => [keyS f.a.val]
  | .calq => (List.range 8).map fun k => keyV (d + k)
  | .smpcd | .ovl => [keyV d, keyV (d + 1)]

/-- Operand b as a register to wait for. -/
def waitB (f : Form) : List Nat :=
  if f.imm.isSome then [] else [if f.bs then keyS f.b.val else keyV f.b.val]

/-- Operand a as a register to wait for. -/
def waitA (f : Form) : List Nat := [if f.as then keyS f.a.val else keyV f.a.val]

/-- The registers an instruction reads beside its guard; a store reads its d (R104). -/
def shapeSources (sh : Shape) (f : Form) : List Nat :=
  let a := f.a.val
  let scalarB := if f.imm.isSome then [] else [keyS f.b.val]
  match sh with
  | .plain | .trap | .vlane => []
  | .vab | .cmp => waitA f ++ waitB f
  | .vb => waitB f
  | .pred => [keyP a, keyP f.b.val]
  | .pset => [keyS a]
  | .pget => [keyP a]
  | .sab => keyS a :: scalarB
  | .sb => scalarB
  | .vext => [keyV a]
  | .ldc => [keyS a]
  | .bra => if f.d.val = 0 then [] else if f.d.val ≤ 2 then [keyS a] else [keyP a]
  | .loop => [keyS a]
  | .lvec => waitA f ++ [keyV f.d.val]
  | .lscal => [keyS a, keyS f.d.val]
  | .calq => [keyV a, keyV (a + 1)]
  | .smpa => [keyV a, keyV (a + 1), keyV (a + 2), keyV (a + 3)] ++ waitB f
  | .smps | .smpcd => [keyV a, keyV (a + 1), keyV (a + 2)] ++ waitB f
  | .smpd | .ovl => [keyV a, keyV (a + 1), keyV (a + 2)]
  | .outp => waitA f ++ [keyV f.b.val, keyV (f.b.val + 1)]

/-- Everything an instruction waits for: sources, guard and destinations (R104). -/
def shapeWaits (sh : Shape) (f : Form) : List Nat := keyP f.pg.val :: (shapeSources sh f ++ shapeDests sh f)

end Sys2Proof.Machine
end

