-- ==== Sys2Proof/Machine/Flags.lean ====
section
/-!
DEFINITION. The engine's predicates (R93–R95, R110, R112): the guard's active lanes, a compare's result, predicate logic,
the branch conditions.
-/
namespace Sys2Proof.Machine

/-- The active lanes of a guarded instruction: p[pg] XOR pn (R94). -/
def Engine.active (g : Engine) (f : Form) : Byte := g.preg f.pg.val ^^^ (if f.pn then 0xFF else 0)

/-- Is lane i active? -/
def Engine.lane (g : Engine) (f : Form) (i : Nat) : Bool := (g.active f).getLsbD i

/-- p[d] after a compare: the bits of active lanes take the result, the others keep their value (R94, R110). -/
def compareBits (old mask : Byte) (res : Nat → Bool) : Byte :=
  lanes.foldl (fun acc i =>
    if mask.getLsbD i then (if res i then acc ||| (1#8 <<< i) else acc &&& ~~~(1#8 <<< i)) else acc) old

/-- The branch condition d of BRA (R112); values above 5 are illegal encodings. -/
def Engine.branchTaken (g : Engine) (f : Form) : Bool :=
  let a := f.a.val
  match f.d.val with
  | 0 => true
  | 1 => g.sreg a != 0
  | 2 => g.sreg a == 0
  | 3 => g.preg a != 0
  | 4 => g.preg a == 0xFF
  | 5 => g.preg a == 0
  | _ => false

end Sys2Proof.Machine
end

