-- ==== Sys2Proof/Machine/Engine.lean ====
section
/-!
DEFINITION. Issuing on a ray engine (R90–R91, R104–R109), traps (R124), the watchdog (R125) and the end of a span (R123).
An engine command is the instruction that the engine issues next: where the engine has no span, or must still wait for a
shared unit's result, the command has no effect (assumption log 12).
-/
namespace Sys2Proof.Machine

/-- The word address of the first word of a slot's program, and its length (ENG_PROG_LOC, ENG_PROG_INFO). -/
def State.progBase (s : State) (slot : Nat) : Nat := s.fld (ENG_PROG_LOC_base slot)
def State.progSize (s : State) (slot : Nat) : Nat := s.fld (ENG_PROG_INFO_size slot)

/-- The watchdog budget of a span of width w (R125); h is 8, so G = w. -/
def State.budget (s : State) (slot w : Nat) : Nat := s.fld (ENG_PROG_INFO_cost slot) * w + 1024

/-- Clocks counted by the watchdog (R125). -/
def Engine.counted (g : Engine) : Nat := g.clk - g.excluded

/-- ENG_SPAN_PEAK of the output after a span that ended at END or WATCHDOG: (counted − 1,024) / G in unsigned 8.8. -/
def State.notePeak (s : State) (g : Engine) : State :=
  let v := min ((g.counted - 1024) * 256 / g.w) 0xFFFF
  let fd := ENG_SPAN_PEAK_peak g.out.val
  if s.fld fd < v then s.setFld fd v else s

/-- A trap (R124): the engine stops and becomes free, outstanding results are discarded, the span fails (R88), EV000 + c
is raised and the cluster's last-trap registers are updated. -/
def State.trap (s : State) (e : EngineId) (g : Engine) (code soft pc : Nat) : State :=
  let c := clusterOf e
  let k := e.val % 16
  let s := s.freeEngine e
  let s := s.incFld (RAY_SPAN_FAIL_count g.out.val) 1
  let s := s.incFld (ENG_CL_TRAPS_count c) 1
  let s := s.setReg (ENG_CL_LAST c)
    (BitVec.ofNat 32 (code * 2 ^ 28 + k * 2 ^ 24 + g.out.val * 2 ^ 22 + g.slot * 2 ^ 20 + g.span))
  let s := s.setReg (ENG_CL_LASTPC c) (BitVec.ofNat 32 (soft * 2 ^ 16 + pc % 2 ^ 13))
  s.raise c code (k * 2 ^ 28 + g.out.val * 2 ^ 26 + g.span)

/-- The watchdog has counted beyond the budget (R125). -/
def State.trapWatchdog (s : State) (e : EngineId) (g : Engine) : State :=
  (s.notePeak g).trap e g 8 0 g.pc

/-- Is every subpixel of the span written (R123)? -/
def Engine.complete (g : Engine) : Bool := g.written == 2 ^ (8 * g.w) - 1

/-- END's wait is over (R123, R125): a count above the budget, an incomplete span, or a valid span. When both conditions
fall in one clock, the lower code is recorded (R124). -/
def State.finishSpan (s : State) (e : EngineId) (g : Engine) : State :=
  let budget := s.budget g.slot g.w
  if budget + 1 < g.counted then s.trapWatchdog e g
  else if !g.complete then s.trap e g 6 0 g.pc
  else if budget < g.counted then s.trapWatchdog e g
  else
    let s := s.notePeak g
    let s := s.updRender g.out fun r => { r with valid := (g.y0, g.xs0 / 60) :: r.valid }
    s.freeEngine e

/-- What an instruction does once it issues. -/
inductive Effect where
  | go (g : Engine)
  | jump (g : Engine) (target : Nat)
  | ends (g : Engine)
  | trap (code soft : Nat)

/-- Is a write to one of these registers outstanding in a shared unit (R104)? -/
def Engine.unitWaits (g : Engine) (keys : List Nat) : Bool :=
  g.reqs.any fun r => keys.any fun k =>
    match r.unit with
    | .output => false
    | .calib => decide (r.d ≤ k) && decide (k ≤ r.d + 7)
    | .overlay => k == r.d || k == r.d + 1
    | .sample => k == r.d || (r.op == 0x73 && k == r.d + 1)
    | .sfu => k == r.d

/-- Queue entries of an engine at a unit (R92). -/
def unitDepth : SharedUnit → Nat
  | .sample => 4
  | .calib => 2
  | .overlay => 2
  | .sfu => 4
  | .output => 4

/-- Is the engine's queue for a unit full? -/
def Engine.queueFull (g : Engine) (u : SharedUnit) : Bool :=
  decide (unitDepth u ≤ (g.reqs.filter (·.unit = u)).length)

/-- The clock from which the engine's queue for a unit has a free entry (R104), where its outstanding requests leave room: a
served request holds its entry until its service has ended. -/
def Engine.entryClock (g : Engine) (u : SharedUnit) : Nat :=
  let ends := (g.served.filter (·.unit = u)).map (·.done)
  let room := unitDepth u - 1 - (g.reqs.filter (·.unit = u)).length
  if ends.length ≤ room then 0 else ends.getD (ends.length - 1 - room) 0

/-- The clock in which an instruction issues (R104, R106): the first at which every register it waits for is readable, for
local memory no bank is held, and for a shared unit the queue has a free entry. -/
def Engine.issueClock (g : Engine) (keys : List Nat) (lm : Bool) (u : Option SharedUnit) : Nat :=
  let c := keys.foldl (fun c k => max c (Sparse.getD g.busy k 0)) g.clk
  let c := if lm then max c g.bankFree else c
  max c ((u.map g.entryClock).getD 0)

/-- Does an instruction that waits for some registers, and for a unit's queue, wait for a served request? -/
def Served.awaited (keys : List Nat) (u : Option SharedUnit) (x : Served) : Bool :=
  x.keys.any keys.contains || u == some x.unit

/-- Clocks from a up to c in which the engine stalls on a result or a queue entry that waits for a line fill (R125). -/
def Engine.fillStalls (g : Engine) (awaited : Served → Bool) (a c : Nat) : Nat :=
  ((List.range (c - a)).filter fun i =>
    g.served.any fun x => awaited x && decide (x.fillFrom ≤ a + i) && decide (a + i < x.fillTo)).length

/-- The engine at clock c, stalled until then: the watchdog leaves out what R125 says. -/
def Engine.stallTo (g : Engine) (awaited : Served → Bool) (c : Nat) : Engine :=
  { g with clk := c, excluded := g.excluded + g.fillStalls awaited g.clk c }

/-- END's wait for every outstanding result (R123). -/
def Engine.settle (g : Engine) : Engine := g.stallTo (fun _ => true) (g.served.foldl (fun c x => max c x.ready) g.clk)

/-- Destinations become readable `lat` clocks after clock c (R106). -/
def Engine.setBusy (g : Engine) (keys : List Nat) (c lat : Nat) : Engine :=
  { g with busy := keys.foldl (fun m k => Sparse.set m k (c + lat)) g.busy }

/-- Does the fetch at the engine's pc, of n words, lie within its program (R112)? -/
def State.fetchOk (s : State) (g : Engine) (n : Nat) : Bool :=
  let base := s.progBase g.slot
  decide (base ≤ g.pc) && decide (g.pc + n ≤ base + s.progSize g.slot)

/-- One instruction on an engine: fetch bounds, encoding, interlocks, watchdog, then its effect. `body` is given the engine
at the issue clock. Of a trap of the instruction and the watchdog's in one clock the lower code is recorded (R124). -/
def State.issue (s : State) (e : EngineId) (sh : Shape) (f : Form) (lm : Bool) (u : Option SharedUnit)
    (body : Engine → Effect) : State :=
  match s.engine? e with
  | none => s
  | some g =>
    let words := if f.imm.isSome then 2 else 1
    let keys := shapeWaits sh f
    if g.ending then s
    else if !s.fetchOk g words then s.trap e g 7 0 g.pc
    else if !sh.ok f then s.trap e g 1 0 g.pc
    else if g.unitWaits keys || u.any g.queueFull then s
    else
      let c := g.issueClock keys lm u
      let g := { g.stallTo (Served.awaited keys u) c with clk := c + 1 }
      let budget := s.budget g.slot g.w
      if budget + 1 < g.counted then s.trapWatchdog e g
      else
        match body g with
        | .trap code soft => if budget < g.counted && 8 < code then s.trapWatchdog e g else s.trap e g code soft g.pc
        | act =>
          if budget < g.counted then s.trapWatchdog e g
          else
            match act with
            | .go g' => s.setEngine e { g' with pc := g.pc + words }
            | .jump g' target => s.setEngine e { g' with pc := target, clk := c + 3 }
            | .ends g' =>
              let g' := { g' with pc := g.pc + words, ending := true }
              if g'.reqs.isEmpty then s.finishSpan e g'.settle else s.setEngine e g'
            | .trap code soft => s.trap e g code soft g.pc

/-- The issue clock of the instruction that issues now: its clock has been counted already. -/
def Engine.now (g : Engine) : Nat := g.clk - 1

/-! ### The shapes of meanings -/

/-- A guarded vector instruction: `val` of the old destination and the operands, in each active lane (R94, R95). -/
def State.vectorOp (s : State) (e : EngineId) (sh : Shape) (f : Form) (lat : Nat) (val : Engine → Nat → Word) : State :=
  s.issue e sh f false none fun g =>
    let g' := g.writeV f.d.val (g.active f) (val g)
    .go (g'.setBusy (shapeDests sh f) g.now lat)

/-- d := op a b. -/
def State.vec2 (s : State) (e : EngineId) (f : Form) (lat : Nat) (op : Word → Word → Word) : State :=
  s.vectorOp e .vab f lat fun g i => op (g.opA f i) (g.opB f i)

/-- d := op a b d. -/
def State.vec3 (s : State) (e : EngineId) (f : Form) (lat : Nat) (op : Word → Word → Word → Word) : State :=
  s.vectorOp e .vab f lat fun g i => op (g.opA f i) (g.opB f i) (g.vreg f.d.val i)

/-- d := op b. -/
def State.vec1 (s : State) (e : EngineId) (f : Form) (lat : Nat) (op : Word → Word) : State :=
  s.vectorOp e .vb f lat fun g i => op (g.opB f i)

/-- A compare into p[d] (R94, R110). -/
def State.compareOp (s : State) (e : EngineId) (f : Form) (op : Word → Word → Bool) : State :=
  s.issue e .cmp f false none fun g =>
    let b := compareBits (g.preg f.d.val) (g.active f) fun i => op (g.opA f i) (g.opB f i)
    .go ((g.writeP f.d.val b).setBusy (shapeDests .cmp f) g.now 1)

/-- Predicate logic. -/
def State.predOp (s : State) (e : EngineId) (f : Form) (op : Byte → Byte → Byte) : State :=
  s.issue e .pred f false none fun g =>
    .go ((g.writeP f.d.val (op (g.preg f.a.val) (g.preg f.b.val))).setBusy (shapeDests .pred f) g.now 1)

/-- A scalar instruction s[d] := op a b. -/
def State.scalar2 (s : State) (e : EngineId) (f : Form) (lat : Nat) (op : Word → Word → Word) : State :=
  s.issue e .sab f false none fun g =>
    .go ((g.writeS f.d.val (op (g.sreg f.a.val) (g.sopB f))).setBusy (shapeDests .sab f) g.now lat)

/-- A shared-unit instruction: its operands are read now (R105) and queued. -/
def State.unitOp (s : State) (e : EngineId) (sh : Shape) (f : Form) (u : SharedUnit) (op : Nat)
    (operands : Engine → Nat → List Word) : State :=
  s.issue e sh f false (some u) fun g =>
    -- an instruction without an active lane sends no request (R94)
    if g.active f = 0 then .go g else
    .go { g with reqs := g.reqs ++
      [{ unit := u, op, d := f.d.val, b := f.b.val, active := g.active f, ops := lanes.map (operands g), pc := g.pc,
         clk := g.now }] }

/-- The instruction that stands in the instruction memory at an engine's pc (R102, R110): the one that engine e issues next. -/
def State.fetched (s : State) (e : EngineId) : Option Instr :=
  match s.engine? e with
  | some g => (decodeEngine e (s.imem.drop g.pc)).map fun x => x.1
  | none => none

end Sys2Proof.Machine
end

