-- ==== Sys2Proof/Machine/Fp.lean ====
section
/-!
DEFINITION. The engine's numbers (R97–R101, R112): fp32 and packed fp16 arithmetic as exact computation on integers and one
rounding at the end, the conversions, and the reference values of the special-function unit.
-/
namespace Sys2Proof.Machine

/-- What a floating-point word stands for: not a number, an infinity, or ± m × 2^e. -/
inductive Fv where
  | nan
  | inf (neg : Bool)
  | fin (neg : Bool) (m : Nat) (e : Int)
  deriving DecidableEq, Repr

/-- The number of bits of n. -/
def bitLen (n : Nat) : Nat := if n = 0 then 0 else Nat.log2 n + 1

/-- n / 2^k rounded to nearest, ties to even (R97). -/
def shiftRne (n k : Nat) : Nat :=
  let q := n / 2 ^ k
  let r := n % 2 ^ k
  if k = 0 then n
  else if r * 2 > 2 ^ k || (r * 2 = 2 ^ k && q % 2 = 1) then q + 1 else q

/-- The integer square root, bit by bit from the top. -/
def isqrt (n : Nat) : Nat :=
  let k := bitLen n / 2 + 1
  (List.range k).foldl (fun r i =>
    let c := r + 2 ^ (k - 1 - i)
    if c * c ≤ n then c else r) 0

/-! ### fp32 -/

/-- The canonical NaN (R97). -/
def nan32 : Word := 0x7FC00000

/-- ±infinity. -/
def inf32 (neg : Bool) : Word := if neg then 0xFF800000 else 0x7F800000

/-- ±0. -/
def zero32 (neg : Bool) : Word := if neg then 0x80000000 else 0

/-- fp32 as the engine reads it: a subnormal is a zero of its sign (R97). -/
def read32 (w : Word) : Fv :=
  let n := w.toNat
  let s := n.testBit 31
  let e : Nat := n / 2 ^ 23 % 256
  let f := n % 2 ^ 23
  if e = 255 then (if f = 0 then .inf s else .nan)
  else if e = 0 then .fin s 0 0
  else .fin s (2 ^ 23 + f) ((e : Int) - 150)

/-- ± m × 2^e rounded to fp32 to nearest, ties to even; tiny results, judged after rounding with an unbounded exponent,
are zeros of their sign; too large ones infinities (R97). A nonzero `sticky` says that the exact value lies strictly
between m and m + 1. -/
def round32s (neg : Bool) (m : Nat) (e : Int) (sticky : Bool) : Word :=
  -- two guard bits keep a sticky remainder apart from a tie
  let m := if sticky then 4 * m + 1 else 4 * m
  let e := e - 2
  if m = 0 then zero32 neg
  else
    let n := bitLen m
    let r := if 24 < n then shiftRne m (n - 24) else m * 2 ^ (24 - n)
    let x : Int := e + (n : Int) - 24
    let (r, x) := if r = 2 ^ 24 then (2 ^ 23, x + 1) else (r, x)
    if x + 23 < -126 then zero32 neg
    else if 127 < x + 23 then inf32 neg
    else BitVec.ofNat 32 ((if neg then 2 ^ 31 else 0) + (x + 150).toNat * 2 ^ 23 + (r - 2 ^ 23))

/-- ± m × 2^e rounded to fp32 (R97). -/
def round32 (neg : Bool) (m : Nat) (e : Int) : Word := round32s neg m e false

/-- The exact fraction n / d rounded to fp32; d is positive. -/
def ratio32 (n : Int) (d : Nat) : Word :=
  let m := n.natAbs
  let k := 40 + bitLen d
  round32s (decide (n < 0)) (m * 2 ^ k / d) (-(k : Int)) (decide (m * 2 ^ k % d ≠ 0))

/-- The sum of two signed values at the exponent of the lower one: (sign, magnitude, exponent). -/
def addExact (s1 : Bool) (m1 : Nat) (e1 : Int) (s2 : Bool) (m2 : Nat) (e2 : Int) : Int × Int :=
  let e := min e1 e2
  let a : Int := (m1 * 2 ^ (e1 - e).toNat : Nat)
  let b : Int := (m2 * 2 ^ (e2 - e).toNat : Nat)
  ((if s1 then -a else a) + (if s2 then -b else b), e)

/-- The rounded sum; an exact zero is −0 only when both terms are negative zeros or negative (IEEE 754, round to
nearest). -/
def add32 (x y : Fv) : Word :=
  match x, y with
  | .nan, _ => nan32
  | _, .nan => nan32
  | .inf s, .inf t => if s = t then inf32 s else nan32
  | .inf s, .fin .. => inf32 s
  | .fin .., .inf s => inf32 s
  | .fin s1 m1 e1, .fin s2 m2 e2 =>
    let (v, e) := addExact s1 m1 e1 s2 m2 e2
    if v = 0 then zero32 (s1 && s2) else round32 (decide (v < 0)) v.natAbs e

/-- The value with its sign inverted. -/
def Fv.neg : Fv → Fv
  | .nan => .nan
  | .inf s => .inf !s
  | .fin s m e => .fin (!s) m e

/-- The exact product. -/
def mulExact (x y : Fv) : Fv :=
  match x, y with
  | .nan, _ => .nan
  | _, .nan => .nan
  | .inf s, .inf t => .inf (s != t)
  | .inf s, .fin t m _ => if m = 0 then .nan else .inf (s != t)
  | .fin t m _, .inf s => if m = 0 then .nan else .inf (s != t)
  | .fin s1 m1 e1, .fin s2 m2 e2 => .fin (s1 != s2) (m1 * m2) (e1 + e2)

/-- A value rounded to fp32. -/
def Fv.to32 : Fv → Word
  | .nan => nan32
  | .inf s => inf32 s
  | .fin s m e => round32 s m e

def fadd (a b : Word) : Word := add32 (read32 a) (read32 b)
def fsub (a b : Word) : Word := add32 (read32 a) (read32 b).neg
def fmul (a b : Word) : Word := (mulExact (read32 a) (read32 b)).to32
/-- a × b + d rounded once (R110). -/
def ffma (a b d : Word) : Word := add32 (mulExact (read32 a) (read32 b)) (read32 d)

/-- Order of two finite or infinite values: −1, 0, 1. -/
def Fv.compare (x y : Fv) : Int :=
  match x, y with
  | .nan, _ => 0
  | _, .nan => 0
  | .inf s, .inf t => if s = t then 0 else if s then -1 else 1
  | .inf s, .fin .. => if s then -1 else 1
  | .fin .., .inf s => if s then 1 else -1
  | .fin s1 m1 e1, .fin s2 m2 e2 =>
    let (v, _) := addExact s1 m1 e1 (!s2) m2 e2
    if v < 0 then -1 else if v = 0 then 0 else 1

/-- Is the value below another in the order of R100, which puts −0 below +0? -/
def Fv.below (x y : Fv) : Bool :=
  match x, y with
  | .fin s1 0 _, .fin s2 0 _ => s1 && !s2
  | _, _ => x.compare y = -1

/-- The smaller or larger of two fp32 values under R100. A subnormal operand counts as zero (R97). -/
def fminmax (isMax : Bool) (a b : Word) : Word :=
  let x := read32 a
  let y := read32 b
  if x = .nan && y = .nan then nan32
  else if x = .nan then y.to32
  else if y = .nan then x.to32
  else if (if isMax then x.below y else y.below x) then y.to32 else x.to32

def fmin (a b : Word) : Word := fminmax false a b
def fmax (a b : Word) : Word := fminmax true a b

def isNan32 (w : Word) : Bool := read32 w = .nan
def feq (a b : Word) : Bool := !isNan32 a && !isNan32 b && (read32 a).compare (read32 b) = 0
def fne (a b : Word) : Bool := !feq a b
def flt (a b : Word) : Bool := !isNan32 a && !isNan32 b && (read32 a).compare (read32 b) = -1
def fle (a b : Word) : Bool := !isNan32 a && !isNan32 b && (read32 a).compare (read32 b) ≤ 0

/-- Bit 31 cleared; bit 31 inverted (R110). -/
def fabs (b : Word) : Word := b &&& 0x7FFFFFFF
def fneg (b : Word) : Word := b ^^^ 0x80000000

/-- The integer ⌊± m × 2^e⌋. -/
def floorInt (neg : Bool) (m : Nat) (e : Int) : Int :=
  let v : Int := if neg then -(m : Int) else m
  if 0 ≤ e then v * (2 ^ e.toNat : Nat) else v / (2 ^ (-e).toNat : Nat)

/-- floor(b) in fp32; a zero result keeps the sign of b. -/
def ffloor (b : Word) : Word :=
  match read32 b with
  | .nan => nan32
  | .inf s => inf32 s
  | .fin s m e =>
    let v := floorInt s m e
    if v = 0 then zero32 s else round32 (decide (v < 0)) v.natAbs 0

/-- b − floor(b), a result of 1.0 given as 0x3F7F_FFFF (R110). -/
def ffrac (b : Word) : Word :=
  let r := fsub b (ffloor b)
  if r = 0x3F800000 then 0x3F7FFFFF else r

/-- b clamped to 0–1; NaN gives +0 (R110). DESIGN CHOICE: −0 stays −0; the manual does not state the sign (assumption log 198). -/
def fsat (b : Word) : Word :=
  match read32 b with
  | .nan => 0
  | .inf s => if s then 0 else 0x3F800000
  | .fin s m e =>
    if s then (if m = 0 then zero32 true else 0)
    else if (Fv.fin s m e).compare (.fin false 1 0) = 1 then 0x3F800000 else round32 s m e

/-! ### Conversions (R101) -/

/-- An integer as fp32. -/
def intTo32 (v : Int) : Word := round32 (decide (v < 0)) v.natAbs 0

def i2f (b : Word) : Word := intTo32 b.toInt
def u2f (b : Word) : Word := intTo32 (b.toNat : Int)

/-- An integer saturated to 32 bits. -/
def satI32 (v : Int) : Word :=
  if v < -(2 ^ 31 : Int) then 0x80000000 else if (2 ^ 31 : Int) ≤ v then 0x7FFFFFFF else BitVec.ofInt 32 v

/-- The integer that ± m × 2^e rounds to, ties to even. -/
def rneInt (neg : Bool) (m : Nat) (e : Int) : Int :=
  let v : Nat := if 0 ≤ e then m * 2 ^ e.toNat else shiftRne m (-e).toNat
  if neg then -(v : Int) else v

/-- Truncated toward zero. -/
def truncInt (neg : Bool) (m : Nat) (e : Int) : Int :=
  let v : Nat := if 0 ≤ e then m * 2 ^ e.toNat else m / 2 ^ (-e).toNat
  if neg then -(v : Int) else v

/-- A conversion to int32 with the rounding given (R101). -/
def toI32 (rnd : Bool → Nat → Int → Int) (b : Word) : Word :=
  match read32 b with
  | .nan => 0
  | .inf s => if s then 0x80000000 else 0x7FFFFFFF
  | .fin s m e =>
    -- beyond ± 2^32 the result saturates whatever the rounding
    if (Fv.fin false m e).compare (.fin false 1 32) = 1 then (if s then 0x80000000 else 0x7FFFFFFF)
    else satI32 (rnd s m e)

def f2i (b : Word) : Word := toI32 truncInt b
def f2if (b : Word) : Word := toI32 floorInt b
def f2ir (b : Word) : Word := toI32 rneInt b

/-! ### fp16 (R98) -/

abbrev Half := BitVec 16

def nan16 : Half := 0x7E00
def inf16 (neg : Bool) : Half := if neg then 0xFC00 else 0x7C00
def zero16 (neg : Bool) : Half := if neg then 0x8000 else 0

/-- fp16 with its subnormals. -/
def read16 (w : Half) : Fv :=
  let n := w.toNat
  let s := n.testBit 15
  let e : Nat := n / 2 ^ 10 % 32
  let f := n % 2 ^ 10
  if e = 31 then (if f = 0 then .inf s else .nan)
  else if e = 0 then .fin s f (-24)
  else .fin s (2 ^ 10 + f) ((e : Int) - 25)

/-- ± m × 2^e rounded to fp16 to nearest, ties to even, with subnormal results. -/
def round16 (neg : Bool) (m : Nat) (e : Int) : Half :=
  if m = 0 then zero16 neg
  else
    let n := bitLen m
    let q : Int := max (e + (n : Int) - 11) (-24)
    let r := if e < q then shiftRne m (q - e).toNat else m * 2 ^ (e - q).toNat
    let (r, q) := if r = 2 ^ 11 then (2 ^ 10, q + 1) else (r, q)
    if 5 < q then inf16 neg
    else if r < 2 ^ 10 then BitVec.ofNat 16 ((if neg then 2 ^ 15 else 0) + r)
    else BitVec.ofNat 16 ((if neg then 2 ^ 15 else 0) + (q + 25).toNat * 2 ^ 10 + (r - 2 ^ 10))

def Fv.to16 : Fv → Half
  | .nan => nan16
  | .inf s => inf16 s
  | .fin s m e => round16 s m e

def add16 (x y : Fv) : Half :=
  match x, y with
  | .nan, _ => nan16
  | _, .nan => nan16
  | .inf s, .inf t => if s = t then inf16 s else nan16
  | .inf s, .fin .. => inf16 s
  | .fin .., .inf s => inf16 s
  | .fin s1 m1 e1, .fin s2 m2 e2 =>
    let (v, e) := addExact s1 m1 e1 s2 m2 e2
    if v = 0 then zero16 (s1 && s2) else round16 (decide (v < 0)) v.natAbs e

def hadd (a b : Half) : Half := add16 (read16 a) (read16 b)
def hsub (a b : Half) : Half := add16 (read16 a) (read16 b).neg
def hmul (a b : Half) : Half := (mulExact (read16 a) (read16 b)).to16
def hfma (a b d : Half) : Half := add16 (mulExact (read16 a) (read16 b)) (read16 d)

/-- The smaller or larger fp16 value under R100. -/
def hminmax (isMax : Bool) (a b : Half) : Half :=
  let x := read16 a
  let y := read16 b
  if x = .nan && y = .nan then nan16
  else if x = .nan then b
  else if y = .nan then a
  else if (if isMax then x.below y else y.below x) then b else a

/-- An operation on both halves of packed words (R98). -/
def halves (op : Half → Half → Half) (a b : Word) : Word :=
  (op (a.setWidth 16) (b.setWidth 16)).setWidth 32 |||
    ((op ((a >>> 16).setWidth 16) ((b >>> 16).setWidth 16)).setWidth 32 <<< 16)

/-- The same with a third operand. -/
def halves3 (op : Half → Half → Half → Half) (a b d : Word) : Word :=
  (op (a.setWidth 16) (b.setWidth 16) (d.setWidth 16)).setWidth 32 |||
    ((op ((a >>> 16).setWidth 16) ((b >>> 16).setWidth 16) ((d >>> 16).setWidth 16)).setWidth 32 <<< 16)

/-- fp32 of an fp16 value; every fp16 value, subnormals too, is a normal fp32 value or zero. -/
def h2f (h : Half) : Word := (read16 h).to32

/-- fp16 of an fp32 value (R98). -/
def f2h (w : Word) : Half := (read32 w).to16

/-! ### The special-function unit (R112) -/

/-- Fraction bits of the reference computations. -/
def sfuBits : Nat := 96

/-- √2, √√2, …: 2^(2^-i) for i = 1 … n, in fixed point with `sfuBits` fraction bits. -/
def exp2Roots : Nat → Nat → List Nat
  | 0, _ => []
  | n + 1, x =>
    let r := isqrt (x * 2 ^ sfuBits)
    r :: exp2Roots n r

/-- 2^f for f = frac / 2^k, 0 ≤ f < 1, in fixed point. -/
def exp2Frac (frac k : Nat) : Nat :=
  ((exp2Roots 60 (2 ^ (sfuBits + 1))).zipIdx).foldl
    (fun acc (r, i) => if i < k && frac.testBit (k - 1 - i) then acc * r / 2 ^ sfuBits else acc) (2 ^ sfuBits)

/-- The fraction bits of log2 of m / 2^sfuBits in [1, 2): n bits by repeated squaring. -/
def log2Frac : Nat → Nat → Nat → Nat
  | 0, _, acc => acc
  | n + 1, m, acc =>
    let q := m * m / 2 ^ sfuBits
    if 2 ^ (sfuBits + 1) ≤ q then log2Frac n (q / 2) (2 * acc + 1) else log2Frac n q (2 * acc)

/-- 2π with 96 fraction bits. -/
def twoPi : Nat := 0x6487ED5110B4611A62633145C

/-- sin of x (radians, 96 fraction bits, |x| ≤ π/2 + 1) by its power series. -/
def sinSeries (x : Int) : Int :=
  let sq := x * x / (2 ^ sfuBits : Nat)
  ((List.range 20).foldl (fun (st : Int × Int) i =>
    let term := -(st.1 * sq / (2 ^ sfuBits : Nat)) / (((2 * i + 2) * (2 * i + 3) : Nat) : Int)
    (term, st.2 + term)) (x, x)).2

/-- sin(2π × turn) for turn = n / 2^96 of a full turn, 0 ≤ n < 2^96. -/
def sinTurn (n : Nat) : Int :=
  let quarter := 2 ^ (sfuBits - 2)
  -- fold into the first quarter
  let (k, s) :=
    if n < quarter then (n, false)
    else if n < 2 * quarter then (2 * quarter - n, false)
    else if n < 3 * quarter then (n - 2 * quarter, true)
    else (4 * quarter - n, true)
  let v := sinSeries ((k * twoPi / 2 ^ sfuBits : Nat) : Int)
  if s then -v else v

/-- The fraction of a full turn that a finite fp32 value names, with 96 fraction bits (smaller bits are below every
bound of R112). -/
def turnOf (s : Bool) (m : Nat) (e : Int) : Nat :=
  let v := if 0 ≤ e then 0 else m * 2 ^ sfuBits / 2 ^ (-e).toNat % 2 ^ sfuBits
  if s then (2 ^ sfuBits - v) % 2 ^ sfuBits else v

/-- What R112 says about an SFU result: exactly one word, or every word whose value lies within `num` / 2^`den` of the
reference value (an integer over 2^96, times 2^exp). -/
inductive SfuRef where
  | exactly (w : Word)
  | within (value : Int) (exp : Int) (tol : Nat)
  deriving DecidableEq, Repr

/-- The distance of one ulp of the fp32 value nearest to v × 2^(exp − 96), in the units of v. -/
def ulpOf (v : Int) : Nat := 2 ^ (bitLen v.natAbs - 24)

/-- The reference of RCP: 1 / b. -/
def refRcp (b : Word) : SfuRef :=
  match read32 b with
  | .nan => .exactly nan32
  | .inf s => .exactly (zero32 s)
  | .fin s m e =>
    if m = 0 then .exactly (inf32 s)
    else
      let q : Int := (2 ^ (sfuBits + 24) / m : Nat)
      .within (if s then -q else q) (-e - 24) (ulpOf q)

/-- The reference of RSQ: 1 / √b. -/
def refRsq (b : Word) : SfuRef :=
  match read32 b with
  | .nan => .exactly nan32
  | .inf s => .exactly (if s then nan32 else 0)
  | .fin s m e =>
    if m = 0 then .exactly (inf32 s)
    else if s then .exactly nan32
    else
      -- an even exponent: 1/√(m 2^e) = √(2^(2·96 + 48) / m') × 2^(−96 − 24 − e'/2)
      let odd := e % 2 ≠ 0
      let m' := if odd then 2 * m else m
      let e' := if odd then e - 1 else e
      let q : Int := (isqrt (2 ^ (2 * sfuBits + 48) / m') : Nat)
      .within q (-24 - e' / 2) (ulpOf q)

/-- SQRT, correctly rounded. -/
def fsqrt (b : Word) : Word :=
  match read32 b with
  | .nan => nan32
  | .inf s => if s then nan32 else inf32 false
  | .fin s m e =>
    if m = 0 then zero32 s
    else if s then nan32
    else
      let odd := e % 2 ≠ 0
      let m' := (if odd then 2 * m else m) * 2 ^ 60
      let e' := (if odd then e - 1 else e) - 60
      let r := isqrt m'
      round32s false r (e' / 2) (decide (r * r ≠ m'))

/-- The reference of EXP2: 2^b. -/
def refExp2 (b : Word) : SfuRef :=
  match read32 b with
  | .nan => .exactly nan32
  | .inf s => .exactly (if s then 0 else inf32 false)
  | .fin s m e =>
    let x := Fv.fin s m e
    if x.compare (.fin true 126 0) = -1 then .exactly 0
    else if x.compare (.fin false 128 0) ≠ -1 then .exactly (inf32 false)
    else
      let i := floorInt s m e
      -- b − floor(b) in 60 fraction bits
      let v : Int := if s then -(m : Int) else m
      let scaled : Int := if 0 ≤ e then v * (2 ^ (e.toNat + 60) : Nat) else v * (2 ^ 60 : Nat) / (2 ^ (-e).toNat : Nat)
      let frac := (scaled - i * (2 ^ 60 : Nat)).toNat
      let q := exp2Frac frac 60
      .within q i (2 * ulpOf q)

/-- The reference of LOG2: log₂ b. -/
def refLog2 (b : Word) : SfuRef :=
  match read32 b with
  | .nan => .exactly nan32
  | .inf s => .exactly (if s then nan32 else inf32 false)
  | .fin s m e =>
    if m = 0 then .exactly (inf32 true)
    else if s then .exactly nan32
    else
      let n := bitLen m
      let k : Int := e + (n : Int) - 1
      let f := log2Frac 80 (m * 2 ^ (sfuBits + 1 - n)) 0 * 2 ^ (sfuBits - 80)
      let v : Int := k * (2 ^ sfuBits : Nat) + f
      -- outside 0.5 to 2.0 the bound is in ulp, inside it absolute
      if v < -(2 ^ sfuBits : Nat) || (2 ^ sfuBits : Nat) < v then .within v 0 (2 * ulpOf v)
      else .within v 0 (2 ^ (sfuBits - 22))

/-- The references of SINP and COSP: sin and cos of 2π × b. -/
def refSin (quarters : Nat) (b : Word) : SfuRef :=
  match read32 b with
  | .nan => .exactly nan32
  | .inf _ => .exactly nan32
  | .fin s m e => .within (sinTurn ((turnOf s m e + quarters * 2 ^ (sfuBits - 2)) % 2 ^ sfuBits)) 0 (2 ^ (sfuBits - 22))

/-- Does a word keep the bound? -/
def SfuRef.allows (r : SfuRef) (w : Word) : Bool :=
  match r with
  | .exactly x => w == x
  | .within v e tol =>
    match read32 w with
    | .fin s m ew =>
      -- |± m × 2^ew − v × 2^(e − 96)| ≤ tol × 2^(e − 96), at the lower of the two exponents
      let ev := e - (sfuBits : Int)
      let lowest := min ew ev
      let a : Int := (if s then -(m : Int) else m) * (2 ^ (ew - lowest).toNat : Nat)
      let c : Int := v * (2 ^ (ev - lowest).toNat : Nat)
      let t : Nat := tol * 2 ^ (ev - lowest).toNat
      -- subnormal words are no results (R97)
      decide ((a - c).natAbs ≤ t) && (w.toNat / 2 ^ 23 % 256 != 0 || w.toNat % 2 ^ 23 == 0)
    | _ => false

/-- The reference itself, correctly rounded. -/
def SfuRef.rounded : SfuRef → Word
  | .exactly w => w
  | .within v e _ => round32 (decide (v < 0)) v.natAbs (e - (sfuBits : Int))

/-- The SFU's result: the unit's own guess where it keeps the bound of R112, else the correctly rounded value. Any result
within the bound is thus possible and no other. -/
def SfuRef.pick (r : SfuRef) (guess : Word) : Word := if r.allows guess then guess else r.rounded

end Sys2Proof.Machine
end

