-- ==== Sys2Proof/Machine/Ray.lean ====
section
/-!
DEFINITION. What the cluster's shared units compute (R51–R86, R112–R119): calibration queries, view, depth and overlay
samples, the output path; and the output constant table (R121).
-/
namespace Sys2Proof.Machine

/-! ### Calibration (R52, R63–R66) -/

/-- The colour of a subpixel (R52): layout 0 RGB, 1 BGR, 2 DELTA1, 3 DELTA2. -/
def colourOf (layout xs y : Nat) : Nat :=
  match layout with
  | 1 => 2 - xs % 3
  | 2 => (xs + y % 2) % 3
  | 3 => (xs + 2 * (y % 2)) % 3
  | _ => xs % 3

/-- 2 × xc, twice the horizontal centre in subpixels (R52). -/
def xc2 (layout xs y : Nat) : Nat := 2 * xs + (if 2 ≤ layout && y % 2 = 1 then 4 else 1)

/-- Cells of a warp grid per row and per column (R64). -/
def warpCellsX (wsub : Nat) : Nat := ceilDiv wsub 32
def warpCellsY (h : Nat) : Nat := ceilDiv h 32

/-- A value of the warp grid at twice-coordinates (X, Y), times 4,096 (R65). `cell` gives the field of a cell's word. -/
def warpAt (c : CalibRec) (cell : BitVec 64 → Int) (X Y : Nat) : Int :=
  let gx : Int := (X : Int) - 32
  let gy : Int := (Y : Int) - 32
  let ix := gx / 64
  let iy := gy / 64
  let fx := gx % 64
  let fy := gy % 64
  let clampTo (n : Nat) (i : Int) : Nat := min i.toNat (n - 1)
  let v (a b : Int) : Int := cell (c.warp.getD (clampTo c.cellsY b * c.cellsX + clampTo c.cellsX a) 0)
  (64 - fy) * ((64 - fx) * v ix iy + fx * v (ix + 1) iy) + fy * ((64 - fx) * v ix (iy + 1) + fx * v (ix + 1) (iy + 1))

def cellDu (w : BitVec 64) : Int := signedOf 16 w.toNat
def cellDv (w : BitVec 64) : Int := signedOf 16 (w.toNat / 2 ^ 16)
def cellGain (w : BitVec 64) : Int := ((w.toNat / 2 ^ 32 % 2 ^ 16 : Nat) : Int)

/-- The warp gain times 4,096 × 16,384 (R65). -/
def warpGain (c : CalibRec) (X Y : Nat) : Nat := (warpAt c cellGain X Y).toNat

/-- frac(num / den + phase + corr + err) × n rounded down, with num / den in periods, phase in 2⁻³², corr in 2⁻²⁸ (a warp
value times 4,096) and err in 2⁻⁸⁷ periods (R63, R66). -/
def phaseIndex (num : Int) (den : Nat) (phase : Nat) (corr err : Int) (n : Nat) : Nat :=
  let d : Int := ((den * 2 ^ 87 : Nat) : Int)
  let z : Int := num * ((2 ^ 87 : Nat) : Int) + (den : Int) * ((phase * 2 ^ 55 : Nat) + corr * ((2 ^ 59 : Nat) : Int) + err)
  ((z % d) * (n : Int) / d).toNat

/-- The error of a lens phase, within 2⁻²⁴ period (R63), in 2⁻⁸⁷ periods. -/
def phaseErr (o : Output) (xs y : Nat) (v : Bool) : Int := (Config.phaseError o.val xs y v).toInt

/-- The entry of the angular map for a subpixel (R63, R66). `lensArray` is the lens type in effect: RAY_OUT_CFG lens_array, which
the CALIB record sets and a write changes at the next tick (R89; assumption log 194). With a pitch_v of 0, which no rule
excludes for a lens that the record calls lenticular, the row is free. -/
def angularIndex (o : Output) (lensArray : Bool) (c : CalibRec) (X Y xs y : Nat) : Nat :=
  let pu := phaseIndex (((X : Int) * c.slantDen - (Y : Int) * c.slantNum) * 65536) (2 * c.slantDen * c.pitchU) c.phaseU0
    (warpAt c cellDu X Y) (phaseErr o xs y false)
  if !lensArray then pu 1024
  else if c.pitchV = 0 then (Config.phaseError o.val xs y true).toNat % 32 * 32 + pu 32
  else
    let pv := phaseIndex ((Y : Int) * 65536) (2 * c.pitchV) c.phaseV0 (warpAt c cellDv X Y) (phaseErr o xs y true)
    pv 32 * 32 + pu 32

/-- The stripe layout and the lens type of an output in effect since its tick (R89). -/
def State.layoutNow (s : State) (o : Output) : Nat := bits (s.out o).render.cfg.toNat 5 4
def State.lensNow (s : State) (o : Output) : Bool := bit (s.out o).render.cfg.toNat 12

/-- The eight registers of CALQ for a subpixel (R113). -/
def State.calibQuery (s : State) (o : Output) (xs y : Nat) : List Word :=
  let layout := s.layoutNow o
  let c := s.calib o
  let X := xc2 layout xs y
  let Y := 2 * y + 1
  let e := c.amap.getD (angularIndex o (s.lensNow o) c X Y xs y) 0
  let h (k : Nat) : Word := h2f ((e >>> (16 * k)).setWidth 16)
  [BitVec.ofNat 32 (colourOf layout xs y), ratio32 X 2, ratio32 Y 2, h 0, h 1, h 2, h 3,
   ratio32 (warpGain c X Y : Int) (4096 * 16384)]

/-! ### Transfer functions (R57) -/

/-- The greatest r below 2^k with r^5 ≤ n. -/
def root5 (n k : Nat) : Nat :=
  (List.range k).foldl (fun r i =>
    let c := r + 2 ^ (k - 1 - i)
    if c ^ 5 ≤ n then c else r) 0

/-- The linear value of an sRGB code k of a scale 0 … top (IEC 61966-2-1), rounded to fp32 (R115). -/
def srgb32 (k top : Nat) : Word :=
  if k * 100000 ≤ 4045 * top then ratio32 (k * 100 : Nat) (1292 * top)
  else
    -- ((k / top + 0.055) / 1.055)^(12/5), in 96 fraction bits
    let n := 1000 * k + 55 * top
    let d := 1055 * top
    round32s false (root5 (n ^ 12 * 2 ^ (5 * 96) / d ^ 12) 98) (-96) true

/-- An entry of an output's decode table (R57). RAYMODE and CALIB are admitted with either length of table; a code past the
end of the table has no stated value: a free value (assumption log 195). -/
def tableValue (c : CalibRec) (code : Nat) : Word :=
  match c.decode[code]? with
  | some h => h2f h
  | none => Config.ovlTable code

/-- The linear value of a colour code of a view (R57): 8 bits for RGB888, 10 bits for RGB101010. -/
def linear (r : RaymodeRec) (c : CalibRec) (code : Nat) : Word :=
  let top := if r.format = 0 then 255 else 1023
  match r.transfer with
  | 0 => srgb32 code top
  | 1 => ratio32 (code : Int) top
  | _ => tableValue c code

/-- The linear value of an 8-bit component of an overlay (R78, R118). With a table of 1,024 entries the manual names no
entry for an 8-bit code: a free value. -/
def overlayLinear (r : RaymodeRec) (c : CalibRec) (code : Nat) : Word :=
  match r.transfer with
  | 0 => srgb32 code 255
  | 1 => ratio32 (code : Int) 255
  | _ => if r.format = 0 then tableValue c code else Config.ovlTable code

/-! ### View cache -/

/-- The line of a space that holds an offset. -/
def cacheKeyOf (sp off : Nat) : CacheKey := { space := Fin.ofNat 16 sp, line := off / 64 }

def State.cacheLine? (s : State) (cl : Nat) (k : CacheKey) : Option Bytes :=
  (((s.caches.toList).getD cl []).find? (·.key = k)).map (·.data)

/-- The lines that hold n bytes from an offset. -/
def linesOf (sp off n : Nat) : List CacheKey :=
  if n = 0 then []
  else (List.range ((off + n - 1) / 64 + 1 - off / 64)).map fun i => cacheKeyOf sp (off + 64 * i)

/-- n bytes as the cluster's cache holds them; a line that is not there gives nothing. -/
def State.cached (s : State) (cl sp off n : Nat) : Bytes :=
  (List.range n).map fun i =>
    match s.cacheLine? cl (cacheKeyOf sp (off + i)) with
    | some l => l.getD ((off + i) % 64) 0
    | none => 0

/-- The linear value of one colour of a texel of a view on display (R55, R57). -/
def State.texel (s : State) (cl : Nat) (o : Output) (view x y colour : Nat) : Word :=
  let r := s.raymode o
  let off := s.displayBase o + texelOffset r view x y
  let code :=
    if r.format = 0 then leNat (s.cached cl o.val (off + colour) 1)
    else bits (leNat (s.cached cl o.val off 4)) (10 * colour + 9) (10 * colour)
  linear r (s.calib o) code

/-- The depth code of a texel (R55). -/
def State.depthAt (s : State) (cl : Nat) (o : Output) (view x y : Nat) : Word :=
  BitVec.ofNat 32 (leNat (s.cached cl o.val (s.displayBase o + depthOffset (s.raymode o) view x y) 2))

/-! ### Sample positions (R60, R61, R115) -/

/-- A sample position clamped to 0 … top: NaN and negative values give 0, larger ones `top`. -/
def clampPos (top : Nat) (w : Word) : Word :=
  match read32 w with
  | .nan => 0
  | .inf s => if s then 0 else ratio32 top 1
  | .fin s m e =>
    if s || m = 0 then 0
    else if (Fv.fin false m e).compare (.fin false top 0) = 1 then ratio32 top 1 else w

/-- ⌊w⌋ of a clamped position. -/
def posFloor (w : Word) : Nat :=
  match read32 w with
  | .fin s m e => (floorInt s m e).toNat
  | _ => 0

/-- ⌊w + 0.5⌋ of a clamped position. -/
def posNearest (w : Word) : Nat :=
  match read32 w with
  | .fin s m e =>
    let (v, x) := addExact s m e false 1 (-1)
    (floorInt (decide (v < 0)) v.natAbs x).toNat
  | _ => 0

/-- An int32 texel index clamped to 0 … top. -/
def clampIdx (top : Nat) (w : Word) : Nat := min w.toInt.toNat top

/-- Grid column and fraction of a view-grid coordinate (R61). -/
def gridPos (n : Nat) (w : Word) : Nat × Word :=
  let c := clampPos (n - 1) w
  let k := posFloor c
  let k := if k = n - 1 && 2 ≤ n then n - 2 else k
  if n = 1 then (0, 0) else (k, fsub c (ratio32 k 1))

/-- The four weights of fractions fx, fy in the order of R61 and R115: (1 − fx)(1 − fy), fx(1 − fy), (1 − fx)fy, fx fy. -/
def weights4 (fx fy : Word) : List Word :=
  let one : Word := 0x3F800000
  let gx := fsub one fx
  let gy := fsub one fy
  [fmul gx gy, fmul fx gy, fmul gx fy, fmul fx fy]

/-- The weighted sum: +0, then fused multiply-adds in order (R115). -/
def accumulate (ws ts : List Word) : Word := (ws.zip ts).foldl (fun acc (w, t) => ffma w t acc) 0

/-- One texel of a sample: view, column, row. -/
abbrev Texel := Nat × Nat × Nat

/-- The texels and weights of an angular-bilinear sample (R61): operands u, v, column, row. -/
def angularTexels (r : RaymodeRec) (ops : List Word) : List Texel × List Word :=
  let (u0, fu) := gridPos r.nu (ops.getD 0 0)
  let (v0, fv) := gridPos r.nv (ops.getD 1 0)
  let x := clampIdx (r.vw - 1) (ops.getD 2 0)
  let y := clampIdx (r.vh - 1) (ops.getD 3 0)
  let u1 := if r.nu = 1 then 0 else u0 + 1
  let v1 := if r.nv = 1 then 0 else v0 + 1
  ([(v0 * r.nu + u0, x, y), (v0 * r.nu + u1, x, y), (v1 * r.nu + u0, x, y), (v1 * r.nu + u1, x, y)], weights4 fu fv)

/-- The texels and weights of a spatial-bilinear sample (R115): operands view, sx, sy. -/
def spatialTexels (r : RaymodeRec) (ops : List Word) : List Texel × List Word :=
  let view := (ops.getD 0 0).toNat
  let sx := clampPos (r.vw - 1) (ops.getD 1 0)
  let sy := clampPos (r.vh - 1) (ops.getD 2 0)
  let x0 := posFloor sx
  let y0 := posFloor sy
  let x1 := min (x0 + 1) (r.vw - 1)
  let y1 := min (y0 + 1) (r.vh - 1)
  ([(view, x0, y0), (view, x1, y0), (view, x0, y1), (view, x1, y1)],
    weights4 (fsub sx (ratio32 x0 1)) (fsub sy (ratio32 y0 1)))

/-- The depth texel of SMPCD (nearest to sx, sy) or SMPD (column, row), clamped (R115). -/
def depthTexel (r : RaymodeRec) (op : Nat) (ops : List Word) : Texel :=
  let view := (ops.getD 0 0).toNat
  if op = 0x73 then
    (view, min (posNearest (clampPos (r.vw - 1) (ops.getD 1 0))) (r.vw - 1),
      min (posNearest (clampPos (r.vh - 1) (ops.getD 2 0))) (r.vh - 1))
  else (view, clampIdx (r.vw - 1) (ops.getD 1 0), clampIdx (r.vh - 1) (ops.getD 2 0))

/-- The colour texels and weights of a sample by opcode; a depth point reads none. -/
def colourTexels (r : RaymodeRec) (op : Nat) (ops : List Word) : List Texel × List Word :=
  if op = 0x71 then angularTexels r ops
  else if op = 0x74 then ([], [])
  else spatialTexels r ops

/-- The colour operand of a sample. -/
def sampleColour (op : Nat) (ops : List Word) : Word := if op = 0x71 then ops.getD 4 0 else ops.getD 3 0

/-- Does a lane of a sample raise VIEW_RANGE (R116)? -/
def sampleBad (r : RaymodeRec) (op : Nat) (ops : List Word) : Bool :=
  (op != 0x74 && decide (2 < (sampleColour op ops).toNat)) ||
    (op != 0x71 && decide (r.nu * r.nv ≤ (ops.getD 0 0).toNat)) ||
    ((op == 0x73 || op == 0x74) && !r.depth)

/-! ### Overlay texels (R78, R118) -/

/-- Is an overlay plane enabled in this frame: by the mask in effect (R89), or as the card plane while the card is shown
(R412)? -/
def State.planeEnabled (s : State) (o : Output) (p : Nat) : Bool :=
  (bits (s.out o).render.ovl.toNat 7 4).testBit p ||
    ((s.out o).render.cardShown && decide (s.fld (BLT_CARD_plane o.val) = p))

/-- Offset of the overlay texel that a lane reads; none outside the plane or for a plane that is not enabled. -/
def State.overlayAt (s : State) (o : Output) (p : Nat) (ops : List Word) : Option Nat :=
  let r := s.outRec o
  let x := (ops.getD 0 0).toInt
  let y := (ops.getD 1 0).toInt
  if s.planeEnabled o p && decide (0 ≤ x) && decide (x < r.width) && decide (0 ≤ y) && decide (y < r.lines) then
    some (s.ovlBase o p (s.frontBuf o p) + y.toNat * ovlPitch r.width + 4 * x.toNat)
  else none

/-- Colour and alpha of OVL in one lane (R118). ARGB8888 is a little-endian word with alpha in [31:24]. -/
def State.overlayTexel (s : State) (cl : Nat) (o : Output) (p : Nat) (ops : List Word) : Word × Word :=
  match s.overlayAt o p ops with
  | none => (0, 0)
  | some off =>
    let w := leNat (s.cached cl spOVL off 4)
    let k := (ops.getD 2 0).toNat
    (overlayLinear (s.raymode o) (s.calib o) (bits w (23 - 8 * k) (16 - 8 * k)), ratio32 (bits w 31 24 : Int) 255)

/-! ### The output path (R82, R85, R86) -/

/-- Is k ≤ lo + d × (s − i) + 1/2, where s² = n / 2^x? With c = 2 × (k − lo) − 1 + 2 × d × i this is 2 × d × s ≥ c, decided
by squares. -/
def reaches (lo d : Int) (i n x : Nat) (k : Int) : Bool :=
  let c := 2 * (k - lo) - 1 + 2 * d * i
  let lhs : Int := 4 * d * d * n
  let rhs : Int := c * c * (2 ^ x : Nat)
  if 0 ≤ d then decide (c ≤ 0) || decide (rhs ≤ lhs) else decide (c ≤ 0) && decide (lhs ≤ rhs)

/-- floor(lo + (hi − lo) × (s − i) + 1/2) exactly, for s² = n / 2^x and i = floor(s): the fraction to 16 bits gives the value
to within one. -/
def lutValue (lo hi : Int) (i n x : Nat) : Nat :=
  let f : Nat := isqrt (n * 2 ^ 32 / 2 ^ x) - i * 2 ^ 16
  let k : Int := (lo * (2 ^ 16 : Nat) + (f : Int) * (hi - lo) + (2 ^ 15 : Nat)) / (2 ^ 16 : Nat)
  let ok := reaches lo (hi - lo) i n x
  (if ok (k + 1) then k + 1 else if ok k then k else k - 1).toNat

/-- The 16-bit gamma value of a linear value times gain (2⁻²⁶) times brightness (2⁻¹⁵) through a table (R82), exactly. -/
def gammaValue (L : Word) (gain bright : Nat) (lut : Nat → Nat) : Nat :=
  match read32 L with
  | .nan => lut 0
  | .inf s => if s || gain * bright = 0 then lut 0 else lut 1024
  | .fin sg m e =>
    if sg || m * gain * bright = 0 then lut 0
    else
      -- L' = m × gain × bright × 2^(e − 41); s² = L' × 2^20
      let n := m * gain * bright
      let x := e - 41
      if (Fv.fin false n x).compare (.fin false 1 0) ≠ -1 then lut 1024
      else
        let n := n * 2 ^ 20
        let x := (-x).toNat
        let i := isqrt (n / 2 ^ x)
        lutValue (lut i) (lut (i + 1)) i n x

/-- The dither matrix B4 (R85). -/
def ditherB4 (x y : Nat) : Nat :=
  ([[0, 8, 2, 10], [12, 4, 14, 6], [3, 11, 1, 9], [15, 7, 13, 5]].getD (y % 4) []).getD (x % 4) 0

/-- The column code of a 16-bit value (R85): dither 0 ROUND, 1 SPATIAL, 2 and 3 SPATIOTEMPORAL. -/
def columnCode (out8 : Bool) (dither xs y frame v : Nat) : Nat :=
  let b := if out8 then 8 else 10
  if dither = 0 then min ((v + 2 ^ (15 - b)) / 2 ^ (16 - b)) (2 ^ b - 1)
  else
    let r := if dither = 1 then 0 else [0, 2, 3, 1].getD (frame % 4) 0
    let t := 4 * ditherB4 xs y + r
    let q := if out8 then v / 256 else v / 64
    let e := if out8 then v % 256 / 4 else v % 64
    min (q + (if t < e then 1 else 0)) (2 ^ b - 1)

/-- The line-buffer entry of a subpixel (R82, R85, R86). -/
def State.lineEntry (s : State) (o : Output) (L : Word) (xs y : Nat) : BitVec 16 :=
  let cfg := (s.out o).render.cfg.toNat
  let layout := bits cfg 5 4
  let c := s.calib o
  let set := s.fld (RAY_BAND_LUT_lut_set o.val)
  let base := set * 3075 + colourOf layout xs y * 1025
  let bright := min ((s.out o).render.bright.toNat % 2 ^ 16) 0x8000
  let v := gammaValue L (warpGain c (xc2 layout xs y) (2 * y + 1)) bright fun i => (c.luts.getD (base + i) 0).toNat
  BitVec.ofNat 16 (columnCode (bits cfg 8 8 = 1) (bits cfg 7 6) xs y (s.fld (SCN_FRAME_counter o.val)) v)

/-- The ring slot of an entry (R254). -/
def State.ringIndex (s : State) (o : Output) (xs y : Nat) : Nat := (y % 48) * s.wsub o + xs

/-! ### The output constant table (R121) -/

/-- An int32 word. -/
def i32 (v : Int) : Word := BitVec.ofInt 32 v

/-- Word 15 bit 3: positions stale, or no eye present (R77). -/
def State.positionsStale (s : State) (o : Output) : Bool := s.fld (RAY_TRACK_STAT_stale o.val) = 1

/-- The constant table of a frame (R121), from the records, the configuration in effect and the position set. -/
def State.constTable (s : State) (o : Output) : Sparse Word :=
  let r := s.raymode o
  let wsub := s.wsub o
  let h := s.lines o
  let cfg := (s.out o).render.cfg.toNat
  let ovl := (s.out o).render.ovl.toNat
  let pitch := (s.panelRec o).pitch
  let dp (p : Nat) : Nat := (r.planes.getD p {}).dp
  let enable := (List.range 4).foldl (fun m p => m + b2n (s.planeEnabled o p) * 2 ^ p) 0
  let card := if (s.out o).render.cardShown then 2 ^ s.fld (BLT_CARD_plane o.val) else 0
  let depthTest := bits ovl 11 8 - (if (bits ovl 11 8).testBit (s.fld (BLT_CARD_plane o.val)) then card else 0)
  let flags := bits cfg 12 12 + 2 * b2n r.depth + 4 * bits cfg 2 2 + 8 * b2n (s.positionsStale o)
  let head : List (Nat × Word) :=
    [(0, i32 wsub), (1, i32 h), (2, i32 r.vw), (3, i32 r.vh), (4, i32 r.nu), (5, i32 r.nv),
     (6, ratio32 r.vw wsub), (7, ratio32 r.vh h), (8, ratio32 ((r.nu : Int) - 1) 2), (9, ratio32 ((r.nv : Int) - 1) 2),
     (10, ratio32 r.xtalk 65536), (11, ratio32 r.depthTol 64), (12, r.tanU), (13, r.tanV), (14, i32 r.confMin),
     (15, i32 flags), (16, ratio32 r.refX 2), (17, ratio32 r.refY 2)]
  -- the PANEL record gives the pitch in mm, unsigned 16.16
  let mid : List (Nat × Word) := [(18, ratio32 pitch (3 * 65536)), (19, ratio32 pitch 65536)]
  let planes : List (Nat × Word) :=
    ((List.range 4).map fun p => (20 + p, ratio32 ((dp p : Int) - 32768) 64)) ++
    ((List.range 4).map fun p => (24 + p, ratio32 (((dp p : Int) - 32768) * (wsub / 3 : Nat)) (64 * r.vw)))
  let tail : List (Nat × Word) :=
    [(28, i32 enable), (29, i32 depthTest), (30, ratio32 wsub 2), (31, ratio32 h 2)]
  let eyes : List (Nat × Word) :=
    match (s.out o).render.posSet with
    | none => (List.range 16).flatMap fun e =>
        -- before any TRACK no position exists: the coordinates are free (assumption log 45)
        ((List.range 3).map fun k => (32 + 4 * e + k, (Config.free (s.fresh + 3 * e + k)).setWidth 32)) ++
          [(35 + 4 * e, i32 (-1))]
    | some p => (List.range 64).map fun k => (32 + k, p.words.getD k 0)
  let user : List (Nat × Word) := (List.range 32).map fun k => (96 + k, r.user.getD k 0)
  (head ++ mid ++ planes ++ tail ++ eyes ++ user).foldl (fun m (k, w) => Sparse.set m k w) []

end Sys2Proof.Machine
end

