-- ==== Sys2Proof/Machine/RayUnits.lean ====
section
/-!
DEFINITION. Results of the shared units (R92, R105, R109, R113–R119), view-cache fills (R117), the watchdog (R125), and a
cluster leaving service (R126, R189).
-/
namespace Sys2Proof.Machine

/-- Is lane i of a request active? -/
def reqLane (r : UnitReq) (i : Nat) : Bool := r.active.getLsbD i

/-- The operands of lane i. -/
def reqOps (r : UnitReq) (i : Nat) : List Word := r.ops.getD i []

/-- The active lanes of a request. -/
def reqLanes (r : UnitReq) : List Nat := lanes.filter (reqLane r)

/-- The bytes of view store or overlay that lane i of a request reads: space, offset, length. -/
def State.laneReads (s : State) (o : Output) (r : UnitReq) (i : Nat) : List (Nat × Nat × Nat) :=
  let rm := s.raymode o
  let ops := reqOps r i
  match r.unit with
  | .sample =>
    if sampleBad rm r.op ops then []
    else
      let base := s.displayBase o
      let colour := (sampleColour r.op ops).toNat
      (colourTexels rm r.op ops).1.map (fun (v, x, y) =>
        let off := base + texelOffset rm v x y
        if rm.format = 0 then (o.val, off + colour, 1) else (o.val, off, 4)) ++
      (if r.op = 0x73 || r.op = 0x74 then
        let (v, x, y) := depthTexel rm r.op ops
        [(o.val, base + depthOffset rm v x y, 2)]
      else [])
  | .overlay =>
    if decide (2 < (ops.getD 2 0).toNat) then []
    else match s.overlayAt o r.b ops with
      | some off => [(spOVL, off, 4)]
      | none => []
  | _ => []

/-- The view-cache lines that a request needs. -/
def State.reqLines (s : State) (o : Output) (r : UnitReq) : List CacheKey :=
  (reqLanes r).flatMap fun i => (s.laneReads o r i).flatMap fun (sp, off, n) => linesOf sp off n

/-! ### Requests that read DRAM (R105, R114, R118, R225) -/

/-- The physical unit of a view-cache line, where the Innkeeper maps it. -/
def State.lineUnit (s : State) (k : CacheKey) : Option Nat := (s.phys? k.space.val (64 * k.line)).map (· / 64)

/-- A cluster's read of a line waits at its channel, behind the class A reads that came before (R225). -/
def State.queueFill (cl : Cluster) (s : State) (k : CacheKey) : State :=
  match s.lineUnit k with
  | none => s
  | some u =>
    let c := s.unitChannel u
    let d := s.dch c
    if d.fills.contains (cl, k) then s
    else s.setDch c { d with fills := d.fills.filter s.fillStands ++ [(cl, k)] }

/-- The lines that an engine's latest request lacks are read as class A. -/
def State.queueFills (s : State) (e : EngineId) : State :=
  let cl : Cluster := Fin.ofNat 32 (clusterOf e)
  match (s.engine? e).bind fun g => g.reqs.getLast?.map fun r => s.reqLines g.out r with
  | none => s
  | some l => (l.filter fun k => (s.cacheLine? cl.val k).isNone).foldl (State.queueFill cl) s

/-- A texture instruction: its request is queued at the unit, its missing lines at their channels. -/
def State.texOp (s : State) (e : EngineId) (sh : Shape) (f : Form) (u : SharedUnit) (op : Nat)
    (operands : Engine → Nat → List Word) : State :=
  (s.unitOp e sh f u op operands).queueFills e

/-- SMPA (R114): an angular-bilinear sample. -/
def execSmpa (e : EngineId) (f : Form) (s : State) : Host.Outcome State Fault Refusal :=
  .next (s.texOp e .smpa f .sample 0x71 fun g i =>
    [g.vreg f.a.val i, g.vreg (f.a.val + 1) i, g.vreg (f.a.val + 2) i, g.vreg (f.a.val + 3) i, g.opB f i])

/-- SMPS (R114): a spatial-bilinear sample. -/
def execSmps (e : EngineId) (f : Form) (s : State) : Host.Outcome State Fault Refusal :=
  .next (s.texOp e .smps f .sample 0x72 fun g i =>
    [g.vreg f.a.val i, g.vreg (f.a.val + 1) i, g.vreg (f.a.val + 2) i, g.opB f i])

/-- SMPCD (R114): a colour and depth sample. -/
def execSmpcd (e : EngineId) (f : Form) (s : State) : Host.Outcome State Fault Refusal :=
  .next (s.texOp e .smpcd f .sample 0x73 fun g i =>
    [g.vreg f.a.val i, g.vreg (f.a.val + 1) i, g.vreg (f.a.val + 2) i, g.opB f i])

/-- SMPD (R114): a depth point. -/
def execSmpd (e : EngineId) (f : Form) (s : State) : Host.Outcome State Fault Refusal :=
  .next (s.texOp e .smpd f .sample 0x74 fun g i =>
    [g.vreg f.a.val i, g.vreg (f.a.val + 1) i, g.vreg (f.a.val + 2) i])

/-- OVL (R118): a texel of an overlay plane. -/
def execOvl (e : EngineId) (f : Form) (s : State) : Host.Outcome State Fault Refusal :=
  .next (s.texOp e .ovl f .overlay 0x75 fun g i =>
    [g.vreg f.a.val i, g.vreg (f.a.val + 1) i, g.vreg (f.a.val + 2) i])

/-! ### Results (R109, R113–R119) -/

/-- The trap of a request's active lanes, 0 for none: VIEW_RANGE (R116, R118), POS_RANGE (R113, R119). -/
def State.reqTrap (s : State) (g : Engine) (r : UnitReq) : Nat :=
  let rm := s.raymode g.out
  let bad (p : List Word → Bool) (code : Nat) : Nat := if (reqLanes r).any fun i => p (reqOps r i) then code else 0
  let outside (x y : Word) (x0 x1 y0 y1 : Nat) : Bool :=
    x.toInt < x0 || (x1 : Int) ≤ x.toInt || y.toInt < y0 || (y1 : Int) ≤ y.toInt
  match r.unit with
  | .sample => bad (sampleBad rm r.op) 4
  | .overlay => bad (fun ops => decide (2 < (ops.getD 2 0).toNat)) 4
  | .calib => bad (fun ops => outside (ops.getD 0 0) (ops.getD 1 0) 0 (s.wsub g.out) 0 (s.lines g.out)) 5
  | .output =>
    bad (fun ops => outside (ops.getD 1 0) (ops.getD 2 0) g.xs0 (g.xs0 + g.w) g.y0 (g.y0 + 8)) 5
  | .sfu => 0

/-- The values that a request writes in lane i, for v[d], v[d + 1], …; none for OUT. -/
def State.reqValues (s : State) (cl : Nat) (g : Engine) (r : UnitReq) (i : Nat) : List Word :=
  let ops := reqOps r i
  let rm := s.raymode g.out
  let colour := (sampleColour r.op ops).toNat
  let b := ops.getD 0 0
  match r.unit with
  | .sfu =>
    match r.op with
    | 0x68 => [(refRcp b).pick (Config.sfuGuess r.op b)]
    | 0x69 => [(refRsq b).pick (Config.sfuGuess r.op b)]
    | 0x6A => [fsqrt b]
    | 0x6B => [(refExp2 b).pick (Config.sfuGuess r.op b)]
    | 0x6C => [(refLog2 b).pick (Config.sfuGuess r.op b)]
    | 0x6D => [(refSin 0 b).pick (Config.sfuGuess r.op b)]
    | _ => [(refSin 1 b).pick (Config.sfuGuess r.op b)]
  | .calib => s.calibQuery g.out (ops.getD 0 0).toNat (ops.getD 1 0).toNat
  | .overlay =>
    let (c, a) := s.overlayTexel cl g.out r.b ops
    [c, a]
  | .sample =>
    let depth :=
      let (v, x, y) := depthTexel rm r.op ops
      s.depthAt cl g.out v x y
    let (ts, ws) := colourTexels rm r.op ops
    let value := accumulate ws (ts.map fun (v, x, y) => s.texel cl g.out v x y colour)
    if r.op = 0x74 then [depth] else if r.op = 0x73 then [value, depth] else [value]
  | .output => []

/-- The registers of a request's active lanes written (R94). -/
def writeResults (g : Engine) (r : UnitReq) (vals : Nat → List Word) (n : Nat) : Engine :=
  (List.range n).foldl (fun g k => g.writeV (r.d + k) r.active fun i => (vals i).getD k 0) g

/-- Registers that a unit's result spans. -/
def resultCount (r : UnitReq) : Nat :=
  match r.unit with
  | .calib => 8
  | .overlay => 2
  | .sample => if r.op = 0x73 then 2 else 1
  | .sfu => 1
  | .output => 0

/-- The line-buffer entries of an OUT, lane after lane (R119). DESIGN CHOICE: of two active lanes that name one subpixel the
higher one stands (assumption log 199). -/
def State.writeEntries (s : State) (g : Engine) (r : UnitReq) : State × Engine :=
  (reqLanes r).foldl (fun (s, g) i =>
    let ops := reqOps r i
    let xs := (ops.getD 1 0).toNat
    let y := (ops.getD 2 0).toNat
    let e := s.lineEntry g.out (ops.getD 0 0) xs y
    let s := s.updRender g.out fun rn => { rn with ring := Sparse.set rn.ring (s.ringIndex g.out xs y) e }
    (s, { g with written := g.written ||| 2 ^ (8 * (xs - g.xs0) + (y - g.y0)) })) (s, g)

/-- Lanes that a unit serves per clock (R92). -/
def laneRate : SharedUnit → Nat
  | .sample => 4
  | _ => 16

/-- The clocks that a unit takes to serve n lanes (R92): the least with its whole rate, the most with the sixteenth of it that
every engine has. -/
def leastService (u : SharedUnit) (n : Nat) : Nat := ceilDiv n (laneRate u)
def mostService (u : SharedUnit) (n : Nat) : Nat := ceilDiv (16 * n) (laneRate u)

/-- Latency after service (R92). -/
def afterService : SharedUnit → Nat
  | .sample => 24
  | .calib => 12
  | .overlay => 24
  | .sfu => 8
  | .output => 0

/-- The first request of a unit and the others (R109: results of one unit return in order of issue). -/
def takeReq (u : SharedUnit) : List UnitReq → Option (UnitReq × List UnitReq)
  | [] => none
  | r :: rs =>
    if r.unit = u then some (r, rs)
    else (takeReq u rs).map fun (q, qs) => (q, r :: qs)

/-! ### The calibration store (R67, R209): in the order of the outputs, of each its warp grid, angular map, LUT sets and
decode table -/

/-- Bytes of an output's warp grid, angular map, LUT sets and decode table in the store (R67). -/
def calibParts (c : CalibRec) : List Nat :=
  [ceilDiv (8 * c.cellsX * c.cellsY) 64 * 64, 8192, 6208 * c.lutSets, ceilDiv (2 * c.decodeCount) 64 * 64]

/-- Bytes of an output's calibration data (R67). -/
def calibBytes (c : CalibRec) : Nat := (calibParts c).sum

/-- The outputs whose CALIB records fit the calibration store, in increasing number, and the bytes in use. -/
def State.calibFit (s : State) : List Output × Nat :=
  allOutputs.foldl (fun (acc : List Output × Nat) o =>
    match s.itin.calib[o] with
    | none => acc
    | some c => if acc.2 + calibBytes c ≤ 8388608 then (acc.1 ++ [o], acc.2 + calibBytes c) else acc) ([], 0)

/-- Where an output's part k lies in the store. -/
def State.calibOffset (s : State) (o : Output) (k : Nat) : Nat :=
  ((s.calibFit.1.filter fun (x : Output) => decide (x.val < o.val)).map fun x => calibBytes (s.calib x)).sum +
    ((calibParts (s.calib o)).take k).sum

/-- The cells of the warp grid around twice-coordinates (X, Y) (R65). -/
def warpCells (c : CalibRec) (X Y : Nat) : List Nat :=
  let ix := ((X : Int) - 32) / 64
  let iy := ((Y : Int) - 32) / 64
  let at1 (n : Nat) (i : Int) : Nat := min i.toNat (n - 1)
  [iy, iy + 1].flatMap fun b => [ix, ix + 1].map fun a => at1 c.cellsY b * c.cellsX + at1 c.cellsX a

/-- The bytes of the calibration store that lane i of a request reads: offset and length. A LUT of a colour and the decode
table count as read whole. -/
def State.calibReads (s : State) (o : Output) (r : UnitReq) (i : Nat) : List (Nat × Nat) :=
  let c := s.calib o
  let ops := reqOps r i
  let cells (xs y : Nat) : List (Nat × Nat) :=
    (warpCells c (xc2 (s.layoutNow o) xs y) (2 * y + 1)).map fun k => (s.calibOffset o 0 + 8 * k, 8)
  let table : List (Nat × Nat) := if 2 ≤ (s.raymode o).transfer then [(s.calibOffset o 3, 2 * c.decodeCount)] else []
  match r.unit with
  | .calib =>
    let xs := (ops.getD 0 0).toNat
    let y := (ops.getD 1 0).toNat
    cells xs y ++
      [(s.calibOffset o 1 + 8 * angularIndex o (s.lensNow o) c (xc2 (s.layoutNow o) xs y) (2 * y + 1) xs y, 8)]
  | .output =>
    let xs := (ops.getD 1 0).toNat
    let y := (ops.getD 2 0).toNat
    let set := s.fld (RAY_BAND_LUT_lut_set o.val)
    let colour := colourOf (s.layoutNow o) xs y
    cells xs y ++ [(s.calibOffset o 2 + 6208 * set + 2050 * colour, 2050)]
  | .sample => if r.op = 0x74 then [] else table
  | .overlay => if (s.overlayAt o r.b ops).isSome then table else []
  | .sfu => []

/-- The alcoves of the calibration store that a request reads, from 0. -/
def State.calibAlcoves (s : State) (o : Output) (r : UnitReq) : List Nat :=
  (reqLanes r).flatMap fun i => (s.calibReads o r i).flatMap fun (off, n) =>
    if n = 0 then [] else (List.range ((off + n - 1) / 65536 + 1 - off / 65536)).map (off / 65536 + ·)

/-- An alcove of the calibration store that has not been reloaded yet. -/
def State.calibDead (s : State) (k : Nat) : Bool := s.rooms.dead.any fun d => d.alcove == alCalib + k

/-- A double-bit error in the store that a request's reads meet (R209). -/
def State.calibHit (s : State) (o : Output) (r : UnitReq) (alcove : Option (Fin 128)) : State :=
  match alcove with
  | none => s
  | some k =>
    if (s.calibAlcoves o r).contains k.val then
      s.alcoveLost { alcove := alCalib + k.val, owner := some o, stops := false }
    else s

/-- A line with a double-bit error in its data is invalidated (R117). -/
def State.dropLine1 (s : State) (cl : Fin 32) (line : Option CacheKey) : State :=
  match line with
  | none => s
  | some k => { s with caches := s.caches.set cl ((s.caches.get cl).filter (·.key != k)) }

/-- The clock at which the service of an engine's latest request at a unit ended: the next one begins no earlier (R109). -/
def Engine.lastDone (g : Engine) (u : SharedUnit) : Nat :=
  (g.served.filter (·.unit = u)).foldl (fun c x => max c x.done) 0

/-- The service of an engine's oldest request at a unit (R92, R106, R109): it begins with the request's issue or with the end
of the one before it, waits `stall` clocks where a line had to be filled, and takes no fewer and no more clocks than R92
allows; within that, the round robin among the engines gives the clock `clk` at which the result is readable. -/
def Engine.serve (g : Engine) (r : UnitReq) (clk stall : Nat) : Served :=
  let from_ := max r.clk (g.lastDone r.unit)
  let to_ := from_ + (if r.fill then stall else 0)
  let n := (reqLanes r).length
  let lat := afterService r.unit
  let ready := max (to_ + leastService r.unit n + lat) (min clk (to_ + mostService r.unit n + lat))
  { unit := r.unit, keys := (List.range (resultCount r)).map fun k => keyV (r.d + k), fillFrom := from_, fillTo := to_
    done := ready - lat, ready }

/-- The engine with a request served: what is readable at its clock, and no longer the latest of its unit, is waited for by
nothing. -/
def Engine.noteServed (g : Engine) (x : Served) (rest : List UnitReq) : Engine :=
  let g := { g with reqs := rest, served := (g.served.filter fun (y : Served) => y.unit != x.unit || decide (g.clk < y.ready)) ++ [x] }
  g.setBusy x.keys x.ready 0

/-- SHARED_UNIT_RESULT (R92, R105, R106, R109, R113–R119, R123): the oldest outstanding request of an engine at a unit is
served. `clk` is the engine clock at which its result is readable, within the bounds of R92, and `stall` the clocks that it
waited for a line fill. A request whose view-cache lines are not all filled is not served. A double-bit error in a line or in
an alcove of the calibration store that its reads meet raises ECC (R117, R209). -/
def execSharedUnitResult (t : Nat) (e : EngineId) (unit : SharedUnit) (clk : Nat) (stall : Nat) (hit : UnitHit)
    (s : State) : Host.Outcome State Fault Refusal :=
  .next <|
    let s := s.advanceTo t
    match s.engine? e with
    | none => s
    | some g =>
      match takeReq unit g.reqs with
      | none => s
      | some (r, rest) =>
        let cl := clusterOf e
        let code := s.reqTrap g r
        if code != 0 then s.trap e g code 0 r.pc
        else if !(s.reqLines g.out r).all fun k => (s.cacheLine? cl k).isSome then s
        else
          let s := s.calibHit g.out r hit.alcove
          if hit.line.any (s.reqLines g.out r).contains then (s.dropLine1 (Fin.ofNat 32 cl) hit.line).trap e g 0xA 0 r.pc
          else if (s.calibAlcoves g.out r).any s.calibDead then s.trap e g 0xA 0 r.pc
          else
          let x := g.serve r clk stall
          let g := (writeResults g r (s.reqValues cl g r) (resultCount r)).noteServed x rest
          let (s, g) := if unit = .output then s.writeEntries g r else (s, g)
          if g.ending && rest.isEmpty then s.finishSpan e g.settle else s.setEngine e g

/-- Does an engine wait for a line fill, or for a request that has waited for one? Its clocks then do not count (R125). -/
def State.awaitsFill (s : State) (cl : Nat) (g : Engine) : Bool :=
  g.reqs.any fun r => r.fill || (s.reqLines g.out r).any fun k => (s.cacheLine? cl k).isNone

/-- SPAN_WATCHDOG (R124, R125, R126): the engine has reached clock `clk`; a count above the budget traps. While the engine
waits for a line fill the count stands. `hits` are the single-bit errors that its cluster has corrected until then and the words of its local memory that have become
unreadable. -/
def execSpanWatchdog (t : Nat) (e : EngineId) (clk : Nat) (hits : SoftHits) (s : State) : Host.Outcome State Fault Refusal :=
  .next <|
    let s := (s.advanceTo t).incFld (ENG_CL_STAT_sec_count (clusterOf e)) hits.corrected
    match s.engine? e with
    | none => s
    | some g =>
      let now := if s.awaitsFill (clusterOf e) g then g.clk else max g.clk clk
      let g := { g with clk := now, lost := g.lost ++ hits.lost }
      if s.budget g.slot g.w < g.counted then s.trapWatchdog e g else s.setEngine e g

/-- The engines of a cluster. -/
def enginesOf (cl : Nat) : List EngineId := (List.range 16).map fun i => Fin.ofNat 512 (16 * cl + i)

/-- The engines of a cluster that wait for a line. -/
def State.waiters (s : State) (cl : Nat) (k : CacheKey) : List EngineId :=
  (enginesOf cl).filter fun e =>
    match s.engine? e with
    | none => false
    | some g => g.reqs.any fun r => (s.reqLines g.out r).contains k

/-- The requests of an engine that need a line have waited for its fill. -/
def State.noteFill (s : State) (k : CacheKey) (e : EngineId) : State :=
  match s.engine? e with
  | none => s
  | some g => s.setEngine e { g with reqs := g.reqs.map fun r => { r with fill := r.fill || (s.reqLines g.out r).contains k } }

/-- A trap in each of some engines, at the pc that ENG_CL_LASTPC names for it. -/
def State.trapAll (s : State) (code : Nat) (pcOf : Engine → Nat) (es : List EngineId) : State :=
  es.foldl (fun s e =>
    match s.engine? e with
    | none => s
    | some g => s.trap e g code 0 (pcOf g)) s

/-- ECC names the instruction that trapped: the oldest request that needs the line. -/
def State.eccPc (s : State) (k : CacheKey) (g : Engine) : Nat :=
  ((g.reqs.find? fun r => (s.reqLines g.out r).contains k).map (·.pc)).getD g.pc

/-- Lines of a cluster's view cache: 256 KiB of 64-byte lines. -/
def cacheLines : Nat := 4096

/-- A line put into a full cache takes the place of `evict`, or of the oldest when that names no line held: the manual
gives no replacement rule. -/
def putLine (l : List CacheLine) (evict : Option CacheKey) (x : CacheLine) : List CacheLine :=
  if l.length < cacheLines then l ++ [x]
  else
    match evict with
    | some k => if l.any (·.key = k) then l.filter (·.key != k) ++ [x] else l.drop 1 ++ [x]
    | none => l.drop 1 ++ [x]

/-- The room table index of a line's room (R196, R200). -/
def State.lineIndex (s : State) (line : CacheKey) : Nat :=
  s.fld (INK_SPACE_BASE_base line.space.val) + 64 * line.line / roomBytes

/-- The translation of a fill: an error of the room table entry that a TLB miss reads (R201, R204), then the access (R196,
R203). After a double-bit error the machine is frozen and no address is of use. -/
def State.fillAccess (s : State) (cl : Cluster) (line : CacheKey) (tbl : Option Bool) : Option Nat × State :=
  let walk (double : Bool) : State := s.tableError (s.lineIndex line) double line.space.val cl.val (64 * line.line)
  match if s.tlbHit cl.val (s.lineIndex line) then none else tbl with
  | some true => (some 0, walk true)
  | some false => (walk false).access cl.val line.space.val (64 * line.line) 64 false
  | none => s.access cl.val line.space.val (64 * line.line) 64 false

/-- Has the channel accepted the read of a line: do fewer than 16 others stand before it (R225)? A read that none of its
requests has queued arrives now. -/
def State.fillAccepted (s : State) (c : Channel) (cl : Cluster) (line : CacheKey) : Bool :=
  let l := s.classAReads c
  (l.take acceptedA).contains (cl, line) || (!l.contains (cl, line) && decide (l.length < acceptedA))

/-- A channel serves a class A read (R226): it leaves the queue, and the channel goes on with what waits behind it. -/
def State.serveFill (s : State) (c : Channel) (cl : Cluster) (line : CacheKey) (unit : Nat) : State :=
  let s := if s.serves c then (s.arriveAt c).readBurst c unit cl.val false else s.readBurst c unit cl.val false
  let d := s.dch c
  (s.setDch c { d with fills := d.fills.erase (cl, line) }).runChannel c

/-- VIEW_CACHE_FILL (R117, R201, R203, R204, R225, R226, R233, R246): the fill of a line that an engine of the cluster waits
for, once its channel has accepted the read. `errs` are words of its unit that are stored wrong. An unmapped address raises
MAP, a double-bit error or the error response of a freeze raises ECC in every engine waiting on it. -/
def execViewCacheFill (t : Nat) (cl : Cluster) (line : CacheKey) (errs : List WordErr) (evict : Option CacheKey)
    (tbl : Option Bool) (s : State) : Host.Outcome State Fault Refusal :=
  .next <|
    let s := s.advanceTo t
    let ws := s.waiters cl.val line
    if ws.isEmpty || (s.cacheLine? cl.val line).isSome ||
        (s.lineUnit line).any fun u => !s.fillAccepted (s.unitChannel u) cl line then s
    else
      let (p, s) := s.fillAccess cl line tbl
      match p with
      | none => s.trapAll 0xC (·.pc) ws
      | some a =>
        if s.frozen then s.trapAll 0xA (s.eccPc line) ws
        else
          let unit := a / 64
          let s := s.spoil unit errs
          let lost := hasDouble (s.badWords unit)
          let data := s.memBytes a 64
          let s := s.serveFill (s.unitChannel unit) cl line unit
          if lost then s.trapAll 0xA (s.eccPc line) ws
          else
            let s := ws.foldl (fun (s : State) e => s.noteFill line e) s
            { s with caches := s.caches.set cl (putLine (s.caches.get cl) evict { key := line, data }) }

/-- A cluster leaves service (R35, R126, R189): its spans trap CLUSTER_LOST, EV236 names it; admission runs (R36). The
cause is 1 instruction memory, 2 cache tags, 3 both covering sensors failed. -/
def State.loseCluster (s : State) (cl cause : Nat) : State :=
  if !s.inService cl then s
  else
    let s := (s.setFld (ENG_CL_STAT_out cl) 1).setFld (ENG_CL_STAT_cause cl) cause
    let s := s.trapAll 0xB (·.pc) (enginesOf cl)
    let s := s.raiseOpen 236 cl
    s.sharing.foldl (fun (s : State) o => s.pend o .clusters) s

/-- CLUSTER_LEAVE_SERVICE (R126): a double-bit error in instruction memory or in view-cache tags. -/
def execClusterLeaveService (t : Nat) (cl : Cluster) (cause : LeaveCause) (s : State) :
    Host.Outcome State Fault Refusal :=
  .next <|
    (s.advanceTo t).loseCluster cl.val (match cause with | .instructionMemory => 1 | .cacheTags => 2)

end Sys2Proof.Machine
end

