-- ==== Sys2Proof/Machine/Porter.lean ====
section
/-!
DEFINITION. The Porter (R183–R195): the queue and its quotas, class A release and dispatch, the decode serial, token
buckets.
-/
namespace Sys2Proof.Machine

/-! ### Instants of an output's cycle (R16, R21, R281) -/

/-- Is the instant `before` ns ahead of the next grid instant reached? -/
def State.beforeTick (s : State) (o : Output) (before : Nat) : Bool :=
  decide ((s.out o).cycle.nextTick ≤ s.timeNs + before)

/-- Does the output's next grid instant become a tick, as far as it has been decided (R281)? -/
def State.ticksNext (s : State) (o : Output) : Bool :=
  s.fld (SCN_OUT_STAT_static o.val) = 0 || (s.out o).scan.staticTick

/-- Has a cutoff of an output come that lies `before` ns ahead of its coming tick (R16)? What is stamped from that instant on
counts as after the cutoff (R21), whether or not the cutoff has been carried out. -/
def State.pastCutoff (s : State) (o : Output) (before : Nat) : Bool :=
  let c := (s.out o).cycle
  s.scanning o && c.ticked && !c.service && s.ticksNext o && s.beforeTick o before

/-- The decode cutoff; the cutoff of classes C and D. -/
def State.pastB (s : State) (o : Output) : Bool := (s.out o).cycle.cutB || s.pastCutoff o 250000
def State.pastCD (s : State) (o : Output) : Bool := (s.out o).cycle.cutCD || s.pastCutoff o 50000

/-! ### Quotas (R184, R185) -/

def quotaA : Nat := 64
def quotaB : Nat := 2048
def quotaC : Nat := 1024
def quotaD : Nat := 960

/-- Work of class c (0 A … 3 D) of an output is ready behind a full quota: EV235 the first time in a frame (R185). -/
def State.noteFull (s : State) (o : Output) (c : Nat) : State :=
  if s.porter.filled.contains (o, c) then s
  else ({ s with porter := { s.porter with filled := (o, c) :: s.porter.filled } }).raiseOpen 235 (o.val * 2 ^ 30 + c * 2 ^ 28)

/-- A waybill of class c of an output was aborted (R18, R29). -/
def State.noteAbort (s : State) (o : Output) (c : Nat) : State := s.raiseOpen 234 (o.val * 2 ^ 30 + c * 2 ^ 28)

/-- n times a change. -/
def State.times (s : State) (n : Nat) (f : State → State) : State := (List.range n).foldl (fun s _ => f s) s

/-- The domains of the codec units (R414). -/
def codecDomain (pd : Nat) : Bool := decide (32 ≤ pd) && decide (pd < 36)

/-- A leg ready to be decoded enters class B, or waits behind a full quota (R183, R185). -/
def State.readyB (s : State) (o : Output) (order : Nat) : State :=
  let s := s.demand codecDomain
  let p := s.porter
  if p.waitB.isEmpty && decide (p.qb.length < quotaB) then { s with porter := { p with qb := p.qb ++ [order] } }
  else ({ s with porter := { p with waitB := p.waitB ++ [order] } }).noteFull o 1

/-- The output of a capture leg: that of the CAMERA record of its port (R17). -/
def State.camOutput (s : State) (p : Port) : Output := Fin.ofNat 4 ((s.itin.camera[p]).getD {}).output

/-- Does work of classes C and D wait for the end of a tick service (R194)? -/
def State.cutCD (s : State) (o : Output) : Bool := (s.out o).cycle.cutCD || (s.out o).cycle.service

/-- A capture leg ready to be encoded enters class C, or waits. -/
def State.readyC (s : State) (x : CapLeg) : State :=
  let p := s.porter
  if s.cutCD (s.camOutput x.port) then { s with porter := { p with heldC := p.heldC ++ [x] } }
  else
  let s := s.demand codecDomain
  let p := s.porter
  if p.waitC.isEmpty && decide (p.qc.length < quotaC) then { s with porter := { p with qc := p.qc ++ [x] } }
  else ({ s with porter := { p with waitC := p.waitC ++ [x] } }).noteFull (s.camOutput x.port) 2

/-- The output of class D work. -/
def State.classDOutput (s : State) : ClassD → Output
  | .list o _ => o
  | .card o => o
  | .stats p => s.camOutput p

/-- Class D work ready to run enters the queue, or waits. -/
def State.readyD (s : State) (x : ClassD) : State :=
  let p := s.porter
  if s.cutCD (s.classDOutput x) then { s with porter := { p with heldD := p.heldD ++ [x] } }
  else
  let s := s.demand fun pd => pd = 37
  let p := s.porter
  if p.waitD.isEmpty && decide (p.qd.length < quotaD) then { s with porter := { p with qd := p.qd ++ [x] } }
  else ({ s with porter := { p with waitD := p.waitD ++ [x] } }).noteFull (s.classDOutput x) 3

/-- What fits a quota moves from the waiting work into the queue, in the order in which it became ready. -/
def admitWork {α : Type} (quota : Nat) (q w : List α) : List α × List α :=
  (q ++ w.take (quota - q.length), w.drop (quota - q.length))

/-- QUEUE_ENTRY_ADMIT (R185): entries of a class have become free. -/
def execQueueEntryAdmit (t : Nat) (cls : LowerClass) (s : State) : Host.Outcome State Fault Refusal :=
  .next <|
    let s := s.advanceTo t
    let p := s.porter
    match cls with
    | .b =>
      let (q, w) := admitWork quotaB p.qb p.waitB
      { s with porter := { p with qb := q, waitB := w } }
    | .c =>
      let (q, w) := admitWork quotaC p.qc p.waitC
      { s with porter := { p with qc := q, waitC := w } }
    | .d =>
      let (q, w) := admitWork quotaD p.qd p.waitD
      { s with porter := { p with qd := q, waitD := w } }

/-! ### Class A: release, dispatch, abort (R14, R15, R87, R88, R122, R187, R188) -/

/-- Period in use and lines of a frame of an output. -/
def State.periodNs (s : State) (o : Output) : Nat := s.fld (PTR_OUT_PERIOD_period_ns o.val)
def State.frameLines (s : State) (o : Output) : Nat := s.lines o + (s.outRec o).blank

/-- Span columns of an output (R87). -/
def State.spanCols (s : State) (o : Output) : Nat := ceilDiv (s.wsub o) 60

/-- Has the start of frame line L come, that is TIME_NS ≥ tick + L × P / (A + B)? -/
def State.lineReached (s : State) (o : Output) (L : Nat) : Bool :=
  decide (L * s.periodNs o ≤ (s.timeNs - (s.out o).cycle.tickAt) * s.frameLines o)

/-- Deadline of the span row at active line y, in 2⁻¹⁶ ns of TIME_NS (R14): two lines before its first line. -/
def State.spanDeadline (s : State) (o : Output) (y : Nat) : Nat :=
  (s.out o).cycle.tickAt * 65536 + ((s.outRec o).blank + y - 2) * s.periodNs o * 65536 / s.frameLines o

/-- A span row released into the class A queue: the ring slots that it reuses no longer hold a valid span (R254). -/
def State.releaseRow (s : State) (o : Output) (y : Nat) : State :=
  let row : SpanRow := { out := o, y, deadline := s.spanDeadline o y, cols := List.range (s.spanCols o) }
  let s := s.updRender o fun r => { r with valid := r.valid.filter fun v => v.1 % 48 != y % 48 }
  let s := s.updCycle o fun c => { c with released := c.released + 1 }
  ({ s with porter := { s.porter with qa := s.porter.qa ++ [row] } }).demand fun pd => decide (pd < 32)

/-- SPAN_ROW_RELEASE (R14): span row `row` (8 lines), at the end of the transmit of frame line B + y − 41. The lead rows
are released at the end of the tick service. -/
def execSpanRowRelease (t : Nat) (o : Output) (row : Nat) (s : State) : Host.Outcome State Fault Refusal :=
  .next <|
    let s := s.advanceTo t
    let c := (s.out o).cycle
    let y := 8 * row
    if !s.scanning o || !c.ticked || c.service || c.released != row || decide (y < 48) || decide (s.lines o ≤ y) ||
        !s.lineReached o ((s.outRec o).blank + y - 40) then s
    else if quotaA ≤ s.porter.qa.length then s.noteFull o 0
    else s.releaseRow o y

/-- The earlier of two entries of the class A queue (R187): deadline, then output, then span row. -/
def rowBefore (a b : SpanRow) : Bool :=
  decide (a.deadline < b.deadline) ||
    (a.deadline == b.deadline && (decide (a.out.val < b.out.val) || (a.out == b.out && decide (a.y < b.y))))

/-- The first entry under R187. -/
def firstRow : List SpanRow → Option SpanRow
  | [] => none
  | x :: xs =>
    match firstRow xs with
    | none => some x
    | some y => if rowBefore y x then some y else some x

/-- Stripe of the k-th of n clusters among C span columns: first column and the one after its last (R188). -/
def stripe (n cols k : Nat) : Nat × Nat := (k * cols / n, (k + 1) * cols / n)

/-- Undispatched columns of a stripe. -/
def stripeCols (n cols k : Nat) (l : List Nat) : List Nat :=
  let (a, b) := stripe n cols k
  l.filter fun x => decide (a ≤ x) && decide (x < b)

/-- The stripe with the most undispatched columns, lower clusters first. -/
def fullestStripe (n cols : Nat) (l : List Nat) : Nat :=
  (List.range n).foldl (fun best k =>
    if (stripeCols n cols best l).length < (stripeCols n cols k l).length then k else best) 0

/-- The column that an engine of a cluster takes (R188, R189): the lowest of its own stripe, else the highest of the
fullest one. -/
def pickColumn (clusters : List Nat) (cols cl : Nat) (l : List Nat) : Option Nat :=
  let n := clusters.length
  let own := match clusters.findIdx? (· == cl) with
    | some k => stripeCols n cols k l
    | none => []
  match own with
  | x :: _ => some x
  | [] => (stripeCols n cols (fullestStripe n cols l) l).getLast?

/-- The engine at dispatch (R96, R122, R130). -/
def State.newEngine (s : State) (token : Nat) (o : Output) (y col : Nat) : Engine :=
  let slot := bits (s.out o).render.cfg.toNat 17 16
  let xs0 := 60 * col
  let w := min 60 (s.wsub o - xs0)
  let span := y / 8 * s.spanCols o + col
  let words : List Nat :=
    [xs0, y, w, 8, o.val + slot * 16, (s.reg (SCN_FRAME o.val)).toNat, span, s.budget slot w]
  { out := o, slot, span, xs0, y0 := y, w, pc := s.progBase slot, token
    s := words.zipIdx.map fun (v, i) => (i, BitVec.ofNat 32 v) }

/-- SPAN_DISPATCH (R187, R188): a free engine of a cluster in service receives a span of the earliest entry. -/
def execSpanDispatch (t : Nat) (e : EngineId) (s : State) : Host.Outcome State Fault Refusal :=
  .next <|
    let s := s.advanceTo t
    let cl := clusterOf e
    if (s.engine? e).isSome || !s.inService cl || !s.accepts cl then s
    else
      match firstRow s.porter.qa with
      | none => s
      | some row =>
        match pickColumn (s.out row.out).cycle.stripes (s.spanCols row.out) cl row.cols with
        | none => s
        | some col =>
          let row' := { row with cols := row.cols.filter (· != col) }
          let qa := s.porter.qa.filterMap fun x =>
            if x.out = row.out && x.y = row.y then (if row'.cols.isEmpty then none else some row') else some x
          let g := s.newEngine s.fresh row.out row.y col
          ({ s with fresh := s.fresh + 1, porter := { s.porter with qa } }).setEngine e g

/-- n spans of an output aborted (R15, R18, R88). -/
def State.abortSpans (s : State) (o : Output) (n : Nat) : State :=
  (s.incFld (RAY_SPAN_FAIL_count o.val) n).times n fun s => s.noteAbort o 0

/-- The class A waybills of an output that cover the given lines, queued or running, aborted. -/
def State.abortRows (s : State) (o : Output) (hit : Nat → Bool) : State :=
  let queued := ((s.porter.qa.filter fun x => x.out = o && hit x.y).map (·.cols.length)).sum
  let running := s.engines.filter fun (_, g) => g.out = o && hit g.y0
  let s := { s with
    porter := { s.porter with qa := s.porter.qa.filter fun x => !(x.out = o && hit x.y) }
    engines := s.engines.filter fun (_, g) => !(g.out = o && hit g.y0) }
  s.abortSpans o (queued + running.length)

/-! ### The decode serial (R190) -/

/-- The lowest serial above the last decided one among some serials. -/
def lowestAbove (last : Option Word) : List Word → Option Word
  | [] => none
  | x :: xs =>
    let rest := lowestAbove last xs
    let above := match last with
      | none => true
      | some d => serialAbove x d
    if !above then rest
    else
      match rest with
      | none => some x
      | some y => if serialAbove x y then some y else some x

/-- Serials of the legs and markers of an output that have been received. -/
def State.serialsOf (s : State) (o : Output) : List Word :=
  ((s.rooms.items.filter fun (x : LegItem) => x.kind = 0 && x.out = o && !x.stock).map (·.serial)) ++
    (s.out o).cycle.markers.map (·.serial)

/-- The legs of an output of the given serial, in the order in which their headers arrived. -/
def State.legsOf (s : State) (o : Output) (serial : Word) : List LegItem :=
  s.rooms.items.filter fun (x : LegItem) => x.kind = 0 && x.out = o && x.serial = serial

/-- The complete overlay lists of a serial become class D waybills. -/
def State.readyLists (s : State) (o : Output) (serial : Word) : State :=
  (s.rooms.items.filter fun (x : LegItem) => x.kind = 1 && x.out = o && x.serial = serial && x.complete).foldl
    (fun s x => s.readyD (.list o x.order)) s

/-- The decode serial fixed: the legs of it become class B waybills, the complete overlay lists class D waybills. -/
def State.fixDecode (s : State) (o : Output) (serial : Word) : State :=
  let s := s.updCycle o fun c => { c with decode := some serial }
  let s := s.setReg (PTR_OUT_SERIAL o.val) serial
  let s := (s.legsOf o serial).foldl (fun s x => s.readyB o x.order) s
  s.readyLists o serial

/-- May an arrival fix the decode serial (R190)? -/
def Cycle.open_ (c : Cycle) : Bool := c.ticked && !c.service && !c.cutB && c.decode.isNone

/-- A leg or marker of a serial has arrived at an output. -/
def State.arrived (s : State) (o : Output) (serial : Word) : State :=
  if (s.out o).cycle.open_ then s.fixDecode o serial else s

/-! ### Token buckets (R192) -/

/-- TOKEN_BUCKET_REFILL (R192): every 1 µs each bucket gains its rate in tokens, up to its depth. -/
def execTokenBucketRefill (t : Nat) (s : State) : Host.Outcome State Fault Refusal :=
  .next <|
    let s := s.advanceTo t
    let p := s.porter
    if !s.elapsed p.lastRefill (edgesUs 1) then s
    else
      let fill (i : Fin 3) (x : Nat) : Nat := min (p.buckets.get i).2 (x + max 1 (p.buckets.get i).1)
      { s with porter := { p with
          tokB := fill 0 p.tokB, tokC := fill 1 p.tokC, tokD := fill 2 p.tokD, lastRefill := p.lastRefill + edgesUs 1 } }

/-- Rates and depths written since take effect at a tick (chapter 5, PTR registers). -/
def State.applyBuckets (s : State) : State :=
  { s with porter := { s.porter with buckets := Vector.ofFn fun (i : Fin 3) =>
      (s.fld (PTR_TB_RATE_rate i.val), s.fld (PTR_TB_DEPTH_depth i.val)) } }

end Sys2Proof.Machine
end

