-- ==== Sys2Proof/Machine/Play.lean ====
section
/-!
DEFINITION. Resident playback (R210–R213): playlists in stock rooms, their start and stop, and the bundle that becomes the
decode serial.
-/
namespace Sys2Proof.Machine

/-- The address in STOCK of byte `off` of a stock index (R210). -/
def stockAddr (index off : Nat) : Nat := index * roomBytes + off

/-- The STOCK address of playlist `list`, if STOCK_MAP declares it. -/
def State.playlistBase (s : State) (list : Nat) : Option Nat :=
  match s.itin.stock with
  | none => none
  | some r => if list < r.lists then (r.playlists[list]?).map fun i => stockAddr i 0 else none

/-- A playlist's header (R211). -/
structure Playlist where
  base : Nat
  count : Nat
  out : Nat
  loop : Bool
  deriving DecidableEq, Repr

/-- The header of a playlist for an output; none where it is not one (assumption log 14). -/
def State.playlist? (s : State) (o : Output) (list : Nat) : Option Playlist :=
  match s.playlistBase list with
  | none => none
  | some base =>
    let b := s.spaceBytes spSTOCK base 16
    if b.length = 16 && leAt b 0 4 = 0x4C594150 && 1 ≤ leAt b 4 2 && leAt b 6 1 = o.val && leAt b 7 1 / 2 = 0 && zeroAt b 8 8
    then some { base, count := leAt b 4 2, out := o.val, loop := bit (leAt b 7 1) 0 }
    else none

/-- One frame entry of a playlist (R211): STOCK address and bytes of the bundle, ticks on display. -/
structure Bundle where
  addr : Nat
  bytes : Nat
  ticks : Nat
  deriving DecidableEq, Repr

def State.bundle (s : State) (p : Playlist) (e : Nat) : Bundle :=
  let b := s.spaceBytes spSTOCK (p.base + 0x10 + 16 * e) 16
  { addr := stockAddr (leAt b 0 2) (leAt b 4 4), bytes := leAt b 8 4, ticks := max 1 (leAt b 2 1) }

/-- Is a playlist playing on an output? -/
def State.playing (s : State) (o : Output) : Bool := s.fld (PTR_OUT_PLAY_active o.val) = 1

/-- EV237 of an output (R213, R412): 1 playlist start, 2 playlist stop, 3 automatic start, 4 card shown, 5 card stopped. -/
def State.notePlay (s : State) (o : Output) (what : Nat) : State := s.raiseOpen 237 (o.val * 2 ^ 30 + what)

/-- Playback stops (R213). -/
def State.stopPlay (s : State) (o : Output) : State :=
  if !s.playing o then s
  else
    let s := s.updPlay o fun p => { p with repeatLeft := 0, held := false, next := 0, taken := none, noMarker := 0 }
    (s.setReg (PTR_OUT_PLAY o.val) 0).notePlay o 2

/-- A playlist starts at its entry 0 (R213). -/
def State.startPlay (s : State) (o : Output) (list : Nat) (auto : Bool) : State :=
  match s.playlist? o list with
  | none => s
  | some _ =>
    let s := s.stopPlay o
    let s := s.updPlay o fun p => { p with repeatLeft := 0, held := false, next := 0, taken := none, liveMarker := false }
    let s := s.setReg (PTR_OUT_PLAY o.val) (BitVec.ofNat 32 (2 ^ 31 + b2n auto * 2 ^ 30 + list % 16 * 2 ^ 16))
    s.notePlay o (if auto then 3 else 1)

/-- Legs of a bundle from a STOCK address on, back to back: address and length of each. Bytes that no mapped room holds end
the bundle with one leg that no header can be read of. -/
def State.bundleLegs (s : State) : Nat → Nat → Nat → List (Nat × Nat)
  | 0, _, _ => []
  | fuel + 1, a, left =>
    if left < 64 then []
    else
      let b := s.spaceBytes spSTOCK a 64
      if b.length < 64 then [(a, 64)]
      else
        let n := 64 + (parseLegHeader b).compressed
        (a, min n left) :: (if left ≤ n then [] else State.bundleLegs s fuel (a + n) (left - n))

/-- The serial that playback gives the next frame: the last decided one + 1 (R212). -/
def State.playSerial (s : State) (o : Output) : Word := ((s.out o).cycle.decided).getD 0 + 1

/-- One leg of the bundle as an item and as a leg of the frame. -/
def State.addBundleLeg (s : State) (o : Output) (serial : Word) (a n : Nat) : State :=
  let h := parseLegHeader (s.spaceBytes spSTOCK a 64)
  let k := s.rooms.arrivals
  let item : LegItem :=
    { kind := 0, out := o, serial, stream := h.chain, offset := a, got := n, complete := true, order := k, stock := true }
  let s := { s with rooms := { s.rooms with items := s.rooms.items ++ [item], arrivals := k + 1 } }
  s.updCycle o fun c => { c with legs := c.legs ++
    [{ item := k, legId := h.legId, chain := h.chain, serial, outcome := none, done := false, order := k,
       stamp := s.timeNs }] }

/-- Entry e's bundle becomes the decode serial of the output, with an implied flip marker (R212). -/
def State.takeBundle (s : State) (o : Output) (p : Playlist) (e : Nat) : State :=
  let b := s.bundle p e
  let serial := s.playSerial o
  let k := s.rooms.arrivals
  let s := (s.bundleLegs (b.bytes / 64 + 1) b.addr b.bytes).foldl (fun s (a, n) => s.addBundleLeg o serial a n) s
  let legs := (s.out o).cycle.legs.filter fun (l : LegRec) => decide (k ≤ l.order)
  let s := s.updCycle o fun c => { c with
    decode := some serial
    markers := c.markers ++ [{ serial, legs := legs.map fun (l : LegRec) => (l.legId, l.chain), stamp := s.timeNs }] }
  let s := s.setReg (PTR_OUT_SERIAL o.val) serial
  let s := s.updPlay o fun q => { q with taken := some e, next := e + 1 }
  (legs.foldl (fun s (l : LegRec) => s.readyB o l.order) s).readyLists o serial

/-- Playback at the end of a tick service (R212): once the repeat count has run out the next bundle is taken; after the
last entry the playlist starts again or holds. -/
def State.playOn (s : State) (o : Output) : State :=
  let list := s.fld (PTR_OUT_PLAY_list o.val)
  let left := (s.out o).play.repeatLeft - 1
  let s := s.updPlay o fun q => { q with repeatLeft := left }
  if !s.playing o || (s.out o).play.held || left != 0 then s
  else
    match s.playlist? o list with
    | none => s
    | some p =>
      let e := (s.out o).play.next
      if e < p.count then s.takeBundle o p e
      else if p.loop then s.takeBundle o p 0
      else s.updPlay o fun q => { q with held := true }

/-- Playback at a tick: the bundle that has been decoded begins its repeat count, whether or not its frame flipped. -/
def State.playTick (s : State) (o : Output) (swapped : Bool) : State :=
  match (s.out o).play.taken with
  | none => s
  | some e =>
    let ticks := match s.playlist? o (s.fld (PTR_OUT_PLAY_list o.val)) with
      | some p => (s.bundle p e).ticks
      | none => 1
    let s := s.updPlay o fun q => { q with repeatLeft := ticks, taken := none }
    if swapped then s.setFld (PTR_OUT_PLAY_entry o.val) e else s

/-- AUTO_PLAYLIST_START (R213): after 8 consecutive ticks without a flip marker on VC1 the automatic playlist starts. -/
def execAutoPlaylistStart (t : Nat) (o : Output) (s : State) : Host.Outcome State Fault Refusal :=
  .next <|
    let s := s.advanceTo t
    let auto := match s.itin.stock with
      | some r => r.auto.getD o.val 0xFF
      | none => 0xFF
    if !s.scanning o || s.playing o || decide ((s.out o).play.noMarker < 8) || auto = 0xFF then s
    else s.startPlay o auto true

end Sys2Proof.Machine
end

