-- ==== Sys2Proof/Machine/Codec.lean ====
section
/-!
DEFINITION. The codec units (R159–R182): dispatch checks, claims, chains, decoding with its stalls, completion, and
capture encoding.
-/
namespace Sys2Proof.Machine

/-! ### Legs as bytes -/

/-- Bytes of the LEG pool. -/
def State.poolBytes (s : State) : Nat := s.spaceRooms spLEG * roomBytes

/-- n bytes of an item from its byte `pos` on: in the LEG pool in circular order (R205), or in STOCK (R212). -/
def State.itemBytes (s : State) (x : LegItem) (pos n : Nat) : Bytes :=
  if x.stock then s.spaceBytes spSTOCK (x.offset + pos) n
  else
    let size := s.poolBytes
    let a := (x.offset + pos) % size
    let first := min n (size - a)
    s.spaceBytes spLEG a first ++ s.spaceBytes spLEG 0 (n - first)

/-- The accesses of n bytes of an item from its byte `pos` on. -/
def State.itemXacts (s : State) (x : LegItem) (pos n : Nat) (write : Bool) : List Xact :=
  if x.stock then [{ sp := spSTOCK, off := x.offset + pos, n, write }]
  else
    let size := max 1 s.poolBytes
    let a := (x.offset + pos) % size
    let first := min n (size - a)
    ([(a, first), (0, n - first)].filter fun p => p.2 != 0).map fun p => { sp := spLEG, off := p.1, n := p.2, write }

/-- The item with an arrival number. -/
def State.item? (s : State) (n : Nat) : Option LegItem := s.rooms.items.find? fun (x : LegItem) => x.order = n

/-- A leg of an output, by item. -/
def State.updLeg (s : State) (o : Output) (item : Nat) (f : LegRec → LegRec) : State :=
  s.updCycle o fun c => { c with legs := c.legs.map fun l => if l.item = item then f l else l }

/-- n added to a 64-bit counter in two registers. -/
def State.addPair (s : State) (lo hi n : Nat) : State :=
  s.setPair lo hi ((s.reg lo).toNat + (s.reg hi).toNat * 2 ^ 32 + n)

/-! ### Units -/

/-- May a codec unit take a waybill (R191, R195)? -/
def State.unitFree (s : State) (u : CodecUnit) : Bool :=
  let x := s.codec u
  x.leg.isNone && x.cap.isNone && !x.draining && s.accepts (32 + u.val / 4)

def allUnits : List CodecUnit := List.finRange 16

/-- May a unit encode (CDC_CFG enc_mask)? -/
def State.mayEncode (s : State) (u : CodecUnit) : Bool := (s.fld CDC_CFG_enc_mask).testBit u.val

/-- The lowest-numbered free unit among those that satisfy p (R191). -/
def State.lowestUnit (s : State) (p : CodecUnit → Bool) : Option CodecUnit :=
  allUnits.find? fun u => p u && s.unitFree u

/-- CDC_U_STAT of a unit that takes a leg. -/
def State.unitTakes (s : State) (u : CodecUnit) (enc : Bool) (chain : Nat) (legId : Word) : State :=
  let old := s.fld (CDC_U_STAT_last_outcome u.val)
  (s.setReg (CDC_U_STAT u.val) (BitVec.ofNat 32 (2 ^ 31 + b2n enc * 2 ^ 30 + old * 2 ^ 16 + chain % 4096))).setReg
    (CDC_U_LEG u.val) legId

/-- CDC_U_STAT of a unit whose leg has ended with a code; `busy` while it still drains. -/
def State.unitEnds (s : State) (u : CodecUnit) (busy : Bool) (code : Nat) : State :=
  let chain := s.fld (CDC_U_STAT_chain u.val)
  let enc := s.fld (CDC_U_STAT_enc u.val)
  let s := s.busyMember (32 + u.val / 4)
  s.setReg (CDC_U_STAT u.val)
    (BitVec.ofNat 32 (if busy then 2 ^ 31 + enc * 2 ^ 30 + code * 2 ^ 16 + chain else code * 2 ^ 16 + chain))

/-- A failing code of a leg in unit u (R176). -/
def State.noteOutcome (s : State) (u : CodecUnit) (code : Nat) (legId : Word) : State :=
  (s.incFld (CDC_U_FAIL_count u.val) 1).raise (32 + u.val) code legId.toNat

/-- A decode leg fails as a whole (R173); its unit is free. -/
def State.failLeg (s : State) (u : CodecUnit) (item : Nat) (out : Output) (legId : Word) (code : Nat) : State :=
  let s := s.setCodec u { s.codec u with leg := none }
  let s := (s.unitEnds u false code).noteOutcome u code legId
  s.updLeg out item fun l => { l with outcome := some code, ended := s.timeNs }

/-! ### Dispatch checks (R132, R133, R159, R161–R164, R170, R177) -/

def State.chain (s : State) (k : Nat) : Chain := Sparse.getD s.chains k {}

/-- The generation slots that hold a record. -/
def Chain.records (c : Chain) : List CtxRec := c.cur.toList ++ c.prev.toList

/-- STALE_GEN (R161). -/
def staleGen (c : Chain) (h : LegHeader) : Bool :=
  (!legFresh h && (c.cur.isNone || !(c.records.any fun r => r.gen = h.startGen))) ||
    c.cur.any fun r => h.gen != r.gen + 1

/-- Do a leg and its start record name one target (R162)? -/
def sameTarget (r : CtxRec) (h : LegHeader) : Bool :=
  r.output == h.output && r.format == h.format && r.viewFirst == h.viewFirst && r.viewLast == h.viewLast &&
    r.rowFirst == h.rowFirst && r.rowCount == h.rowCount && r.width == h.width

/-- The start record of a carried leg. -/
def Chain.start? (c : Chain) (h : LegHeader) : Option CtxRec := c.records.find? fun r => r.gen = h.startGen

/-- Is another leg of the chain, for a different output, running or pending (R162)? -/
def State.chainElsewhere (s : State) (k : Nat) (o : Nat) : Bool :=
  (allUnits.any fun u => (s.codec u).leg.any fun r => r.hdr.chain = k && r.hdr.output != o) ||
    (s.chain k).pend.any fun r => r.output != o

/-- The pairs of view and 8-row band that a leg claims, per plane (R170). -/
def legClaims (h : LegHeader) : List (Bool × Nat × Nat) :=
  (List.range (h.viewLast + 1 - h.viewFirst)).flatMap fun v =>
    (List.range (h.rowCount / 8)).map fun b => (h.format == 2, h.viewFirst + v, h.rowFirst / 8 + b)

/-- The checks that come before DUP_CHAIN, in order; a code or none. -/
def State.checkForm (s : State) (x : LegItem) (h : LegHeader) : Option Nat :=
  if x.got < 64 && x.complete || headerBad h then some 0x10
  else if h.output != x.out.val || (s.itin.raymode[x.out]).isNone || !targetOk (s.raymode x.out) h then some 0x11
  else if s.fld CDC_CFG_chains ≤ h.chain then some 0x12
  else none

/-- The checks from STALE_GEN on, in order. -/
def State.checkChain (s : State) (x : LegItem) (h : LegHeader) : Option Nat :=
  let c := s.chain h.chain
  if staleGen c h then some 0x14
  else if (!legFresh h && !(c.start? h).any fun r => sameTarget r h) || s.chainElsewhere h.chain h.output then some 0x15
  else if h.refSerial != 0xFFFFFFFF && (s.out x.out).cycle.display != some h.refSerial then some 0x16
  else if (legClaims h).any fun p => (s.out x.out).cycle.claims.contains p then some 0x17
  else none

/-- Has a leg of the chain and serial been seen (R163)? -/
def State.seenLeg (s : State) (h : LegHeader) : Bool :=
  allOutputs.any fun o => (s.out o).cycle.seen.contains (h.chain, h.serial)

/-- The header that a leg is checked with: a bundle's leg has its serial and gen substituted (R212). -/
def State.substitute (s : State) (x : LegItem) (h : LegHeader) : LegHeader :=
  if x.stock then
    { h with serial := x.serial, gen := match (s.chain h.chain).cur with
        | some r => r.gen + 1
        | none => h.gen }
  else h

/-- What R212 checks of a bundle's leg before the dispatch checks. -/
def checkBundle (x : LegItem) (h : LegHeader) : Option Nat :=
  if !x.stock then none
  else if !legFresh h then some 0x10
  else if h.refSerial != 0xFFFFFFFF then some 0x16
  else none

/-! ### Decoding -/

/-- Where a leg that unit u holds reads and writes. -/
def State.legCtx (s : State) (u : CodecUnit) (x : LegItem) (h : LegHeader) : LegCtx :=
  { rq := rqCodec u
    hdr := h
    rm := s.raymode x.out
    sp := x.out.val
    decode := s.decodeBase x.out
    display := s.displayBase x.out
    stockCount := s.spaceRooms spSTOCK
    blocksSp := if x.stock then spSTOCK else spLEG
    blocksAt := x.offset + 64
    wrap := if x.stock then 0 else s.poolBytes
    live := true }

/-- The blocks of a leg that have arrived. -/
def State.legBody (s : State) (x : LegItem) : Body :=
  { bytes := (s.itemBytes x 64 (x.got - 64)).toArray, complete := x.complete }

/-- CDC_U_STAT stall of the end of a run (R172). -/
def ranStall : Ran → Nat
  | .input => 1
  | .write => 2
  | .source => 3
  | _ => 0

/-- The pixel at which the sender lets a unit stall, and why. -/
def limitStop (l : DecodeLimit) : Nat × Ran := (l.pixels, if l.source then .source else .write)

/-- A unit decodes as far as it can (R172, R173). -/
def State.codecRun (s : State) (u : CodecUnit) (lim : Option DecodeLimit) : State :=
  match (s.codec u).leg with
  | none => s
  | some run =>
    match s.item? run.item with
    | none => s
    | some x =>
      let fuel := 16 * run.hdr.compressed + 2 * run.hdr.blocks + 4
      let (ran, d, s) := decodeRun (s.legCtx u x run.hdr) (s.legBody x) (lim.map limitStop) fuel run.dec s
      let s := s.addPair (CDC_U_PIX_LO u.val) (CDC_U_PIX_HI u.val) (d.produced - run.dec.produced)
      match ran with
      | .failed code => s.failLeg u run.item x.out run.hdr.legId code
      | _ =>
        (s.setCodec u { s.codec u with leg := some { run with dec := d, finished := ran == .finished } }).setFld
          (CDC_U_STAT_stall u.val) (ranStall ran)

/-- The least of some numbers. -/
def leastOf : List Nat → Option Nat
  | [] => none
  | x :: xs => some (xs.foldl min x)

/-- A leg that has passed every check begins in a unit. -/
def State.startLeg (s : State) (u : CodecUnit) (x : LegItem) (h : LegHeader) (lim : Option DecodeLimit) : State :=
  let s := s.updCycle x.out fun c => { c with claims := c.claims ++ legClaims h }
  let dec : DecState :=
    if legFresh h then { recent := freshRecent }
    else
      match (s.chain h.chain).start? h with
      | some r => { recent := r.recent, hist := r.hist }
      | none => { recent := freshRecent }
  let run : LegRun := { item := x.order, hdr := h, playback := x.stock, dec }
  (s.setCodec u { s.codec u with leg := some run }).codecRun u lim

/-- A unit takes a leg whose header it has read: the checks in the order of R177, then decoding. -/
def State.takeLeg (s : State) (u : CodecUnit) (x : LegItem) (lim : Option DecodeLimit) : State :=
  let h0 := parseLegHeader (s.itemBytes x 0 64)
  let h := s.substitute x h0
  let s := s.unitTakes u false h.chain h.legId
  let fail (s : State) (code : Nat) : State := s.failLeg u x.order x.out h.legId code
  match checkBundle x h0 with
  | some code => fail s code
  | none =>
    match s.checkForm x h with
    | some code => fail s code
    | none =>
      if s.seenLeg h then fail s 0x13
      else
        let s := s.updCycle x.out fun c => { c with seen := c.seen ++ [(h.chain, h.serial)] }
        match s.checkChain x h with
        | some code => fail s code
        | none => s.startLeg u x h lim

/-! ### Context records in the CTX rooms (R160, R167) -/

def bytesOfInt (n : Nat) (v : Int) : Bytes := toLe n (patternOf (8 * n) v)

/-- A recent-offset entry in 16 bytes (R167). -/
def recentBytes (r : Recent) : Bytes :=
  toLe 1 r.kind ++ bytesOfInt 1 r.du ++ bytesOfInt 1 r.dv ++ zeros 1 ++ bytesOfInt 4 r.dx ++ bytesOfInt 4 r.dy ++ zeros 4

/-- Symbol counts as 32-bit words. -/
def countBytes (l : List Nat) : Bytes := l.flatMap (toLe 4)

/-- A context record in 4,096 bytes (R167). -/
def ctxBytes (chain : Nat) (r : CtxRec) : Bytes :=
  let head := toLe 4 0xDA4AC0DE ++ toLe 2 chain ++ zeros 2 ++ toLe 4 r.gen.toNat ++ toLe 4 r.serial.toNat ++
    toLe 1 r.output ++ toLe 1 r.format ++ zeros 2 ++ toLe 2 r.viewFirst ++ toLe 2 r.viewLast ++ toLe 2 r.rowFirst ++
    toLe 2 r.rowCount ++ toLe 2 r.width ++ zeros 2
  let upTo (n : Nat) (b : Bytes) : Bytes := b ++ zeros (n - b.length)
  upTo 0x1000 (upTo 0x300 (upTo 0x200 (upTo 0x140 (upTo 0x100 (head ++ r.recent.flatMap recentBytes) ++
    countBytes r.hist.cmd) ++ countBytes r.hist.len) ++ countBytes r.hist.ofs) ++ countBytes r.hist.lit)

/-- Where a chain's slot lies in CTX: 0 current, 1 previous, 2 pending (R160; assumption log 203). -/
def ctxSlot (chain slot : Nat) : Nat := 12288 * chain + 4096 * slot

/-- A chain's records put into its slots. -/
def State.putCtx (s : State) (chain : Nat) : State :=
  let c := s.chain chain
  let put (s : State) (slot : Nat) (r : Option CtxRec) : State :=
    match r with
    | some r => s.spaceWrite spCTX (ctxSlot chain slot) (ctxBytes chain r)
    | none => s
  put (put (put s 0 c.cur) 1 c.prev) 2 c.pend

/-- The reads with which a unit takes a leg: its header, and the start record of a carried leg that names one. -/
def State.dispatchReads (s : State) (x : LegItem) : List Xact :=
  let h := parseLegHeader (s.itemBytes x 0 64)
  let c := s.chain h.chain
  let slot := if c.cur.any fun r => r.gen = h.startGen then 0 else 1
  let ctx := !x.stock && !legFresh h && (c.start? h).isSome && (s.phys? spCTX (ctxSlot h.chain slot)).isSome
  s.itemXacts x 0 64 false ++
    (if ctx then [{ sp := spCTX, off := ctxSlot h.chain slot, n := 4096, write := false }] else [])

/-- LEG_DISPATCH (R169, R170, R191, R192): the lowest-numbered free codec unit takes the oldest class B entry, once the header can
be read. A header that no mapped room holds ends the leg with MAP (R203). -/
def execLegDispatch (t : Nat) (u : CodecUnit) (lim : Option DecodeLimit) (s : State) :
    Host.Outcome State Fault Refusal :=
  .next <|
    let s := s.advanceTo t
    if s.frozen || s.lowestUnit (fun _ => true) != some u then s
    else
      match leastOf s.porter.qb with
      | none => s
      | some n =>
        let take (s : State) : State := { s with porter := { s.porter with qb := s.porter.qb.filter (· != n) } }
        match s.item? n with
        | none => take s
        | some x =>
          match s.transact (rqCodec u) (s.dispatchReads x) with
          | (.done, s) => (take s).takeLeg u x lim
          | (.refused, s) =>
            let h := parseLegHeader (s.itemBytes x 0 64)
            ((take s).unitTakes u false h.chain h.legId).failLeg u x.order x.out h.legId ocMap
          | (_, s) => s

/-- CODEC_STALL_RESUME (R172, R246): a stalled unit goes on from where it stalled; not during a freeze. -/
def execCodecStallResume (t : Nat) (u : CodecUnit) (lim : Option DecodeLimit) (s : State) :
    Host.Outcome State Fault Refusal :=
  .next <|
    let s := s.advanceTo t
    if s.frozen || !(s.codec u).leg.any fun r => !r.finished then s else s.codecRun u lim

/-- The context record of a leg that has completed (R165, R167). -/
def ctxOf (r : LegRun) : CtxRec :=
  let h := r.hdr
  { gen := h.gen, serial := h.serial, output := h.output, format := h.format, viewFirst := h.viewFirst
    viewLast := h.viewLast, rowFirst := h.rowFirst, rowCount := h.rowCount, width := h.width
    recent := r.dec.recent, hist := r.dec.hist }

/-- The DRAM word that holds the first byte of pixel k of a run, once it is put out. -/
def State.windowWord (s : State) (u : CodecUnit) (r : LegRun) (k : Nat) : Option Nat :=
  match s.item? r.item with
  | none => none
  | some x =>
    let ctx := s.legCtx u x r.hdr
    let p := pixelPlace ctx k
    if k < r.dec.produced then (s.phys? ctx.sp (ctx.decode + pixelOffset ctx p.1 p.2)).map (· / 8 * 8) else none

/-- A double-bit error in the band window that the last write-back of a leg meets (R168, R209): EV244, the unit's event with a
cause that no rule numbers, and free bytes in the 64-bit word of the pixel. R173 lets no leg fail for it. -/
def State.windowHit (s : State) (u : CodecUnit) (r : LegRun) (hit : Option WindowHit) : State :=
  match hit with
  | none => s
  | some h =>
    let o : Output := Fin.ofNat 4 r.hdr.output
    let s := s.alcoveLost { alcove := alWindow + 16 * u.val + h.alcove.val, owner := some o }
    let s := s.raiseOpen (32 + u.val) r.hdr.legId.toNat
    match s.windowWord u r h.pixel with
    | none => s
    | some a =>
      let (v, s) := s.take
      s.memWrite a (toLe 8 v.toNat)

/-- The write of a leg's context record into the pending slot of its chain (R165), where CTX is mapped. -/
def State.ctxWrite (s : State) (chain : Nat) : List Xact :=
  if (s.phys? spCTX (ctxSlot chain 2)).isSome then [{ sp := spCTX, off := ctxSlot chain 2, n := 4096, write := true }] else []

/-- LEG_COMPLETE (R165, R167, R192, R209): the leg whose pixels are all written has completed without error, once its context
record can be written. -/
def execLegComplete (t : Nat) (u : CodecUnit) (hit : Option WindowHit) (s : State) : Host.Outcome State Fault Refusal :=
  .next <|
    let s := s.advanceTo t
    match (s.codec u).leg with
    | none => s
    | some r =>
      -- from the decode cutoff on the leg is aborted, not completed (R21)
      if s.frozen || !r.finished || s.pastB (Fin.ofNat 4 r.hdr.output) then s
      else
        match s.transact (rqCodec u) (s.ctxWrite r.hdr.chain) with
        | (.done, s) =>
          let s := s.windowHit u r hit
          let c := s.chain r.hdr.chain
          let s := { s with chains := Sparse.set s.chains r.hdr.chain { c with pend := some (ctxOf r) } }
          let s := s.putCtx r.hdr.chain
          let s := (s.setCodec u { s.codec u with leg := none }).unitEnds u false 0
          let s := s.incFld (CDC_U_DONE_count u.val) 1
          s.updLeg (Fin.ofNat 4 r.hdr.output) r.item fun l => { l with done := true, ended := s.timeNs }
        | (_, s) => s

/-- UNIT_FREE_AFTER_ABORT (R195): the unit has drained and its busy indication clears. -/
def execUnitFreeAfterAbort (t : Nat) (unit : WorkUnit) (s : State) : Host.Outcome State Fault Refusal :=
  .next <|
    let s := s.advanceTo t
    let s := match unit with
      | .codec u =>
        if (s.codec u).draining then
          (s.setCodec u { s.codec u with draining := false }).unitEnds u false (s.fld (CDC_U_STAT_last_outcome u.val))
        else s
      | .blitter =>
        if s.blt.draining then ({ s with blt := { s.blt with draining := false } }).setFld BLT_STAT_busy 0 else s
    allGroups.foldl State.prepareReplies s

/-! ### Capture legs (R178–R182) -/

/-- Charge of the encoder levels in tenths of a cycle per pixel (R180). -/
def encodeCharge10 (level : Nat) : Nat := [10, 15, 20, 40, 60, 100, 200, 400, 640, 1000].getD level 1000

def State.camRec (s : State) (p : Port) : CameraRec := (s.itin.camera[p]).getD {}

/-- Width of a port's capture legs (R393). -/
def capWidth (c : CameraRec) : Nat := if c.space = 2 then c.outWidth / 2 else c.outWidth

/-- May the leg start now (R181)? A cycle takes 0.8 ns. An output that does not scan, or whose next grid instant has been
decided to be no tick (R282), has no cutoff before that instant. -/
def State.encodeFits (s : State) (x : CapLeg) : Bool :=
  let c := s.camRec x.port
  let o := s.camOutput x.port
  let ns100 := x.rows * capWidth c * encodeCharge10 c.level * 8
  !s.scanning o || (s.out o).scan.staticSkip || decide (100 * (s.timeNs + 50000) + ns100 < 100 * (s.out o).cycle.nextTick)

/-- The order of class C entries (R191): capture counter, row, port. -/
def capBefore (a b : CapLeg) : Bool :=
  decide (a.gen < b.gen) || (a.gen == b.gen && (decide (a.row < b.row) || (a.row == b.row && decide (a.port < b.port))))

def firstCap : List CapLeg → Option CapLeg
  | [] => none
  | x :: xs =>
    match firstCap xs with
    | none => some x
    | some y => if capBefore y x then some y else some x

/-- CAPTURE_ENCODE_START (R181, R191): the lowest-numbered free encode-enabled unit takes the first class C entry that may
start, when no class B entry is ready. -/
def execCaptureEncodeStart (t : Nat) (u : CodecUnit) (s : State) : Host.Outcome State Fault Refusal :=
  .next <|
    let s := s.advanceTo t
    if s.frozen || !s.porter.qb.isEmpty || !s.mayEncode u || s.lowestUnit s.mayEncode != some u then s
    else
      match firstCap (s.porter.qc.filter s.encodeFits) with
      | none => s
      | some x =>
        let (v, s) := s.take
        let s := { s with porter := { s.porter with qc := s.porter.qc.filter (· != x) } }
        let s := s.unitTakes u true (s.camRec x.port).chain (v.setWidth 32)
        s.setCodec u { s.codec u with cap := some x, sent := {} }

/-- Is a ring buffer held (R396): being written, with a capture leg not yet ended, or with an item not yet sent? -/
def State.ringHeld (s : State) (r : RingBuf) : Bool :=
  r.writing || r.legs != 0 || decide (s.link.txUp.ownDone < r.sentAt)

/-- The ring buffers of a port that are held no longer are freed, with the rows that lie in them (R396). -/
def State.freeRing (s : State) (p : Port) : State :=
  let c := s.cam p
  let ring := c.ring.filter s.ringHeld
  s.setCam p { c with ring, outRows := c.outRows.filter fun (x : Nat × List Word) => ring.any fun r => r.gen.toNat = x.1 / 65536 }

/-- A capture leg of a frame has ended; its buffer is held until the wagons now queued have started (R396). -/
def State.capLegEnded (s : State) (p : Port) (gen : Word) : State :=
  let c := s.cam p
  let sentAt := s.link.txUp.ownDone + s.link.txUp.q2own.length
  (s.setCam p { c with
    ring := c.ring.map fun r => if r.gen = gen then { r with legs := r.legs - 1, sentAt } else r }).freeRing p

/-- An aborted capture leg: outcome, event and abort wagon (R182, R332). What has been sent of its item stays without LAST. -/
def State.abortCapture (s : State) (u : CodecUnit) (x : CapLeg) (code : Nat) (draining : Bool) : State :=
  let chain := (s.camRec x.port).chain
  let legId := s.reg (CDC_U_LEG u.val)
  let s := s.setCodec u { s.codec u with cap := none, sent := {}, draining }
  let s := (s.unitEnds u draining code).noteOutcome u code legId
  let payload := toLe 2 chain ++ toLe 1 x.port.val ++ toLe 1 code ++ toLe 4 x.gen.toNat ++ toLe 2 x.row ++ zeros 2
  let s := if s.frozen then s else (s.sendUp 0x41 chain payload).raiseOpen 111 (chain % 4096)
  s.capLegEnded x.port x.gen

/-- The header of a capture leg (R178). -/
def capHeader (c : CameraRec) (x : CapLeg) (legId : Word) : LegHeader :=
  { magic := 0xDA4A, version := 1, flags := 3, legId, chain := c.chain, output := c.output, format := c.outFormat
    gen := x.gen, startGen := 0, serial := x.gen, refSerial := 0xFFFFFFFF, viewFirst := x.port.val, viewLast := x.port.val
    rowFirst := x.row, rowCount := x.rows, decoded := x.rows * capWidth c * bppOf c.outFormat, width := capWidth c }

/-! ### The encoder's tokens (R179, R180) -/

/-- Candidates that the hash chain gives at a level (R180). -/
def candidateCount (level : Nat) : Nat := [1, 4, 16, 32, 64, 128, 256, 512, 768, 1024].getD level 1024

/-- A token of a capture leg: the pixel it starts at, the end of its block, the recent offsets it finds. -/
structure EncToken where
  at_ : Nat
  stop : Nat
  recent : List Recent
  token : OpenToken
  deriving DecidableEq, Repr

/-- The tokens of whole blocks, in order; none where they do not decode. -/
def encodedTokens (c : LegCtx) (b : Body) :
    Nat → DecState → State → List EncToken → Option (List EncToken × DecState)
  | 0, _, _, _ => none
  | fuel + 1, d, s, ts =>
    if d.left = 0 then
      match nextBlock c b d with
      | .ok none => some (ts.reverse, d)
      | .ok (some d) => encodedTokens c b fuel d s ts
      | _ => none
    else
      match openToken c b (codesOf d.lens) d with
      | .ok d' =>
        match d'.token with
        | none => none
        | some t =>
          match runToken c b (codesOf d.lens) none t d' s with
          | (none, d', s) =>
            encodedTokens c b fuel d' s
              ({ at_ := d.produced, stop := d.produced + d.left, recent := d.recent, token := t } :: ts)
          | _ => none
      | _ => none

/-- Pixels that are equal from two places on, at most n. -/
def matchLen (px : Array (List Nat)) (q k : Nat) : Nat → Nat
  | 0 => 0
  | n + 1 => if px.getD q [] = px.getD k [] then matchLen px (q + 1) (k + 1) n + 1 else 0

/-- The distance back to the source of an INTRA copy at pixel k; none for another copy and a source outside the leg (R143). -/
def intraBack (w k : Nat) (e : Recent) : Option Nat :=
  let back : Int := e.dy * w - e.dx
  if e.kind = 1 && 0 < back && back ≤ k then some back.toNat else none

/-- The first n places before `k`, nearest first, at which the next two pixels stand (R180). -/
def hashChain (px : Array (List Nat)) (k : Nat) : Nat → Nat → List Nat
  | 0, _ => []
  | q + 1, n =>
    if n = 0 then []
    else if matchLen px q k 2 = 2 then (k - q) :: hashChain px k q (n - 1)
    else hashChain px k q n

/-- The longest match at pixel k of a block that ends at `stop`: its length, and its least distance back among the recent
offsets and in the hash chain. Length 0 where none has 2 pixels (R180). -/
def bestMatch (px : Array (List Nat)) (w level : Nat) (recent : List Recent) (k stop : Nat) :
    Nat × Option Nat × Option Nat :=
  let len (back : Nat) : Nat := matchLen px (k - back) k (stop - k)
  let recents := (recent.take 4).filterMap (intraBack w k)
  let chain := if k + 2 ≤ stop then hashChain px k k (candidateCount level) else []
  let top := ((recents ++ chain).map len).foldl max 0
  if top < 2 then (0, none, none)
  else
    let least (l : List Nat) : Option Nat := leastOf (l.filter fun back => len back = top)
    (top, least recents, least chain)

/-- The copy that the encoder takes at pixel k: its length and its distances back; none where a literal stands (R180). -/
def encoderTakes (px : Array (List Nat)) (w level : Nat) (recent : List Recent) (k stop : Nat) :
    Option (Nat × Option Nat × Option Nat) :=
  let here := bestMatch px w level recent k stop
  if here.1 = 0 then none
  else if 6 ≤ level && here.1 + 2 ≤ (if k + 1 < stop then (bestMatch px w level recent (k + 1) stop).1 else 0) then none
  else some here

/-- Does a token follow the encoder's choice (R180)? A repeat where a recent offset has the longest match, else an INTRA copy,
over the whole match; a literal run where no copy is taken. -/
def choiceOk (px : Array (List Nat)) (w level : Nat) (x : EncToken) : Bool :=
  match x.token.copy with
  | none =>
    (List.range x.token.left).all fun i => (encoderTakes px w level x.recent (x.at_ + i) x.stop).isNone
  | some e =>
    match encoderTakes px w level x.recent x.at_ x.stop with
    | none => false
    | some (n, recent, chain) =>
      x.token.left == n && e.kind == 1 &&
        (if recent.isSome then x.token.rep.isSome && intraBack w x.at_ e == recent
        else x.token.rep.isNone && intraBack w x.at_ e == chain)

/-- Does every block hold the largest pixel count of R135, or what is left of the leg (R179)? -/
def blocksFull (top : Nat) : Nat → Bytes → Nat → Bool
  | 0, bs, _ => bs.isEmpty
  | n + 1, bs, left => leAt bs 4 2 == min top left && blocksFull top n (bs.drop (leAt bs 0 4)) (left - min top left)

/-- Pixels of the leg that the blocks give, where they are what its encoder puts out for its rows (R179, R180); a leg may be
encoded in part. -/
def State.encoded (s : State) (x : CapLeg) (blocks : Bytes) (count : Nat) : Option Nat :=
  let c := s.camRec x.port
  let h := { capHeader c x 0 with rowFirst := 0, compressed := blocks.length, blocks := count }
  let w := capWidth c
  let bpp := bppOf h.format
  let ctx : LegCtx :=
    { rq := 0, hdr := h, sp := 0, decode := 0, display := 0, stockCount := 0, blocksSp := 0, blocksAt := 0, wrap := 0
      live := false, rm := { format := h.format, nu := 8, nv := 1, vw := w, vh := x.rows } }
  let body : Body := { bytes := blocks.toArray, complete := true }
  match encodedTokens ctx body (8 * blocks.length + 2 * count + 2) { recent := freshRecent } s [] with
  | none => none
  | some (tokens, d) =>
    let px := d.window.reverse.toArray
    let rows := Sparse.getD (s.cam x.port).outRows
    let same := (List.range px.size).all fun k =>
      let row := rows (x.gen.toNat * 65536 + x.row + k / w) []
      decide (k % w < row.length) &&
        leNat (bytesOfPixel h.format (px.getD k [])) == (row.getD (k % w) 0).toNat % 2 ^ (8 * bpp)
    if same && blocksFull (min 32768 (65536 / bpp)) count blocks (x.rows * w) && tokens.all (choiceOk px w c.level) then
      some d.produced
    else none

/-- Has another unit sent part of a capture item with the chain (R315: such items do not interleave)? -/
def State.chainOpen (s : State) (u : CodecUnit) (chain : Nat) : Bool :=
  allUnits.any fun (v : CodecUnit) =>
    v != u && (s.codec v).sent.bytes != 0 && (s.codec v).cap.any fun y => (s.camRec y.port).chain = chain

/-- Transactions with which n new pixels of a leg are encoded into `bytes` bytes: reads of CAP, writes of the allocation, reads
of the egress (R193). -/
def encodeCost (pixelBytes bytes : Nat) : Nat := ceilDiv pixelBytes 64 + 2 * ceilDiv bytes 64

/-- CAPTURE_LEG_COMPLETE (R179–R182, R332): the encoder has come so far with its leg that its blocks are the given ones. What is
new of them is sent; with the last pixel the trailer ends the item. Without VC2 credit the encoder stalls; a leg that exceeds its
allocation fails. -/
def execCaptureLegComplete (t : Nat) (u : CodecUnit) (blocks : Bytes) (blockCount : Nat) (s : State) :
    Host.Outcome State Fault Refusal :=
  .next <|
    let s := s.advanceTo t
    match (s.codec u).cap, (s.codec u).cap.bind fun x => s.encoded x blocks blockCount with
    | some x, some pixels =>
      let c := s.camRec x.port
      let sent := (s.codec u).sent
      if s.frozen || s.pastCD (s.camOutput x.port) || blocks.take sent.body.length != sent.body then s
      else
        let whole := pixels = x.rows * capWidth c
        let part := (if sent.bytes = 0 then legHeaderBytes (capHeader c x (s.reg (CDC_U_LEG u.val))) else []) ++
          blocks.drop sent.body.length ++ (if whole then toLe 4 blocks.length ++ toLe 4 blockCount else [])
        if c.alloc < 64 + blocks.length + 8 then s.abortCapture u x 0x30 false
        else if s.chainOpen u c.chain || (s.hopUsed .up && !s.ownCredit part.length) then s.setFld (CDC_U_STAT_stall u.val) 2
        else
          let new := pixels - sent.pixels
          match s.pay 2 (rqCodec u) (encodeCost (new * bppOf c.outFormat) part.length) with
          | (false, s) => s
          | (true, s) =>
            let s := s.setFld (CDC_U_STAT_stall u.val) 0
            let s := s.addPair (CDC_U_PIX_LO u.val) (CDC_U_PIX_HI u.val) new
            let s := s.sendPart 0x40 c.chain sent.bytes whole part
            if whole then
              let s := (s.setCodec u { s.codec u with cap := none, sent := {} }).unitEnds u false 0
              (s.incFld (CDC_U_DONE_count u.val) 1).capLegEnded x.port x.gen
            else
              s.setCodec u { s.codec u with
                sent := { bytes := sent.bytes + part.length, pixels, body := blocks } }
    | _, _ => s

end Sys2Proof.Machine
end

