-- ==== Sys2Proof/Machine/Blit.lean ====
section
/-!
DEFINITION. The blitter (R398–R412): lists and their checks, pixel arithmetic, the five commands, the card's render.
-/
namespace Sys2Proof.Machine

/-! ### Formats (R399, R401, R402) -/

def fmtARGB : Nat := 0
def fmt565 : Nat := 1
def fmtA8 : Nat := 2
def fmt1010 : Nat := 3
def fmtA1 : Nat := 4

/-- Bytes of a pixel; A1 rows are counted in bits elsewhere. -/
def fmtBytes (f : Nat) : Nat := match f with | 0 => 4 | 1 => 2 | 2 => 1 | 3 => 4 | _ => 1

/-- Bytes of a row of w pixels (R401). -/
def rowBytes (f w : Nat) : Nat := if f = 4 then ceilDiv w 8 else w * fmtBytes f

/-- A colour: alpha and components of 8 or 10 bits. -/
structure Argb where
  a : Nat
  r : Nat
  g : Nat
  b : Nat
  deriving DecidableEq, Repr

/-- An ARGB8888 word (assumption log 13). -/
def argbOf (w : Nat) : Argb := { a := bits w 31 24, r := bits w 23 16, g := bits w 15 8, b := bits w 7 0 }
def wordOfArgb (c : Argb) : Nat := c.a * 2 ^ 24 + c.r * 2 ^ 16 + c.g * 2 ^ 8 + c.b

/-- Widening by repeating the top bits (R402). -/
def widen5 (c : Nat) : Nat := c * 8 + c / 4
def widen6 (c : Nat) : Nat := c * 4 + c / 16
def widen8to10 (c : Nat) : Nat := c * 4 + c / 64

/-- Narrowing from b to b' bits, to the nearest code (R402). -/
def narrow (b b' c : Nat) : Nat := (c * (2 ^ b' - 1) + (2 ^ b - 1) / 2) / (2 ^ b - 1)

/-- A pixel in a format as a colour at 8 bits, 10 bits for RGB101010; formats without alpha read alpha as 255. -/
def unpack (f p : Nat) : Argb :=
  match f with
  | 0 => argbOf p
  | 1 => { a := 255, r := widen5 (bits p 15 11), g := widen6 (bits p 10 5), b := widen5 (bits p 4 0) }
  | 2 => { a := p, r := 0, g := 0, b := 0 }
  | _ => { a := 255, r := bits p 9 0, g := bits p 19 10, b := bits p 29 20 }

/-- A colour at the width of `unpack` as a pixel of a format. -/
def pack (f : Nat) (c : Argb) : Nat :=
  match f with
  | 0 => wordOfArgb c
  | 1 => narrow 8 5 c.r * 2 ^ 11 + narrow 8 6 c.g * 2 ^ 5 + narrow 8 5 c.b
  | 2 => c.a
  | _ => c.r + c.g * 2 ^ 10 + c.b * 2 ^ 20

/-- An 8-bit colour at the width of a destination format. -/
def atWidth (f : Nat) (c : Argb) : Argb :=
  if f = 3 then { c with r := widen8to10 c.r, g := widen8to10 c.g, b := widen8to10 c.b } else c

/-- An ARGB8888 colour as a pixel of a format (R402). -/
def colourAs (f colour : Nat) : Nat := pack f (atWidth f (argbOf colour))

/-- Straight-alpha src-over (R403): source colour at the destination's width with its alpha, destination pixel. -/
def blendPixel (f : Nat) (s : Argb) (dst : Nat) : Nat :=
  let d := unpack f dst
  let a := s.a
  let ao := a + (d.a * (255 - a) + 127) / 255
  if ao = 0 then 0
  else
    let mix (cs cd : Nat) : Nat := (cs * a * 255 + cd * d.a * (255 - a) + ao * 255 / 2) / (ao * 255)
    pack f { a := ao, r := mix s.r d.r, g := mix s.g d.g, b := mix s.b d.b }

/-- The five operations on one element: the new destination pixel, or none where it stays. -/
def element (c : BlitCmd) (src dst : Nat) : Option Nat :=
  match c.op with
  | 1 => some src
  | 2 => some (colourAs c.dfmt c.colour.toNat)
  | 3 => some (blendPixel c.dfmt (atWidth c.dfmt (argbOf src)) dst)
  | 4 =>
    let key := colourAs c.sfmt c.colour.toNat
    let mask := colourAs c.sfmt c.colour2.toNat
    if (src ^^^ key) &&& mask != 0 then some src else none
  | _ =>
    if c.sfmt = 4 then
      if src = 1 then some (colourAs c.dfmt c.colour.toNat)
      else if bit c.flags 2 then some (colourAs c.dfmt c.colour2.toNat)
      else none
    else
      let fg := argbOf c.colour.toNat
      let a := (src * fg.a + 127) / 255
      if c.dfmt = 2 then some a else some (blendPixel c.dfmt (atWidth c.dfmt { fg with a }) dst)

/-! ### Lists (R398) -/

/-- A command of 48 bytes (R399). -/
def parseBlit (b : Bytes) : BlitCmd :=
  { op := leAt b 0 1, flags := leAt b 1 1, sfmt := leAt b 2 1, dfmt := leAt b 3 1, width := leAt b 4 2
    height := leAt b 6 2, sspace := leAt b 8 1, dead := leAt b 0xA 2, spitch := leAt b 0xC 4, soffset := leAt b 0x10 8
    dspace := leAt b 0x18 1, dpitch := leAt b 0x1C 4, doffset := leAt b 0x20 8
    colour := BitVec.ofNat 32 (leAt b 0x28 4), colour2 := BitVec.ofNat 32 (leAt b 0x2C 4)
    reservedZero := zeroAt b 9 1 && zeroAt b 0x19 3 }

/-- Does a list header keep R398 for an output and, for an OVERLAY item, its serial? -/
def listHeaderOk (o : Output) (size : Nat) (b : Bytes) : Bool :=
  decide (16 ≤ size) && leAt b 0 2 == 0xB175 && leAt b 2 1 == 1 && leAt b 3 1 == o.val && decide (leAt b 4 1 < 4) &&
    zeroAt b 5 1 && decide (1 ≤ leAt b 6 2) && decide (leAt b 6 2 ≤ 4096) && zeroAt b 0xC 4 &&
    decide (16 + 48 * leAt b 6 2 ≤ size)

/-- The commands of a list. -/
def listCmds (b : Bytes) : List BlitCmd :=
  (List.range (leAt b 6 2)).map fun i => parseBlit (slice b (16 + 48 * i) 48)

/-! ### Checks (R399–R401, R408) -/

/-- EV169: op, flags or format pair. -/
def formBad (card : Bool) (c : BlitCmd) : Bool :=
  let pair :=
    match c.op with
    | 1 => c.sfmt == c.dfmt && decide (c.dfmt < 4)
    | 2 => c.sfmt == 0 && decide (c.dfmt < 4)
    | 3 => c.sfmt == 0 && (c.dfmt == 0 || c.dfmt == 1 || c.dfmt == 3)
    | 4 => c.sfmt == c.dfmt && (c.dfmt == 0 || c.dfmt == 1 || c.dfmt == 3)
    | 5 => (c.sfmt == 2 || c.sfmt == 4) && decide (c.dfmt < 4)
    | _ => false
  let source :=
    if c.op = 2 then c.sspace == 0 && c.spitch == 0 && c.soffset == 0
    else c.sspace == 10 || (!card && (c.sspace == 5 || c.sspace == 6))
  !pair || !source || decide (8 ≤ c.flags) || (bit c.flags 2 && c.op != 5) || !c.reservedZero || c.width == 0 ||
    decide (16384 < c.width) || c.height == 0 || decide (16384 < c.height) || decide (1023 < c.dead) ||
    !(c.dspace == 7 || c.dspace == 10)

/-- EV170: alignment or pitch. -/
def alignBad (c : BlitCmd) : Bool :=
  let bad (f pitch off : Nat) : Bool := pitch % 64 != 0 || decide (pitch < rowBytes f c.width) || off % fmtBytes f != 0
  (c.op != 2 && bad c.sfmt c.spitch c.soffset) || bad c.dfmt c.dpitch c.doffset

/-- The byte after the last one a rectangle touches. -/
def rectEnd (f w h pitch off : Nat) : Nat := off + (h - 1) * pitch + rowBytes f w

/-- EV171 and EV172: bytes outside the space or the plane's buffer, and spaces that no room is mapped to. -/
def State.rangeBad (s : State) (o : Output) (c : BlitCmd) : Option Nat :=
  let srcEnd := rectEnd c.sfmt c.width c.height c.spitch c.soffset
  let dstEnd := rectEnd c.dfmt c.width c.height c.dpitch c.doffset
  let dstTop := if c.dspace = 7 then ovlBufferBytes (s.outRec o) else s.spaceRooms c.dspace * roomBytes
  if (c.op != 2 && (s.phys? c.sspace 0).isNone) || (s.phys? c.dspace 0).isNone then some 4
  else if (c.op != 2 && decide (s.spaceRooms c.sspace * roomBytes < srcEnd)) || decide (dstTop < dstEnd) then some 3
  else none

/-- Checks of one command: the cause 1–5 of EV168–172 less 1, or none. -/
def State.checkBlit (s : State) (o : Output) (card : Bool) (c : BlitCmd) : Option Nat :=
  if formBad card c then some 1 else if alignBad c then some 2 else s.rangeBad o c

/-! ### Running one command (R406) -/

/-- Where a command reads and writes: physical bases, and the LEG pool's size for a source that wraps. -/
structure BlitPlace where
  src : Nat
  srcStart : Nat
  srcSize : Nat
  dst : Nat

/-- Physical places of a command of a list: `base` is the item's offset in LEG, `buf` the buffer of the plane drawn on. -/
def State.blitPlace (s : State) (o : Output) (plane buf base : Nat) (c : BlitCmd) : BlitPlace :=
  { src := (s.phys? c.sspace 0).getD 0
    srcStart := if c.sspace = 5 then base else 0
    srcSize := max 1 (s.spaceRooms c.sspace * roomBytes)
    dst := (s.phys? c.dspace 0).getD 0 + (if c.dspace = 7 then s.ovlBase o plane buf else 0) }

/-- A source pixel at column x of row y. -/
def State.readSrc (s : State) (p : BlitPlace) (c : BlitCmd) (x y : Nat) : Nat :=
  let row := c.soffset + y * c.spitch
  let byteAt (a : Nat) : Nat := p.src + (p.srcStart + a) % p.srcSize
  if c.sfmt = 4 then b2n ((leNat (s.memBytes (byteAt (row + x / 8)) 1)).testBit (7 - x % 8))
  else leNat (s.memBytes (byteAt (row + x * fmtBytes c.sfmt)) (fmtBytes c.sfmt))

/-- One element: source and destination read, then the destination written. -/
def State.doElement (p : BlitPlace) (c : BlitCmd) (s : State) (x y : Nat) : State :=
  let a := p.dst + c.doffset + y * c.dpitch + x * fmtBytes c.dfmt
  let n := fmtBytes c.dfmt
  let src := if c.op = 2 then 0 else s.readSrc p c x y
  match element c src (leNat (s.memBytes a n)) with
  | some v => s.memWrite a (toLe n v)
  | none => s

/-- The positions 0 … n − 1 in the order of a direction bit. -/
def directed (back : Bool) (n : Nat) : List Nat := if back then (List.range n).reverse else List.range n

/-- A whole command, element by element in the order of R406. -/
def State.runElements (s : State) (p : BlitPlace) (c : BlitCmd) : State :=
  (directed (bit c.flags 1) c.height).foldl (fun (s : State) y =>
    (directed (bit c.flags 0) c.width).foldl (fun (s : State) x => s.doElement p c x y) s) s

/-- A command of a list on a buffer of its plane. -/
def State.drawBlit (s : State) (o : Output) (plane buf base : Nat) (c : BlitCmd) : State :=
  s.runElements (s.blitPlace o plane buf base c) c

/-- Does what a command writes depend on the pixels that stand there (R403–R405)? -/
def drawsOver (c : BlitCmd) : Bool :=
  c.op == 3 || c.op == 4 || (c.op == 5 && !(if c.sfmt = 4 then bit c.flags 2 else c.dfmt == 2))

/-- The accesses of a command, row by row in its order (R406, R410): the source row, then the destination row. -/
def State.blitXacts (s : State) (o : Output) (plane buf base : Nat) (c : BlitCmd) : List Xact :=
  let ovl := if c.dspace = 7 then s.ovlBase o plane buf else 0
  let size := max 1 (s.spaceRooms c.sspace * roomBytes)
  (directed (bit c.flags 1) c.height).flatMap fun y =>
    let n := rowBytes c.sfmt c.width
    let a := ((if c.sspace = 5 then base else 0) + c.soffset + y * c.spitch) % size
    let first := min n (size - a)
    let src : List Xact :=
      if c.op = 2 then []
      else ([(a, first), (0, n - first)].filter fun p => p.2 != 0).map fun p => { sp := c.sspace, off := p.1, n := p.2, write := false }
    src ++ [{ sp := c.dspace, off := ovl + c.doffset + y * c.dpitch, n := rowBytes c.dfmt c.width, write := true
              merge := drawsOver c }]

/-- Fabric cycles of 1 ns that a command takes (R410): 4 a transaction of 64 bytes, and after every burst of up to 16 of them
its dead time or the least one. -/
def State.blitCycles (s : State) (o : Output) (plane buf base : Nat) (c : BlitCmd) : Nat :=
  let n := ((s.blitXacts o plane buf base c).flatMap fun x => unitXacts x.off x.n x.write x.merge).foldl
    (fun n u => n + u.cost) 0
  4 * n + ceilDiv n 16 * max c.dead (s.fld BLT_DEAD_MIN_cycles)

/-! ### Progress of a list (R407–R409) -/

/-- A list's plane is marked: completed, unless another of its lists was abandoned in this frame. -/
def State.markPlane (s : State) (o : Output) (plane : Nat) (ok : Bool) : State :=
  s.updCycle o fun c =>
    let i : Fin 4 := Fin.ofNat 4 plane
    { c with planes := c.planes.set i (some (ok && (c.planes.get i).getD true)) }

/-- A list or card render abandoned at a command (R408, R409): cause 0–4 of EV168–172, or EV173 for a card; 7 cutoff. -/
def State.abandonList (s : State) (o : Output) (plane : Nat) (card : Bool) (cause index : Nat) (draining : Bool) : State :=
  let code := if cause = 7 then 7 else if card then 6 else cause + 1
  let s := ({ s with blt := { s.blt with run := none, draining } }).busyMember 37
  let s := (s.incFld BLT_FAIL_count 1).setReg BLT_LAST_ERR
    (BitVec.ofNat 32 (o.val * 2 ^ 30 + code * 2 ^ 24 + index % 4096))
  let s := s.setFld BLT_STAT_busy (b2n draining)
  let s := s.markPlane o plane false
  if cause = 7 then s else s.raiseOpen (if card then 173 else 168 + cause) (o.val * 2 ^ 30 + index % 4096)

/-- The list in hand stands before its next command: it is complete, or that command is checked. -/
def State.nextBlit (s : State) (r : ListRun) : State :=
  match r.cmds[r.index]? with
  | none =>
    let s := ({ s with blt := { s.blt with run := none } }).busyMember 37
    ((s.setFld BLT_STAT_busy 0).incFld BLT_DONE_count 1).markPlane r.out r.plane true
  | some c =>
    match s.checkBlit r.out r.card c with
    | some cause =>
      -- an unmapped space is a refused access (R203)
      let src := c.op != 2 && (s.phys? c.sspace 0).isNone
      let s := if cause != 4 then s
        else if src then s.noteFault 1 (c.sspace % 16) rqBlitter c.soffset false
        else s.noteFault 1 (c.dspace % 16) rqBlitter c.doffset true
      s.abandonList r.out r.plane r.card cause r.index false
    | none => ({ s with blt := { s.blt with run := some { r with since := s.now } } }).setFld BLT_STAT_cmd (r.index % 4096)

/-- May the blitter take a waybill? -/
def State.blitFree (s : State) : Bool := s.blt.run.isNone && !s.blt.draining && s.accepts 37 && !s.frozen

/-- The blitter takes a list: its header is checked first. -/
def State.beginList (s : State) (o : Output) (card : Bool) (plane base : Nat) (b : Bytes) : State :=
  let s := s.setReg BLT_STAT (BitVec.ofNat 32 (2 ^ 31 + b2n card * 2 ^ 30 + o.val * 2 ^ 28))
  if !listHeaderOk o b.length b then s.abandonList o plane card 0 0 false
  else s.nextBlit { out := o, plane, card, base, size := b.length, cmds := listCmds b }

/-- A list or card that the blitter takes. A double-bit error in its working store (R209) raises EV244 and abandons the list
with the blitter's event for a refused access. -/
def State.takeList (s : State) (o : Output) (card : Bool) (plane base : Nat) (b : Bytes) (hit : Option (Fin 8)) : State :=
  match hit with
  | none => s.beginList o card plane base b
  | some k =>
    let s := s.alcoveLost { alcove := s.alBlit + k.val, owner := some o }
    (s.setReg BLT_STAT (BitVec.ofNat 32 (2 ^ 31 + b2n card * 2 ^ 30 + o.val * 2 ^ 28))).abandonList o plane card 4 0 false

/-- OVERLAY_LIST_DISPATCH (R191, R192, R209): the blitter takes an output's next overlay list in arrival order, once it can be
read. -/
def execOverlayListDispatch (t : Nat) (o : Output) (hit : Option (Fin 8)) (s : State) : Host.Outcome State Fault Refusal :=
  .next <|
    let s := s.advanceTo t
    let mine := s.porter.qd.filterMap fun w => match w with
      | .list x n => if x = o then some n else none
      | _ => none
    if !s.blitFree then s
    else
      match leastOf mine with
      | none => s
      | some n =>
        let take (s : State) : State :=
          { s with porter := { s.porter with qd := s.porter.qd.filter (· != ClassD.list o n) } }
        match s.item? n with
        | none => take s
        | some x =>
          let b := s.itemBytes x 0 x.got
          let plane := leAt b 4 1 % 4
          match s.transact rqBlitter (s.itemXacts x 0 x.got false) with
          | (.done, s) => (take s).takeList o false plane x.offset b hit
          | (.refused, s) => (take s).abandonList o plane false 4 0 false
          | (_, s) => s

def State.cardRec (s : State) (o : Output) : CardRec := (s.itin.card[o]).getD {}

/-- STATIC_CARD_RENDER (R191, R209, R407, R412): the card's waybill, behind the overlay lists of its output. -/
def execStaticCardRender (t : Nat) (o : Output) (hit : Option (Fin 8)) (s : State) : Host.Outcome State Fault Refusal :=
  .next <|
    let s := s.advanceTo t
    let lists := s.porter.qd.any fun w => match w with
      | .list x _ => x == o
      | _ => false
    if !s.blitFree || lists || !s.porter.qd.contains (ClassD.card o) then s
    else
      let s := { s with porter := { s.porter with qd := s.porter.qd.filter (· != ClassD.card o) } }
      let r := s.cardRec o
      s.takeList o true (r.plane % 4) 0 r.list hit

/-- The blitter's command in hand ends when its op is the given one, once its transactions, of class D, have had their time and
their tokens (R192, R410). -/
def State.stepBlit (s : State) (op : Nat) : State :=
  match s.blt.run with
  | none => s
  | some r =>
    match r.cmds[r.index]? with
    | none => s
    | some c =>
      if s.frozen || c.op != op || s.pastCD r.out then s
      else
        let buf := 1 - s.frontBuf r.out r.plane
        if !s.elapsed r.since (edgesNs (s.blitCycles r.out r.plane buf r.base c)) then s
        else
          match s.transact rqBlitter (s.blitXacts r.out r.plane buf r.base c) with
          | (.done, s) => (s.drawBlit r.out r.plane buf r.base c).nextBlit { r with index := r.index + 1 }
          | (.refused, s) => s.abandonList r.out r.plane r.card 4 r.index false
          | (_, s) => s

/-- COPY (R400, R406). -/
def execCopy (t : Nat) (s : State) : Host.Outcome State Fault Refusal := .next ((s.advanceTo t).stepBlit 1)

/-- FILL (R399, R402). -/
def execFill (t : Nat) (s : State) : Host.Outcome State Fault Refusal := .next ((s.advanceTo t).stepBlit 2)

/-- BLEND (R403). -/
def execBlend (t : Nat) (s : State) : Host.Outcome State Fault Refusal := .next ((s.advanceTo t).stepBlit 3)

/-- KEY (R404). -/
def execKey (t : Nat) (s : State) : Host.Outcome State Fault Refusal := .next ((s.advanceTo t).stepBlit 4)

/-- GLYPH (R405). -/
def execGlyph (t : Nat) (s : State) : Host.Outcome State Fault Refusal := .next ((s.advanceTo t).stepBlit 5)

/-- The card drawn into both buffers of its plane before the first tick (R411); a list that breaks a rule raises EV173. -/
def State.drawCard (s : State) (o : Output) : State :=
  let r := s.cardRec o
  let draw (s : State) (buf : Nat) : State :=
    ((listCmds r.list).foldl (fun (acc : State × Bool) c =>
      if acc.2 || (acc.1.checkBlit o true c).isSome then (acc.1, true)
      else (acc.1.drawBlit o (r.plane % 4) buf 0 c, false)) (s, false)).1
  if !listHeaderOk o r.list.length r.list then s.raiseOpen 173 (o.val * 2 ^ 30)
  else
    match (listCmds r.list).findIdx? fun c => (s.checkBlit o true c).isSome with
    | some i => (draw (draw s 0) 1).raiseOpen 173 (o.val * 2 ^ 30 + i)
    | none => draw (draw s 0) 1

end Sys2Proof.Machine
end

