-- ==== Sys2Proof/Machine/Admission.lean ====
section
/-!
DEFINITION. Admission (R36–R46) and the token-bucket rates that follow from it (R193). All checks are exact: every load is
a sum of fractions over the tick periods.
-/
namespace Sys2Proof.Machine

/-- The engine clock in units of 0.25 GHz at a throttle level (R443) and under the CLOCKS record's cap (chapter 13). -/
def clockOf (level : Nat) : Nat := match level with | 0 => 5 | 1 => 4 | _ => 2

/-- The engine clock that admission counts: the lower of the throttle step and the cap. -/
def State.engineClock (s : State) : Nat := min (clockOf (s.fld THM_STATE_level)) (clockOf s.itin.engineCap)

/-- What one output loads (R36–R40, R193). Decode cycles are doubled, and each port's encode cycles of one capture
frame in tenths stand beside the frames that share them, so that all are whole. -/
structure Load where
  out : Output
  rays : Nat
  cost : Nat
  dram256 : Nat
  dec2 : Nat
  enc : List (Nat × Nat)
  classB : Nat
  classC : Nat
  classD : Nat
  deriving DecidableEq, Repr

/-- The ports whose CAMERA record names an output. -/
def State.portsOf (s : State) (o : Output) : List Port :=
  allPorts.filter fun p => (s.itin.camera[p]).any fun c => c.output = o.val

/-- Encode cycles of a port's capture frame in tenths, and the frames that share them (R40). -/
def State.encodeLoad (s : State) (p : Port) : Nat × Nat :=
  let c := s.camRec p
  (if c.encode then capWidth c * c.outHeight * encodeCharge10 c.level else 0, max 1 c.fsyncDiv)

/-- Capture output bytes per frame of a port. -/
def State.captureLoad (s : State) (p : Port) : Nat := if (s.camRec p).encode then Config.captureBytes p.val else 0

/-- The load of an output; `first` is the lowest-numbered active output, which carries the log (R39). -/
def State.load (s : State) (first : Bool) (o : Output) : Load :=
  let r := s.raymode o
  let slot := bits (s.out o).render.cfg.toNat 17 16
  let prog := (s.itin.prog.get (Fin.ofNat 4 slot)).getD {}
  let (compressed, window) := match s.itin.codec with
    | some c => c.outs.getD o.val (0, 0)
    | none => (0, 0)
  let pixels := r.nu * r.nv * r.vw * r.vh
  let write := pixels * (if r.format = 0 then 3 else 4) + (if r.depth then 2 * pixels else 0)
  let taps := ((s.portsOf o).map fun p => ((s.itin.isp[p]).getD {}).tapBytes).sum
  let cap := ((s.portsOf o).map s.captureLoad).sum
  let log := if first then s.itin.logBytes else 0
  { out := o
    rays := s.wsub o * s.lines o
    cost := prog.cost
    dram256 := 256 * (write + 2 * compressed + cap + window + r.ovlBytes + taps + log) + write * prog.vrf
    dec2 := 2 * pixels + (if r.depth then pixels else 0)
    enc := (s.portsOf o).map s.encodeLoad
    classB := write + compressed + window
    classC := taps + 2 * cap
    classD := r.ovlBytes + log }

/-- A sum of fractions as a numerator over the product of the denominators. -/
def sumFrac : List (Nat × Nat) → Nat × Nat
  | [] => (0, 1)
  | (n, d) :: xs =>
    let (m, e) := sumFrac xs
    (n * e + m * d, d * e)

/-- The check that fails first (R37, R38, R40): 0 none, 1 engine, 2 DRAM, 3 decode overload, 4 encode overload. Periods are
in ns; `clock` in 0.25 GHz, `rate` the DRAM transfer rate in MT/s of each of `chans` populated channels (R216). -/
def failing (clusters clock chans rate : Nat) (sel : List (Load × Nat)) : Nat :=
  let (en, ed) := sumFrac (sel.map fun (l, p) => (l.rays * l.cost, max 1 p))
  let (dn, dd) := sumFrac (sel.map fun (l, p) => (l.dram256, 256 * max 1 p))
  -- decode cycles per ns, and with the encode cycles added
  let decode := sel.map fun (l, p) => (l.dec2, 2 * max 1 (p - 250000))
  let encode := sel.flatMap fun (l, p) => l.enc.map fun (n, d) => (n, 10 * d * max 1 (p - 250000))
  let short (f : Load → Nat) : Bool := sel.any fun (l, p) => decide (p ≤ 250000) && f l != 0
  let above (ts : List (Nat × Nat)) : Bool :=
    let (n, d) := sumFrac ts
    decide (17 * d < n)
  -- 0.85 × clusters × 128 × clock / 4 lane-cycles per ns; 0.70 × channels × 8 B × rate
  if 272 * clusters * clock * ed < 10 * en then 1
  else if 56 * chans * rate * dd < 10000 * dn then 2
  else if short (·.dec2) || above decode then 3
  else if short (fun l => (l.enc.map (·.1)).sum) || above (decode ++ encode) then 4
  else 0

/-- DRAM transfer rates (DRC_CFG speed). -/
def transferRate (code : Nat) : Nat := match code with | 0 => 2400 | 1 => 2666 | 2 => 2933 | _ => 3200

/-! ### Candidates (R41) -/

/-- The bands of an output, and the one in effect. -/
def State.bands (s : State) (o : Output) : List BandRec := s.itin.bands[o]
def State.bandNow (s : State) (o : Output) : BandRec := (s.bands o).getD (s.fld (PNL_BAND_band o.val)) {}

/-- The period of a band's maximum refresh in 0.01 Hz. -/
def maxRefreshPeriod (b : BandRec) : Nat := ceilDiv 100000000000 (max 1 b.maxRefresh)

/-- The candidates of an output in order: period and number. -/
def State.candidates (s : State) (o : Output) : List (Nat × Nat) :=
  let b := s.bandNow o
  let all := ((s.outRec o).period :: (s.itin.fallback[o]).take 8).zipIdx
  let ok := all.filter fun (p, _) => decide (b.minRefresh * p ≤ 100000000000) && decide (100000000000 ≤ b.maxRefresh * p)
  if ok.isEmpty then [(maxRefreshPeriod b, 9)] else ok

/-- What admission gives an output: period, candidate, void, last failing check. -/
structure Admitted where
  out : Output
  period : Nat
  cand : Nat
  void : Bool
  cause : Nat
  deriving DecidableEq, Repr

/-- An output with its load and the candidates left to it. -/
structure Trial where
  load : Load
  all : List (Nat × Nat)
  left : List (Nat × Nat)

/-- The candidate of longest period. -/
def slowest : List (Nat × Nat) → Nat × Nat
  | [] => (1, 0)
  | x :: xs => xs.foldl (fun b y => if b.1 < y.1 then y else b) x

/-- The last trial that has another candidate gives up its first (R42); none when every output has one left. -/
def stepDown : List Trial → Option (List Trial)
  | [] => none
  | t :: ts =>
    match stepDown ts with
    | some ts' => some (t :: ts')
    | none =>
      match t.left with
      | _ :: y :: ys => some ({ t with left := y :: ys } :: ts)
      | _ => none

/-- The search of R42 and R43. -/
def admitSearch (clusters clock chans rate : Nat) : Nat → List Trial → Nat → List Admitted
  | 0, _, _ => []
  | fuel + 1, ts, cause =>
    let c := failing clusters clock chans rate (ts.map fun t => (t.load, (t.left.headD (1, 0)).1))
    if c = 0 then ts.map fun t =>
      { out := t.load.out, period := (t.left.headD (1, 0)).1, cand := (t.left.headD (1, 0)).2, void := false, cause }
    else
      match stepDown ts with
      | some ts' => admitSearch clusters clock chans rate fuel ts' c
      | none => ts.map fun t =>
        let (p, k) := slowest t.all
        { out := t.load.out, period := p, cand := k, void := true, cause := c }

/-- Admission over some outputs (R36–R44). Unless it may raise rates, an output does not return to a candidate before the
one that the latest admission gave it. -/
def State.admission (s : State) (outs : List Output) (mayRaise : Bool) : List Admitted :=
  let trial (o : Output) : Trial :=
    let all := s.candidates o
    let now := (s.out o).cycle.target
    let rest := all.dropWhile fun c => c.2 != now
    { load := s.load (outs.head? == some o) o, all, left := if mayRaise || rest.isEmpty then all else rest }
  let ts := outs.map trial
  admitSearch s.clusters.length s.engineClock (s.fld DRC_CFG_channels) (transferRate (s.fld DRC_CFG_speed)) ((ts.map (·.left.length)).sum + 1) ts 0

/-- The result of admission written for one output; EV233 where no candidate passed (R43). -/
def State.applyAdmitted (s : State) (a : Admitted) : State :=
  let o := a.out.val
  let s := s.setReg (PTR_OUT_PERIOD o) (BitVec.ofNat 32 a.period)
  let s := s.setReg (PTR_OUT_ADM o) (BitVec.ofNat 32 (b2n a.void * 2 ^ 31 + a.cand * 2 ^ 16 + a.cause))
  if a.void then s.raise 233 a.cause (o * 2 ^ 30 + a.cause) else s

/-- Every output of an admission starts the next one from what this one gave it. -/
def State.noteTargets (s : State) (res : List Admitted) : State :=
  res.foldl (fun (s : State) a => s.updCycle a.out fun c => { c with target := a.cand }) s

/-- The token buckets set from an admission result (R193), unless held. -/
def State.setBuckets (s : State) (res : List Admitted) : State :=
  if s.fld PTR_TB_CTRL_hold = 1 then s
  else
    let first := (res.head?.map (·.out))
    let rate (f : Load → Nat) (cut : Nat) : Nat :=
      let (n, d) := sumFrac (res.map fun a => (f (s.load (first == some a.out) a.out), max 1 (a.period - cut)))
      max 1 (ceilDiv (1250 * n) (64 * d))
    let put (s : State) (i r : Nat) : State :=
      (s.setFld (PTR_TB_RATE_rate i) (min r 65535)).setFld (PTR_TB_DEPTH_depth i) (min (16 * r) 16777215)
    put (put (put s 0 (rate (·.classB) 250000)) 1 (rate (·.classC) 50000)) 2 (rate (·.classD) 50000)

/-! ### Grid instants (R46, R343) -/

/-- The first instant at or after `from_` that is congruent to phase modulo a period. -/
def gridFrom (from_ period phase : Nat) : Nat :=
  let p := max 1 period
  from_ + (phase % p + p - from_ % p) % p

end Sys2Proof.Machine
end

