-- ==== Sys2Proof/Machine/Frame.lean ====
section
/-!
DEFINITION. The frame cycle (R13–R35, R190, R194, R280–R282, R369): the parts of the tick service, its end, the cutoffs and static
refresh.
-/
namespace Sys2Proof.Machine

/-! ### The decode cutoff (R20, R27, R194) -/

/-- The flip marker of the decode serial. -/
def Cycle.marker? (c : Cycle) : Option Marker := c.decode.bind fun d => c.markers.find? fun m => m.serial = d

/-- The legs of the decode serial, in order of arrival. -/
def Cycle.mine (c : Cycle) : List LegRec := c.legs.filter fun l => some l.serial = c.decode

/-- Does a marker's entry name a leg? -/
def LegRec.named (l : LegRec) (e : Word × Nat) : Bool := l.legId = e.1 && l.chain = e.2

/-- The legs that the entries name, entry by entry, and the legs left over. Of several legs with one leg_id and chain each
entry takes the next one; an entry for which none is left names the first (assumption log 206). -/
def matchLegs (all : List LegRec) : List (Word × Nat) → List LegRec → List (Option LegRec) × List LegRec
  | [], left => ([], left)
  | e :: es, left =>
    match left.find? (·.named e) with
    | some l => let (ms, rest) := matchLegs all es (left.erase l); (some l :: ms, rest)
    | none => let (ms, rest) := matchLegs all es left; (all.find? (·.named e) :: ms, rest)

/-- The legs of the decode serial that a marker lists. -/
def Cycle.listed (c : Cycle) (m : Marker) : List (Option LegRec) := (matchLegs c.mine m.legs c.mine).1

/-- The legs of the decode serial that a marker does not list. -/
def Cycle.unlisted (c : Cycle) (m : Marker) : List LegRec := (matchLegs c.mine m.legs c.mine).2

/-- The TIME_NS of the decode cutoff before the coming tick (R16). -/
def Cycle.cutoff (c : Cycle) : Nat := c.nextTick - 250000

/-- The marker of the decode serial, if it is stamped earlier than the cutoff (R21). -/
def Cycle.markerInTime (c : Cycle) : Option Marker := c.marker?.filter fun m => decide (m.stamp < c.cutoff)

/-- Has a leg completed without error, or has it ended with an outcome, earlier than the cutoff (R21)? -/
def Cycle.doneInTime (c : Cycle) (l : LegRec) : Bool := l.done && decide (l.ended < c.cutoff)
def Cycle.failedInTime (c : Cycle) (l : LegRec) : Bool :=
  (l.outcome.any fun x => decide (0x10 ≤ x)) && decide (l.ended < c.cutoff)

/-- R20: the marker has arrived and every leg that it lists has completed without error, both before the cutoff (R21). -/
def Cycle.isReady (c : Cycle) : Bool :=
  match c.markerInTime with
  | none => false
  | some m => (c.listed m).all fun x => x.any c.doneInTime

/-- The lowest cause of R27 for a frame not marked ready. -/
def Cycle.cause (c : Cycle) (frozen : Bool) : Nat :=
  match c.markerInTime with
  | none => 1
  | some m =>
    if (c.listed m).any fun x => !x.any fun l => c.doneInTime l || c.failedInTime l then 2
    else if (c.listed m).any fun x => !x.any c.doneInTime then 3
    else if frozen then 4 else 2

/-- Had anything of the decode serial been received by the cutoff (R27)? -/
def Cycle.received (c : Cycle) : Bool :=
  c.decode.isSome &&
    (c.markerInTime.isSome || c.legs.any fun l => some l.serial = c.decode && decide (l.stamp < c.cutoff))

/-- A leg of the decode serial that completed at the cutoff or after it. -/
def Cycle.doneLate (c : Cycle) (l : LegRec) : Bool := some l.serial == c.decode && l.done && !c.doneInTime l

/-- Legs that completed at the cutoff or after it were unfinished at it: they end LATE, each with EV234 (R21, R29). -/
def State.lateLegs (s : State) (o : Output) : State :=
  let c := (s.out o).cycle
  let late := c.legs.filter c.doneLate
  let end1 (l : LegRec) : LegRec := if c.doneLate l then { l with done := false, outcome := some 3 } else l
  let s := s.updCycle o fun x => { x with legs := x.legs.map end1 }
  late.foldl (fun (s : State) _ => s.noteAbort o 1) s

/-- The leg that a unit runs belongs to output o. -/
def runsFor (o : Output) (r : LegRun) : Bool := r.hdr.output == o.val

/-- Class B of an output aborted: queued and running legs end LATE, each with EV234; running units drain (R194, R195). -/
def State.abortB (s : State) (o : Output) : State :=
  let mine (n : Nat) : Bool := (s.item? n).any fun x => x.out = o
  let queued := (s.porter.qb ++ s.porter.waitB).filter mine
  let units := allUnits.filter fun u => (s.codec u).leg.any (runsFor o)
  let running := units.filterMap fun u => (s.codec u).leg.map (·.item)
  let s := { s with porter := { s.porter with
    qb := s.porter.qb.filter fun n => !mine n, waitB := s.porter.waitB.filter fun n => !mine n } }
  let s := units.foldl (fun s u => (s.setCodec u { s.codec u with leg := none, draining := true }).unitEnds u true 3) s
  (queued ++ running).foldl (fun s n => (s.updLeg o n fun l => { l with outcome := some 3 }).noteAbort o 1) s

/-- DECODE_CUTOFF (R20, R21, R27, R194). -/
def execDecodeCutoff (t : Nat) (o : Output) (s : State) : Host.Outcome State Fault Refusal :=
  .next <|
    let s := s.advanceTo t
    let c := (s.out o).cycle
    if !s.scanning o || !c.ticked || c.service || c.cutB || !s.ticksNext o || !s.beforeTick o 250000 then s
    else
      let ready := c.isReady && !s.frozen
      let withheld := if !ready && c.received then some (c.cause s.frozen) else none
      ((s.updCycle o fun c => { c with cutB := true, ready, withheld }).lateLegs o).abortB o

/-! ### The class C and D cutoff (R29, R182, R194) -/

/-- Is a capture leg of output o? -/
def State.capOf (s : State) (o : Output) (x : CapLeg) : Bool := s.camOutput x.port = o

/-- Running class C legs of an output aborted with ENC_CUTOFF. -/
def State.abortRunningC (s : State) (o : Output) : State :=
  allUnits.foldl (fun (s : State) u =>
    match (s.codec u).cap with
    | some x => if s.capOf o x then (s.abortCapture u x 0x31 true).noteAbort o 2 else s
    | none => s) s

/-- A class D waybill that will not run: a list or card counts as abandoned by the cutoff. -/
def State.dropD (s : State) (w : ClassD) : State :=
  let o := s.classDOutput w
  let lost (s : State) (plane : Nat) : State :=
    ((s.incFld BLT_FAIL_count 1).setReg BLT_LAST_ERR (BitVec.ofNat 32 (o.val * 2 ^ 30 + 7 * 2 ^ 24))).markPlane o plane false
  let s := match w with
    | .list _ n => (match s.item? n with
      | some x => lost s (leAt (s.itemBytes x 0 16) 4 1 % 4)
      | none => s)
    | .card _ => lost s ((s.cardRec o).plane % 4)
    | .stats p =>
      let s := s.setCam p { s.cam p with stats := (s.cam p).stats.drop 1 }
      (s.setFld (CAM_P_STAT_marks p.val) (s.fld (CAM_P_STAT_marks p.val) ||| 256)).raiseOpen 161 p.val
  s.noteAbort o 3

/-- Class D of an output aborted: the list in hand and what is queued. -/
def State.abortD (s : State) (o : Output) : State :=
  let s := match s.blt.run with
    | some r => if r.out = o then (s.abandonList o r.plane r.card 7 r.index true).noteAbort o 3 else s
    | none => s
  let mine := (s.porter.qd ++ s.porter.waitD).filter fun w => s.classDOutput w = o
  let s := { s with porter := { s.porter with
    qd := s.porter.qd.filter fun w => s.classDOutput w != o
    waitD := s.porter.waitD.filter fun w => s.classDOutput w != o } }
  mine.foldl State.dropD s

/-- The bytes received so far of overlay lists that are not stored: open items, and first fragments held while intake
stalls. -/
def State.unstoredLists (s : State) : List Bytes :=
  ((s.link.rxUp.opens.filter fun (x : OpenItem) => x.type = 0x22).map (·.bytes)) ++
    ((s.rooms.heldOwn.filter fun (w : HeldWagon) => leAt w.bytes 0 1 = 0x22 && bit (leAt w.bytes 3 1) 0).map
      fun (w : HeldWagon) => w.bytes.drop 16)

/-- Overlay lists of the decode serial that are not stored whole have not completed (R81). -/
def State.markIncomplete (s : State) (o : Output) : State :=
  let d := (s.out o).cycle.decode
  (s.unstoredLists.filter fun (b : Bytes) =>
      16 ≤ b.length && leAt b 3 1 = o.val && some (BitVec.ofNat 32 (leAt b 8 4)) = d).foldl
    (fun s b => s.markPlane o (leAt b 4 1 % 4) false) s

/-- CLASS_C_D_CUTOFF (R194): running class C and D waybills are aborted; queued class C entries return to data. -/
def execClassCDCutoff (t : Nat) (o : Output) (s : State) : Host.Outcome State Fault Refusal :=
  .next <|
    let s := s.advanceTo t
    let c := (s.out o).cycle
    if !s.scanning o || !c.ticked || c.service || c.cutCD || !s.ticksNext o || !s.beforeTick o 50000 then s
    else
      let s := s.abortRunningC o
      let back := (s.porter.qc ++ s.porter.waitC).filter (s.capOf o)
      let s := { s with porter := { s.porter with
        qc := s.porter.qc.filter fun x => !s.capOf o x
        waitC := s.porter.waitC.filter fun x => !s.capOf o x
        heldC := s.porter.heldC ++ back } }
      let s := (s.markIncomplete o).abortD o
      s.updCycle o fun c => { c with cutCD := true }

/-! ### Tracking (R368–R370) -/

/-- The accepted TRACK with the latest meas_time whose receipt lies before an instant; equal times, the later receipt. -/
def latestTrack (before : Nat) : List TrackMsg → Option TrackMsg
  | [] => none
  | m :: ms =>
    let rest := latestTrack before ms
    if before ≤ m.receipt then rest
    else
      match rest with
      | none => some m
      | some x => if x.meas < m.meas || (x.meas = m.meas && x.receipt < m.receipt) then some m else some x

/-- A coordinate at mid-scan in 0.5 mm as a fraction (R369): position p2, previous position if its age is 1–100 ms, and the
time to mid-scan in ns as a fraction, at most 50 ms. -/
def extrapolate (p2 : Int) (prev : Option (Int × Nat)) (dNum : Int) (dDen : Nat) : Int × Nat :=
  match prev with
  | none => (p2, 1)
  | some (p1, age) =>
    let (n, d) := if 50000000 * (dDen : Int) < dNum then ((50000000 : Int), 1) else (dNum, dDen)
    (p2 * (age * d : Nat) + (p2 - p1) * n, age * d)

/-- The position set for the tick at TIME_NS `tick`. `base` numbers the free words of absent eyes. -/
def positionSet (m : TrackMsg) (prev : Option PosSet) (tick period blank lines base : Nat) : PosSet :=
  let den := 2 * (lines + blank)
  let dNum : Int := (((tick * den + (2 * blank + lines) * period : Nat) : Int)) - ((m.meas * den : Nat) : Int)
  let words := (List.range 16).flatMap fun e =>
    match (m.eyes.getD e none) with
    | none =>
      (List.range 3).map (fun k => (Config.free (base + 3 * e + k)).setWidth 32) ++ [BitVec.ofInt 32 (-1)]
    | some p =>
      let before := match prev with
        | none => none
        | some q =>
          match q.from_.eyes.getD e none with
          | none => none
          | some p1 =>
            if q.from_.meas + 1000000 ≤ m.meas && m.meas ≤ q.from_.meas + 100000000 then some (p1, m.meas - q.from_.meas)
            else none
      let axis (f : Eye → Int) : Word :=
        let (n, d) := extrapolate (f p) (before.map fun (p1, age) => (f p1, age)) dNum den
        ratio32 n (2 * d)
      [axis (·.x), axis (·.y), axis (·.z), BitVec.ofNat 32 p.conf]
  { meas := m.meas, words, from_ := m }

/-- TRACKING_CUTOFF (R16, R369): the position set for the coming tick is built. -/
def execTrackingCutoff (t : Nat) (o : Output) (s : State) : Host.Outcome State Fault Refusal :=
  .next <|
    let s := s.advanceTo t
    let c := (s.out o).cycle
    let rn := (s.out o).render
    if !s.scanning o || c.service || rn.nextSet.isSome || !s.beforeTick o 400000 then s
    else
      match latestTrack (c.nextTick - 400000) s.wall.tracks with
      | none => s
      | some m =>
        let set := positionSet m rn.posSet c.nextTick (s.periodNs o) (s.outRec o).blank (s.lines o) s.fresh
        ({ s with fresh := s.fresh + 48 }).updRender o fun r => { r with nextSet := some set }

/-- Eyes of a set that pass conf_min and have z > 0, z as the set holds it (R76, R77). -/
def PosSet.eyesUsed (p : PosSet) (confMin : Nat) : Nat :=
  ((List.range 16).filter fun e =>
    let z := p.words.getD (4 * e + 2) 0
    (p.from_.eyes.getD e none).any fun x => decide (confMin ≤ x.conf) && (read32 z).compare (.fin false 0 0) == 1).length

/-- The position set of the frame that begins and RAY_TRACK_STAT (R18 step 6, R77, R370). -/
def State.tickTracks (s : State) (o : Output) : State :=
  let rn := (s.out o).render
  let refreshed := match rn.nextSet, rn.posSet with
    | some n, some p => n.from_ != p.from_
    | some _, none => true
    | none, _ => false
  let set := rn.nextSet.or rn.posSet
  let s := s.updRender o fun r => { r with posSet := set, nextSet := none }
  let tick := (s.out o).cycle.tickAt
  let eyes := match set with
    | none => []
    | some p => p.from_.eyes.filterMap id
  let used := match set with
    | none => 0
    | some p => p.eyesUsed (s.raymode o).confMin
  let late := match set with
    | none => true
    | some p => decide (p.meas + 3 * s.periodNs o < tick)
  let s := s.setFld (RAY_TRACK_STAT_stale o.val) (b2n (late || eyes.isEmpty))
  let s := if refreshed then s.setFld (RAY_TRACK_STAT_age o.val) 0 else s.incFld (RAY_TRACK_STAT_age o.val) 1
  s.setFld (RAY_TRACK_STAT_eyes_used o.val) used

/-! ### Parts of the tick service (R18) -/

/-- Step 1: what is still queued or running of the output is aborted. -/
def State.tickAborts (s : State) (o : Output) : State :=
  let s := (s.abortRows o fun _ => true).abortB o
  let s := s.abortRunningC o
  let late := (s.porter.qc ++ s.porter.waitC).filter (s.capOf o)
  let s := { s with porter := { s.porter with
    qc := s.porter.qc.filter fun x => !s.capOf o x
    waitC := s.porter.waitC.filter fun x => !s.capOf o x
    heldC := s.porter.heldC ++ late } }
  let s := late.foldl (fun s _ => s.noteAbort o 2) s
  s.abortD o

/-- Does a cache line hold part of an output's view store or of its overlay planes (R59, R117)? -/
def State.lineOf (s : State) (o : Output) (k : CacheKey) : Bool :=
  k.space.val == o.val ||
    (k.space.val == spOVL && decide (s.ovlBase o 0 0 ≤ 64 * k.line) &&
      decide (64 * k.line < s.ovlBase o 0 0 + s.ovlRooms o * roomBytes))

/-- Step 2, R59 and R117: the halves swap if the frame was marked ready; every cluster drops its lines of the output's view store
and overlay planes. -/
def State.tickSwap (s : State) (o : Output) (swap : Bool) : State :=
  let s := { s with caches := s.caches.map fun (l : List CacheLine) => l.filter fun x => !s.lineOf o x.key }
  if !swap then s
  else
    let flip := s.fld INK_FLIP_display ^^^ 2 ^ o.val
    let s := (s.setFld INK_FLIP_display flip).setFld (SCN_OUT_STAT_flipped o.val) 1
    s.updCycle o fun c => { c with display := c.decode }

/-- Does the marker of the decided frame list a leg? -/
def Cycle.lists (c : Cycle) (l : LegRec) : Bool :=
  c.marker?.any fun m => m.legs.any l.named

/-- Step 3 (R166): pending records of the frame's listed legs become current; all others of the output are discarded. -/
def State.tickChains (s : State) (o : Output) (swap : Bool) : State :=
  let c := (s.out o).cycle
  let keep (k : Nat) (r : CtxRec) : Bool :=
    swap && some r.serial == c.decode && c.legs.any fun l => l.chain == k && some l.serial == c.decode && l.done && c.lists l
  let commits := (s.chains.filter fun (x : Nat × Chain) => x.2.pend.any fun r => r.output = o.val && keep x.1 r).map (·.1)
  let s := { s with chains := s.chains.map fun (k, ch) =>
      match ch.pend with
      | none => (k, ch)
      | some r =>
        if r.output != o.val then (k, ch)
        else if keep k r then (k, { cur := some r, prev := ch.cur, pend := none })
        else (k, { ch with pend := none }) }
  commits.foldl State.putCtx s

/-- The outcome of a leg of the decided frame (R176). -/
def Cycle.outcome (c : Cycle) (swap : Bool) (l : LegRec) : Nat :=
  match l.outcome with
  | some x => x
  | none => if !l.done then 3 else if !swap then 1 else if c.lists l then 0 else 2

/-- The COMMIT item of the tick (R331): listed legs in the marker's order, then the others in order of arrival. -/
def State.commitItem (s : State) (o : Output) (swap playback : Bool) : Bytes :=
  let c := (s.out o).cycle
  let entry (legId : Word) (chain outcome : Nat) : Bytes :=
    toLe 4 legId.toNat ++ toLe 2 chain ++ toLe 1 outcome ++ zeros 1
  let listed := match c.marker? with
    | none => []
    | some m => (m.legs.zip (c.listed m)).map fun (x : (Word × Nat) × Option LegRec) =>
      entry x.1.1 x.1.2 ((x.2.map (c.outcome swap)).getD 3)
  let others := match c.marker? with
    | none => c.mine
    | some m => c.unlisted m
  let rest := others.map fun (l : LegRec) => entry l.legId l.chain (c.outcome swap l)
  let es := if c.decode.isNone then [] else listed ++ rest
  let serial := (c.decode.or c.decided).getD 0
  toLe 1 o.val ++ toLe 1 (b2n swap + 2 * b2n c.marker?.isSome + 4 * b2n playback) ++ toLe 2 es.length ++
    toLe 4 serial.toNat ++ toLe 4 (s.reg (SCN_FRAME o.val)).toNat ++ zeros 4 ++ toLe 8 s.timeNs ++ es.flatten

/-- Is a serial tag at or below the decided serial (R206)? -/
def atOrBelow (decided tag : Word) : Bool := !serialAbove tag decided

/-- Step 5 (R202, R206): the rooms of the decided frame and of earlier ones are freed; no TLB holds them any longer. -/
def State.tickRooms (s : State) (o : Output) : State :=
  match (s.out o).cycle.decode with
  | none => s
  | some d =>
    let r := s.rooms
    let tags := r.legTags.filter fun (_, w) => !(w.1 = o && atOrBelow d w.2)
    let items := r.items.filter fun (x : LegItem) => !(x.out = o && atOrBelow d x.serial)
    let fills := r.fills.filter fun (x : LegFill) => !(x.out = o && atOrBelow d x.serial)
    let freed := (r.legTags.filter fun (x : Nat × Output × Word) => !(Sparse.get? tags x.1).isSome).map (·.1)
    let s := ({ s with rooms := { r with legTags := tags, items, fills } }).tlbDrop (freed.map (s.vrn spLEG))
    s.setFld INK_LEG_free (s.fld INK_LEG_pool - tags.length)

/-- EV132 + o (R27). -/
def State.tickWithheld (s : State) (o : Output) (swap : Bool) : State :=
  let c := (s.out o).cycle
  match c.decode with
  | none => s
  | some d =>
    if swap then s
    else if c.ready then s.raise (132 + o.val) 4 d.toNat
    else
      match c.withheld with
      | some x => s.raise (132 + o.val) x d.toNat
      | none => s

/-- EV128 + o and EV136 + g for the ending frame (R268, R283). -/
def State.tickFaults (s : State) (o : Output) : State :=
  let sc := (s.out o).scan
  let s := s.setReg (SCN_UNDR_LAST o.val) (BitVec.ofNat 32 (min sc.underruns 0xFFFFFFFF))
  let s := if sc.underruns = 0 then s else s.raiseOpen (128 + o.val) (min sc.underruns 0xFFFFFFFF)
  let s := (List.range 8).foldl (fun (s : State) g =>
    let es := sc.echo.filter fun (k, _) => k / 32 = g
    match es with
    | [] => s
    | (k, _) :: _ => s.raiseOpen (136 + g) (min ((es.map (·.2)).sum) 0xFFFF * 2 ^ 16 + k)) s
  s.updScan o fun x => { x with underruns := 0, echo := [] }

/-- Overlay planes whose lists all completed swap their buffers (R81, R409). Any swapped? -/
def State.tickPlanes (s : State) (o : Output) : State × Bool :=
  let mask := (List.range 4).foldl (fun m p =>
    m + (if (s.out o).cycle.planes.get (Fin.ofNat 4 p) = some true then 2 ^ p else 0)) 0
  (s.setFld (RAY_OVL_CTRL_front o.val) (s.fld (RAY_OVL_CTRL_front o.val) ^^^ mask), mask != 0)

/-- The card (R412): shown from the first tick to the first swap and from the tick at which its render appears. Without a card
record the background is shown in its place (R460). -/
def State.tickCard (s : State) (o : Output) (first swap : Bool) : State :=
  let r := s.itin.card[o]
  let idle := BLT_CARD_idle o.val
  let s := if swap then s.setFld idle 0 else s.incFld idle 1
  let rn := (s.out o).render
  let drawn := match r with
    | some c => (s.out o).cycle.planes.get (Fin.ofNat 4 c.plane) = some true
    | none => true
  let show_ := !swap && (first || (rn.cardDue && drawn))
  let stop := rn.cardShown && swap
  let s := s.updRender o fun x => { x with
    cardDue := false
    cardShown := !swap && (x.cardShown || (r.isSome && show_))
    bare := !swap && (x.bare || (r.isNone && show_)) }
  let s := s.setFld (BLT_CARD_shown o.val) (b2n (s.out o).render.cardShown)
  if stop then s.notePlay o 5 else if first && show_ && r.isSome then s.notePlay o 4 else s

/-- The values a RAY_OUT_CFG write must have to be applied (R89, R129). -/
def State.cfgOk (s : State) (cfg : Word) : Bool :=
  let n := cfg.toNat
  match s.itin.prog.get (Fin.ofNat 4 (bits n 17 16)) with
  | none => false
  | some p =>
    (bits n 1 0 == 0 && p.view || bits n 1 0 == 1 && p.depth) && (bits n 2 2 == 0 || p.tracked)

/-- The registers of an output that take effect at its tick, as they act from now on (R84, R89, R267). -/
def State.takeWrites (s : State) (o : Output) : State :=
  s.updRender o fun r => { r with
    cfg := s.reg (RAY_OUT_CFG o.val)
    ovl := s.reg (RAY_OVL_CTRL o.val)
    bright := BitVec.ofNat 32 (min 0x8000 (s.fld (RAY_BRIGHT_scale o.val)))
    bg := s.reg (SCN_BG o.val) }

/-- Register writes that take effect at the tick (R84, R89, R267): a RAY_OUT_CFG that fails its check reads back, and stays,
as it is in effect. -/
def State.tickWrites (s : State) (o : Output) : State :=
  let s := if s.cfgOk (s.reg (RAY_OUT_CFG o.val)) then s else s.setReg (RAY_OUT_CFG o.val) (s.out o).render.cfg
  s.takeWrites o

/-- ENG_CLOCK: the clock actually running (R427): half of the base step during a brace. -/
def State.setEngineClock (s : State) : State :=
  let brace := s.fld PWR_BRACE_active = 1
  let mhz := s.engineClock * 250
  (s.setFld ENG_CLOCK_mhz (if brace then mhz / 2 else mhz)).setFld ENG_CLOCK_brace (b2n brace)

/-- The throttle level that waits last. -/
def Thermal.next? (t : Thermal) : Option Nat :=
  t.steps.getLast?.bind fun c => match c.kind with | .throttle l => some l | _ => none

/-- The throttle level takes effect (R427, R443); a later one may still wait (R24). -/
def State.applyThrottle (s : State) (level : Nat) : State :=
  (((s.setFld THM_STATE_level level).setFld THM_STATE_pending (b2n s.therm.next?.isSome)).setFld THM_STATE_next
    (s.therm.next?.getD 0)).setEngineClock

/-- The registers that follow the band in effect (R278, R279). -/
def State.enterBand (s : State) (o : Output) (j : Nat) : State :=
  let s := ((s.setFld (PNL_BAND_band o.val) j).setFld (PNL_BAND_pending o.val) 0).setFld (PNL_BAND_next o.val) 0
  let b := s.bandNow o
  (s.setFld (RAY_BAND_LUT_lut_set o.val) b.lutSet).setFld (PNL_VCOM_ADJ_duty o.val) b.vcomDuty

/-- One pending change takes effect at a tick of the output (R18 step 6, R24). -/
def State.applyChange (s : State) (o : Output) (c : Change) : State :=
  match c.kind with
  | .band j => (s.enterBand o j).raiseOpen 151 (o.val * 2 ^ 30 + j)
  | .throttle level => s.applyThrottle level
  | .clusters => s
  | .rate _ => s
  | .playback (some l) => s.startPlay o l false
  | .playback none => s.stopPlay o

/-- Does a change call for admission, and may it raise rates (R36, R44)? -/
def Change.admits (c : Change) : Bool := match c.kind with | .playback _ => false | _ => true
def Change.raises (c : Change) (level : Nat) : Bool :=
  match c.kind with
  | .band _ => true
  | .throttle l => decide (l < level)
  | .rate r => r
  | _ => false

/-- Camera ports of the output count their grid instants from 0 again (R384). -/
def State.restartGrid (s : State) (o : Output) : State :=
  (s.portsOf o).foldl (fun (s : State) p => s.setCam p { s.cam p with gridCount := 0 }) s

/-- A grid instant of the output for its camera ports (R282, R384). -/
def State.gridInstant (s : State) (o : Output) : State :=
  (s.portsOf o).foldl (fun (s : State) p =>
    let c := s.cam p
    let div := max 1 (s.camRec p).fsyncDiv
    s.setCam p { c with gridCount := c.gridCount + 1, due := c.due || c.gridCount % div = 0 }) s

/-- Changes that wait for a tick of an output: its own, and, at the lowest-numbered active one, the throttle levels (R443). -/
def State.waiting (s : State) (o : Output) : List Change :=
  (s.out o).cycle.changes ++ (if s.lowestActive = some o then s.therm.steps else [])

/-- Has a change been pending for 500 µs (R24)? -/
def State.ripe (s : State) (c : Change) : Bool := s.elapsed c.since (edgesUs 500)

/-- A change as admission counts it. -/
def State.foreseeChange (s : State) (o : Output) (c : Change) : State :=
  match c.kind with
  | .band j => s.setFld (PNL_BAND_band o.val) j
  | .throttle l => s.setFld THM_STATE_level l
  | _ => s

/-- The device that admission counts at a tick: with every change that has been pending for 500 µs, also those that take
effect at the tick of another output (R24). -/
def State.foresee (s : State) : State :=
  let ripe := s.ripe
  let s' := (s.therm.steps.filter ripe).foldl (fun (x : State) c => x.foreseeChange 0 c) s
  allOutputs.foldl (fun (x : State) o =>
    ((s.out o).cycle.changes.filter ripe).foldl (fun (x : State) c => x.foreseeChange o c) x) s'

/-- The changes that a tick of an output takes wait no more. -/
def State.dropRipe (s : State) (o : Output) : State :=
  let left (l : List Change) : List Change := l.filter fun c => !s.ripe c
  let steps := if s.lowestActive = some o then left s.therm.steps else s.therm.steps
  { s.updCycle o fun c => { c with changes := left c.changes } with therm := { s.therm with steps } }

/-- Changes that have been pending for 500 µs at the instant take effect together, with one admission (R23, R24); the output
takes its own rate of it, every other one at its own tick. The flag says whether any did. -/
def State.tickChanges (s : State) (o : Output) : State × Bool :=
  let due := (s.waiting o).filter s.ripe
  let level := s.fld THM_STATE_level
  let ahead := s.foresee
  let s := due.foldl (fun s c => s.applyChange o c) (s.dropRipe o)
  if !due.any Change.admits then (s, !due.isEmpty)
  else
    let res := ahead.admission s.sharing (due.any fun c => c.raises level)
    let s := s.noteTargets res
    match res.find? fun a => a.out = o with
    | none => (s, true)
    | some a =>
      let moved := a.period != s.periodNs o
      let s := (s.applyAdmitted a).setBuckets res
      let s := if moved then s.restartGrid o else s
      (if moved then s.raiseOpen 232 (o.val * 2 ^ 30 + a.cand * 2 ^ 16) else s, true)

/-- Energy of block i of the account over a time in ns, in pJ (R49): the activity counters, which clocks and transfers of the
block have been, times the energies of the POWER record, and the block's idle power. The manual does not say what each
block's counters count: they are free values. -/
def State.blockEnergy (s : State) (i ns : Nat) : Nat × State :=
  let (clocks, s) := s.take
  let (moves, s) := s.take
  let (perClock, perMove, idle) := s.itin.power.blocks.getD i (0, 0, 0)
  (clocks.toNat % 2 ^ 32 * perClock + moves.toNat % 2 ^ 32 * perMove + idle * ns, s)

/-- Leakage at the reported maximum temperature in mW (R49): twice that of 25 °C for each doubling interval above it. Within
an interval the manual gives no figure: a free value between those of its two ends. -/
def State.leakage (s : State) : Nat × State :=
  let p := s.itin.power
  let d : Int := max 1 p.leakDouble
  let x : Int := signedOf 16 (s.fld THM_MAX_max) - 400
  let at1 (k : Int) : Nat := if 0 ≤ k then p.leak25 * 2 ^ k.toNat else p.leak25 / 2 ^ (-k).toNat
  let (v, s) := s.take
  let lo := at1 (x / d)
  (if x % d = 0 then lo else lo + v.toNat % (at1 (x / d + 1) - lo + 1), s)

/-- The blocks that VDD_CORE feeds: the core terms of R49 (assumption log 44). -/
def coreBlocks : List Nat := [0, 1, 2, 8]

/-- VDD_CORE in mV: the mean of its four monitors' readings of the latest round (R424). -/
def State.coreMv (s : State) : Nat := ((List.range 4).map fun m => s.fld (PWR_MON_STAT_round_mv m)).sum / 4

/-- The energy that the VDD_CORE current sense measured over a time, in pJ: mA per code in 1/256, times the rail in mV. -/
def State.coreMeasured (s : State) (ns : Nat) : Option Nat :=
  s.itin.power.coreAin.map fun a => s.fld (THM_AIN_code (a % 16)) * s.itin.power.coreGain * s.coreMv * ns / 256000

/-- A term of the account with the core terms scaled so that they add up to the measured energy. -/
def scaleCore (measured : Option Nat) (es : List Nat) (i : Nat) : Nat :=
  let e := es.getD i 0
  let core := (coreBlocks.map fun k => es.getD k 0).sum
  match measured with
  | some m => if coreBlocks.contains i && core != 0 then e * m / core else e
  | none => e

/-- The energy account at a tick of the lowest-numbered active output (R47–R50), in whole µJ. -/
def State.tickEnergy (s : State) (o : Output) : State :=
  if s.lowestActive != some o then s
  else
    let rays := s.energy.rays
    let ns := 2 * (s.now - s.energy.closedAt)
    let (es, s) := (List.range 8).foldl (fun (acc : List Nat × State) i =>
      let (e, s) := acc.2.blockEnergy i ns
      (acc.1 ++ [e], s)) (([] : List Nat), s)
    let (leak, s) := s.leakage
    let es := es ++ [leak * ns]
    let measured := s.coreMeasured ns
    let (s, total) := (List.range 9).foldl (fun (acc : State × Word) i =>
      let e : Word := BitVec.ofNat 32 (min 0xFFFFFFFF (scaleCore measured es i / 1000000))
      (acc.1.setReg (PWR_EACC_BLOCK i) e, acc.2 + e)) (s, (0 : Word))
    let s := s.setReg PWR_EACC_SERIAL (s.reg (SCN_FRAME o.val))
    let s := (s.setPair PWR_EACC_RAYS_LO PWR_EACC_RAYS_HI rays).setReg PWR_EACC_TOTAL total
    let s := s.setReg PWR_EACC_PER_RAY
      (if rays = 0 then 0x10000 else BitVec.ofNat 32 (min 65535 (roundDiv (total.toNat * 1000000) rays)))
    { s with energy := { rays := 0, closedAt := s.now } }

/-- The largest m of R280; below 2 static refresh is not entered. -/
def State.staticM (s : State) (o : Output) : Nat :=
  let b := s.bandNow o
  min (s.outRec o).staticM (100000000000 / (max 1 (b.minRefresh * s.periodNs o)))

/-- The count of unchanged ticks and entry into static refresh (R280). -/
def State.tickStatic (s : State) (o : Output) (unchanged : Bool) : State :=
  let k := if unchanged then (s.out o).scan.unchanged + 1 else 0
  let s := s.updScan o fun x => { x with unchanged := k, gridSince := 0, staticTick := false, staticSkip := false }
  let n := (s.outRec o).staticN
  let m := s.staticM o
  if s.fld (SCN_OUT_STAT_static o.val) = 0 && n != 0 && n ≤ k && 2 ≤ m then
    (s.setFld (SCN_OUT_STAT_static o.val) 1).setFld (SCN_OUT_STAT_m o.val) m
  else s

/-- May an output that has not ticked tick (R352)? -/
def State.mayTick (s : State) : Bool :=
  s.servo.waitOver || s.fld TIM_STAT_state = 2 || !(s.itin.caravan.any (·.upUsed))

/-- Is this the first time-clock edge at which the integer part of TIME_NS is n or more (R343)? At the edge before, TIME_NS was
less by TIME_INC. -/
def State.firstEdge (s : State) (n : Nat) : Bool :=
  decide (n * 2 ^ 32 ≤ s.clock.ns.toNat) && decide (s.clock.ns.toNat < n * 2 ^ 32 + s.clock.inc.toNat)

/-- The instant of the tick that falls at this edge: the next grid instant, or, for the first tick, a grid instant at which
the output may tick (R287, R343, R352). -/
def State.tickInstant (s : State) (o : Output) : Option Nat :=
  let c := (s.out o).cycle
  if c.ticked then if s.firstEdge c.nextTick && s.ticksNext o then some c.nextTick else none
  else
    let p := max 1 (s.periodNs o)
    let n := gridFrom (s.timeNs + 1 - p) p (s.outRec o).phase
    if s.mayTick && p ≤ s.timeNs + 1 && s.firstEdge n then some n else none

/-- TICK_SERVICE_END (R14, R190, R194, R212): at t = +2 µs. -/
def execTickServiceEnd (t : Nat) (o : Output) (s : State) : Host.Outcome State Fault Refusal :=
  .next <|
    let s := s.advanceTo t
    let c := (s.out o).cycle
    if !c.service || s.timeNs < c.tickAt + 2000 then s
    else
      let s := s.updCycle o fun c => { c with service := false }
      -- classes C and D resume
      let (mineC, restC) := s.porter.heldC.partition fun x => s.capOf o x
      let (mineD, restD) := s.porter.heldD.partition fun w => s.classDOutput w = o
      let s := { s with porter := { s.porter with heldC := restC, heldD := restD } }
      let s := mineD.foldl State.readyD (mineC.foldl State.readyC s)
      if !s.scanning o then s
      else
        -- the lead is released
        let s := (List.range (min 6 (s.lines o / 8))).foldl (fun s r => s.releaseRow o (8 * r)) s
        if s.playing o then s.playOn o
        else
          match lowestAbove (s.out o).cycle.decided (s.serialsOf o) with
          | some d => s.fixDecode o d
          | none => s

/-- CARD_SHOW (R412): after card_after consecutive ticks without a swap, with no playlist playing, the card is scheduled:
its waybill draws it, and it appears at the tick after (assumption log 15); without a card record the background does. -/
def execCardShow (t : Nat) (o : Output) (s : State) : Host.Outcome State Fault Refusal :=
  .next <|
    let s := s.advanceTo t
    let rn := (s.out o).render
    if !s.scanning o || s.playing o || rn.cardShown || rn.bare || rn.cardDue ||
        s.fld (BLT_CARD_idle o.val) < max 1 (s.cardRec o).cardAfter then s
    else
      let s := s.updRender o fun r => { r with cardDue := true }
      if (s.itin.card[o]).isNone then s else (s.readyD (.card o)).notePlay o 4

/-! ### Static refresh (R280–R282) -/

/-- STATIC_DECISION (R281): at t = −250 µs before a grid instant in static refresh. -/
def execStaticDecision (t : Nat) (o : Output) (s : State) : Host.Outcome State Fault Refusal :=
  .next <|
    let s := s.advanceTo t
    let c := (s.out o).cycle
    let decided := (s.out o).scan.staticTick || (s.out o).scan.staticSkip
    if !s.scanning o || s.fld (SCN_OUT_STAT_static o.val) = 0 || decided || !s.beforeTick o 250000 then s
    else
      -- edges until the grid instant, at the nominal 2 ns
      let at_ := s.now + (c.nextTick - s.timeNs) / 2
      if (c.isReady && !s.frozen) || (s.waiting o).any fun x => decide (x.since + edgesUs 500 ≤ at_) then
        ((s.setFld (SCN_OUT_STAT_static o.val) 0).setFld (SCN_OUT_STAT_m o.val) 1).wakeStatic 2
      else if s.fld (SCN_OUT_STAT_m o.val) ≤ (s.out o).scan.gridSince + 1 then
        (s.updScan o fun x => { x with staticTick := true }).wakeStatic 2
      else s.updScan o fun x => { x with staticSkip := true }

/-- GRID_INSTANT_SKIP (R282): nothing of R18 happens; FSYNC pulses that fall due are still issued. -/
def execGridInstantSkip (t : Nat) (o : Output) (s : State) : Host.Outcome State Fault Refusal :=
  .next <|
    let s := s.advanceTo t
    let c := (s.out o).cycle
    if !s.scanning o || s.ticksNext o || s.timeNs < c.nextTick then s
    else
      let s := s.updCycle o fun c => { c with nextTick := c.nextTick + s.periodNs o }
      let s := s.updScan o fun x => { x with gridSince := x.gridSince + 1, staticSkip := false }
      -- a position set built for this instant was for no tick (R369)
      (s.updRender o fun r => { r with nextSet := none }).gridInstant o

end Sys2Proof.Machine
end

