-- ==== Sys2Proof/Machine/Column.lean ====
section
/-!
DEFINITION. The column link below its packets (R256–R258, R265): control symbols, the 8b/10b code, running disparity, and the
symbols that a channel sends.
-/
namespace Sys2Proof.Machine

/-! ### Symbols (R257) -/

/-- A symbol before coding: control or data, and its byte. -/
structure Sym where
  k : Bool
  byte : Byte
  deriving DecidableEq, Repr

def symIdle : Sym := { k := true, byte := 0xBC }
def symLoad : Sym := { k := true, byte := 0x7C }
def symSop : Sym := { k := true, byte := 0xFB }
def symEop : Sym := { k := true, byte := 0xFD }

/-- D21.5. -/
def symLock : Sym := { k := false, byte := 0xB5 }

/-! ### 8b/10b (R256; IEEE 802.3 Clause 36: assumption log 207). A code group is written a … j from its most significant bit
down; bit a goes first. -/

/-- The 6-bit codes of D.x at negative running disparity, by x. -/
def code6 : List (BitVec 6) :=
  [0b100111, 0b011101, 0b101101, 0b110001, 0b110101, 0b101001, 0b011001, 0b111000,
   0b111001, 0b100101, 0b010101, 0b110100, 0b001101, 0b101100, 0b011100, 0b010111,
   0b011011, 0b100011, 0b010011, 0b110010, 0b001011, 0b101010, 0b011010, 0b111010,
   0b110011, 0b100110, 0b010110, 0b110110, 0b001110, 0b101110, 0b011110, 0b101011]

/-- The 4-bit codes of D.x.y at negative running disparity, by y. -/
def code4 : List (BitVec 4) := [0b1011, 0b1001, 0b0101, 0b1100, 0b1101, 0b1010, 0b0110, 0b1110]

/-- The 4-bit codes of K.x.y at negative running disparity, by y. -/
def codeK4 : List (BitVec 4) := [0b1011, 0b0110, 0b1010, 0b1100, 0b1101, 0b0101, 0b1001, 0b0111]

/-- Ones of a word. -/
def onesOf (n v : Nat) : Nat := ((List.range n).filter v.testBit).length

/-- The 6-bit part of a symbol: the code for negative disparity, or its complement where it has one for positive. -/
def part6 (rd : Bool) (x : Sym) : BitVec 6 :=
  let v := x.byte.toNat % 32
  let c : BitVec 6 := if x.k && v = 28 then 0b001111 else code6.getD v 0
  if rd && (onesOf 6 c.toNat != 3 || v = 7) then ~~~c else c

/-- Running disparity behind a part of n bits. -/
def rdAfter (n : Nat) (rd : Bool) (v : Nat) : Bool := if 2 * onesOf n v = n then rd else decide (n < 2 * onesOf n v)

/-- The 4-bit part at the running disparity behind the 6-bit part: D.x.7 has a second form that breaks runs of five. -/
def part4 (rd : Bool) (x : Sym) : BitVec 4 :=
  let v := x.byte.toNat % 32
  let y := x.byte.toNat / 32
  if x.k then
    let c := codeK4.getD y 0
    if rd then ~~~c else c
  else if y = 7 && (if rd then v = 11 || v = 13 || v = 14 else v = 17 || v = 18 || v = 20) then
    if rd then 0b1000 else 0b0111
  else
    let c := code4.getD y 0
    if rd && (onesOf 4 c.toNat != 2 || y = 3) then ~~~c else c

/-- A symbol coded at a running disparity (true: positive): its code group and the disparity behind it. -/
def encode10 (rd : Bool) (x : Sym) : BitVec 10 × Bool :=
  let a := part6 rd x
  let mid := rdAfter 6 rd a.toNat
  let b := part4 mid x
  (a ++ b, rdAfter 4 mid b.toNat)

/-- Symbols coded one after the other. -/
def encodeAll : Bool → List Sym → List (BitVec 10)
  | _, [] => []
  | rd, x :: xs =>
    let (c, rd) := encode10 rd x
    c :: encodeAll rd xs

/-- Does a symbol change the running disparity? It does so at either one. -/
def flipsRd (x : Sym) : Bool := (encode10 false x).2

/-! ### What a channel sends (R258, R265) -/

/-- A packet between its control symbols. -/
def framed (packet : Bytes) : List Sym := symSop :: packet.map (fun b => { k := false, byte := b }) ++ [symEop]

/-- The symbols of a channel from the start of what it sends on: runs of a symbol, then a sequence that repeats. `rate` is the
symbols in 1 µs. -/
def ColumnSend.stream (rate : Nat) : ColumnSend → List (Nat × Sym) × List Sym
  | .electricalIdle => ([], [])
  | .idle => ([], [symIdle])
  | .load => ([(1, symLoad)], [symIdle])
  | .line first packet =>
    ((if first then [(1, symLoad), (4, symIdle)] else [(5, symIdle)]) ++ (framed packet).map (fun x => (1, x)), [symIdle])
  | .train packet => ([(20 * rate, symLock), (20 * rate, symIdle)], framed packet ++ List.replicate 8 symIdle)
  | .discharge packet => ([], framed packet ++ List.replicate 8 symIdle)

/-- Symbol n of a repeating sequence. -/
def cycleAt (cycle : List Sym) (n : Nat) : Option Sym := cycle[n % cycle.length]?

/-- Symbol n of a stream; none at electrical idle. -/
def streamAt : List (Nat × Sym) → List Sym → Nat → Option Sym
  | [], cycle, n => cycleAt cycle n
  | (k, x) :: runs, cycle, n => if n < k then some x else streamAt runs cycle (n - k)

/-- Symbols among the first n of a repeating sequence that change the running disparity. -/
def cycleFlips (cycle : List Sym) (n : Nat) : Nat :=
  let flips (l : List Sym) : Nat := (l.filter flipsRd).length
  if cycle.isEmpty then 0 else n / cycle.length * flips cycle + flips (cycle.take (n % cycle.length))

/-- Symbols among the first n of a stream that change the running disparity. -/
def streamFlips : List (Nat × Sym) → List Sym → Nat → Nat
  | [], cycle, n => cycleFlips cycle n
  | (k, x) :: runs, cycle, n => (if flipsRd x then min k n else 0) + streamFlips runs cycle (n - k)

/-- The column channels of an output, from its channel 0 on. -/
def State.channelsOf (s : State) (o : Output) : List Nat := (List.range (s.outRec o).chCount).map ((s.outRec o).chFirst + ·)

/-- Symbols of an output's channels that have begun by an edge: ch_rate / 10 of them in 1 µs (assumption log 208). -/
def State.symbolsBy (s : State) (o : Output) (edge : Nat) : Nat := edge * (s.outRec o).chRate / 500

/-- Running disparity of a channel after n symbols of what it sends; negative once it has stopped (R256). -/
def State.rdAfterSymbols (s : State) (o : Output) (k n : Nat) : Bool :=
  match Sparse.getD (s.out o).scan.slots k .electricalIdle with
  | .electricalIdle => false
  | x =>
    let (runs, cycle) := x.stream (s.outRec o).chRate
    Sparse.getD (s.out o).scan.disparity k false ^^ streamFlips runs cycle n % 2 = 1

/-- The channels of an output begin to send something new; the running disparity goes on (R256). -/
def State.sendSlots (s : State) (o : Output) (f : Nat → ColumnSend) : State :=
  let n := s.symbolsBy o s.now - s.symbolsBy o (s.out o).scan.sendAt
  let ks := s.channelsOf o
  s.updScan o fun c => { c with
    slots := ks.foldl (fun m k => Sparse.set m k (f k)) c.slots
    disparity := ks.foldl (fun m k => Sparse.set m k (s.rdAfterSymbols o k n)) c.disparity
    sendAt := s.now }

/-- Every channel of an output sends the same. -/
def State.sendAll (s : State) (o : Output) (x : ColumnSend) : State := s.sendSlots o fun _ => x

/-- The first n code groups of what channel k of an output sends now. -/
def State.columnCodes (s : State) (o : Output) (k n : Nat) : List (BitVec 10) :=
  let (runs, cycle) := (Sparse.getD (s.out o).scan.slots k .electricalIdle).stream (s.outRec o).chRate
  encodeAll (Sparse.getD (s.out o).scan.disparity k false) ((List.range n).filterMap (streamAt runs cycle))

end Sys2Proof.Machine
end

