-- ==== Sys2Proof/Machine/Panel.lean ====
section
/-!
DEFINITION. Scan-out and panel drive (R250–R293): line slots and packets, row drive, temperature bands, and the panel power
sequences.
-/
namespace Sys2Proof.Machine

/-! ### Channels and packets (R252, R258–R262, R265) -/

/-- Subpixels per channel (R251). -/
def State.perChannel (s : State) (o : Output) : Nat := s.wsub o / max 1 (s.outRec o).chCount

/-- Bits as bytes, bit n in bit n mod 8 of byte n div 8; unused bits are 0 (R261). -/
def packBits (bitsPer : Nat) (codes : List Nat) : Bytes :=
  let n := codes.foldr (fun c acc => c % 2 ^ bitsPer + 2 ^ bitsPer * acc) 0
  toLe (ceilDiv (codes.length * bitsPer) 8) n

/-- A packet between SOP and EOP: byte 0, y, frame, count, data and CRC-16 (R260, R262). -/
def packet (b0 y frame count : Nat) (data : Bytes) : Bytes :=
  let body := toLe 1 b0 ++ toLe 2 y ++ toLe 1 frame ++ toLe 2 count ++ data
  body ++ toBe 2 (crc16 body).toNat

/-- The first n bits of the PRBS-7 x⁷ + x⁶ + 1, its generator all ones at the first bit. -/
def prbs7 : Nat → List Bool → List Bool
  | 0, _ => []
  | n + 1, g => g.headD true :: prbs7 n (g.drop 1 ++ [g.headD true ^^ g.getD 1 true])

/-- Bits, most significant first, as a number. -/
def msbNat (bs : List Bool) : Nat := bs.foldl (fun n b => 2 * n + b2n b) 0

/-- n bytes of the training data (R265). -/
def trainData (n : Nat) : Bytes := toBe n (msbNat (prbs7 (8 * n) (List.replicate 7 true)))

/-- The TRAIN packet for S codes. -/
def trainPacket (out8 : Bool) (n : Nat) : Bytes :=
  packet (3 + b2n out8 * 64) 0xFFFF 0 n (trainData (if out8 then n else ceilDiv (10 * n) 8))

/-- The DISCHARGE packet. -/
def dischargePacket (out8 : Bool) : Bytes := packet (2 + b2n out8 * 64) 0xFFFF 0 0 []

/-- The 8-bit format of an output in effect: the Itinerary's until its first tick (R89). -/
def State.startsOut8 (s : State) (o : Output) : Bool := bit (s.out o).render.cfg.toNat 8

/-- Every channel of an output trains, or sends DISCHARGE packets. -/
def State.train (s : State) (o : Output) : State := s.sendAll o (.train (trainPacket (s.startsOut8 o) (s.perChannel o)))
def State.discharge (s : State) (o : Output) : State := s.sendAll o (.discharge (dischargePacket (s.startsOut8 o)))

/-! ### Polarity (R274) -/

/-- pattern(xs, y) of a band's inversion mode. -/
def inversionBit (b : BandRec) (xs y : Nat) : Bool :=
  match b.inversion with
  | 1 => y % 2 = 1
  | 2 => y / max 1 b.n % 2 = 1
  | 3 => (xs + y) % 2 = 1
  | _ => false

/-- F of an output. -/
def State.frameBit (s : State) (o : Output) : Bool := s.fld (SCN_OUT_STAT_f o.val) = 1

/-- The polarity of a subpixel: F XOR pattern. -/
def State.polarity (s : State) (o : Output) (xs y : Nat) : Bool := s.frameBit o ^^ inversionBit (s.bandNow o) xs y

/-! ### Lines (R255, R261, R266–R268, R283) -/

/-- Is the span that covers subpixel xs of active line y held valid? -/
def State.spanValid (s : State) (o : Output) (xs y : Nat) : Bool := (s.out o).render.valid.contains (y / 8 * 8, xs / 60)

/-- The background code of a subpixel's colour (R267). -/
def State.bgCode (s : State) (o : Output) (out8 : Bool) (xs y : Nat) : Nat :=
  let layout := bits (s.out o).render.cfg.toNat 5 4
  let c := bits (s.out o).render.bg.toNat (10 * colourOf layout xs y + 9) (10 * colourOf layout xs y)
  if out8 then c % 256 else c

/-- The code of a ring entry; one that no span has written is free. -/
def State.ringCode (s : State) (o : Output) (out8 : Bool) (xs y : Nat) : Nat :=
  let e := (Sparse.get? (s.out o).render.ring (s.ringIndex o xs y)).getD ((Config.free (s.fresh + xs)).setWidth 16)
  e.toNat % (if out8 then 256 else 1024)

/-- The subpixels of channel k (from 0) of an output. -/
def State.channelRange (s : State) (o : Output) (k : Nat) : List Nat :=
  (List.range (s.perChannel o)).map (k * s.perChannel o + ·)

/-- The lowest subpixel of channel k on line y whose span was not valid. -/
def State.underrunAt (s : State) (o : Output) (k y : Nat) : Option Nat :=
  (s.channelRange o k).find? fun xs => !s.spanValid o xs y

/-- The LINE packet of channel k on active line y (R260, R261, R266); background alone where it stands in for a card (R460). -/
def State.linePacket (s : State) (o : Output) (k y : Nat) : Bytes :=
  let out8 := bits (s.out o).render.cfg.toNat 8 8 = 1
  let n := s.perChannel o
  let under := s.underrunAt o k y
  let code (xs : Nat) : Nat :=
    if under.any (· ≤ xs) || (s.out o).render.bare then s.bgCode o out8 xs y else s.ringCode o out8 xs y
  let dot := (s.bandNow o).inversion = 3
  let b0 := 1 + b2n (s.polarity o (k * n) y) * 16 + b2n under.isSome * 32 + b2n out8 * 64 + b2n dot * 128
  packet b0 y (s.fld (SCN_FRAME_counter o.val) % 256) n
    (packBits (if out8 then 8 else 10) ((s.channelRange o k).map code))

/-- Subpixels of channel k on line y sent with rendered data. -/
def State.renderedCount (s : State) (o : Output) (k y : Nat) : Nat :=
  match s.underrunAt o k y with
  | some xs => xs - k * s.perChannel o
  | none => s.perChannel o

/-- The row that has been sent is latched by a LOAD: its gate pulse and POL (R269, R271, R273). -/
def latchRow (now : Nat) (d : RowDrive) : RowDrive :=
  match d.sent with
  | none => d
  | some r =>
    let live := d.pulses.filter fun (_, _, fall) => decide (now < fall)
    { d with
      pulses := live ++ [(r.y % max 1 r.phases, now + r.rise, now + r.rise + r.width)]
      pol := r.pol
      sent := none }

/-- Pin-echo mismatches of the channels of an output that sent a LINE packet (R283). -/
def State.echoErrors (s : State) (o : Output) (echo : List (Fin 256)) : State :=
  ((echo.map (·.val)).filter fun k => (s.channelsOf o).contains k).foldl (fun (s : State) k =>
    (s.incFld (PNL_ECHO_ERR_count k) 1).updScan o fun c =>
      { c with echo := Sparse.set c.echo k (Sparse.getD c.echo k 0 + 1) }) s

/-- The slot of active line y: packets, underruns, delivered rays, the row to be latched. -/
def State.activeLine (s : State) (o : Output) (y : Nat) (load : Bool) (echo : List (Fin 256)) : State :=
  -- R15: a span still unfinished when the transmit of its first line starts is aborted
  let s := if y % 8 = 0 then s.abortRows o (· == y) else s
  let ks := List.range (s.outRec o).chCount
  let under := (ks.filter fun k => (s.underrunAt o k y).isSome).length
  let rays := if (s.out o).render.cardShown || (s.out o).render.bare then 0 else (ks.map fun k => s.renderedCount o k y).sum
  let b := s.bandNow o
  let row : SentRow := { y, pol := s.polarity o 0 y, phases := b.phases, rise := b.gckRise, width := b.gckWidth }
  let lead := (s.out o).cycle.tickAt + (((s.outRec o).blank + 1) * s.periodNs o) / s.frameLines o - b.stvLead
  let s := (s.sendSlots o fun k => .line load (s.linePacket o (k - (s.outRec o).chFirst) y)).updScan o fun c => { c with
    underruns := c.underruns + under
    rows := { c.rows with
      sent := some row
      stvRise := if y = 0 then lead else c.rows.stvRise
      stvFall := if y = 0 then lead + b.stvWidth else c.rows.stvFall } }
  let s := (s.incFld (SCN_UNDR_TOTAL_count o.val) under).echoErrors o echo
  { s with fresh := s.fresh + s.wsub o, energy := { s.energy with rays := s.energy.rays + rays } }

/-! ### Power sequences (R284–R292) -/

def State.panelState (s : State) (o : Output) : Nat := s.fld (SCN_OUT_STAT_state o.val)
def State.panelSeq (s : State) (o : Output) : Nat := s.fld (PNL_OUT_STAT_seq o.val)
def State.panelStep (s : State) (o : Output) : Nat := s.fld (PNL_OUT_STAT_step o.val)

/-- A step of the sequence in progress begins. -/
def State.beginStep (s : State) (o : Output) (k : Nat) : State :=
  (s.setFld (PNL_OUT_STAT_step o.val) k).updScan o fun c => { c with stepAt := s.now }

/-- Rail r (0 AVDD, 1 VGH, 2 VGL, 3 VCOM): EN high, DIS low, or EN low, DIS high. -/
def State.setRail (s : State) (o : Output) (r : Nat) (on : Bool) : State :=
  let a := PNL_OUT_STAT o.val
  (s.setFld ⟨a, r, r⟩ (b2n on)).setFld ⟨a, r + 4, r + 4⟩ (b2n !on)

def State.setXon (s : State) (o : Output) (on : Bool) : State := s.setFld (PNL_OUT_STAT_xon o.val) (b2n on)

/-- EV148 of an output. -/
def State.milestone (s : State) (o : Output) (code : Nat) : State := s.raiseOpen 148 (o.val * 2 ^ 30 + code)

/-- EV144 + o (R293). -/
def State.railEvent (s : State) (o : Output) (rail step : Nat) (mv : Int) : State :=
  s.raiseOpen (144 + o.val) (rail * 2 ^ 28 + step * 2 ^ 24 + patternOf 16 mv)

/-- The rail readings of an output. -/
def State.putRails (s : State) (o : Output) (mv : Nat → Int) : State :=
  let s := (s.setFld (PNL_RAIL_A_avdd_mv o.val) (patternOf 16 (mv 0))).setFld (PNL_RAIL_A_vgh_mv o.val) (patternOf 16 (mv 1))
  (s.setFld (PNL_RAIL_B_vgl_mv o.val) (patternOf 16 (mv 2))).setFld (PNL_RAIL_B_vcom_mv o.val) (patternOf 16 (mv 3))

/-- The readings of a command, by rail. -/
def railOf (mv : RailMv) (r : Nat) : Int :=
  match r with
  | 0 => mv.avdd
  | 1 => mv.vgh
  | 2 => mv.vgl
  | _ => mv.vcom

def State.railRec (s : State) (o : Output) (r : Nat) : RailRec := (s.panelRec o).rails.getD r {}

/-- Does a reading lie in its window; is it within its off threshold (R285)? -/
def RailRec.inWindow (r : RailRec) (mv : Int) : Bool := decide (r.winMin ≤ mv) && decide (mv ≤ r.winMax)
def RailRec.isOff (r : RailRec) (mv : Int) : Bool := decide (mv.natAbs ≤ r.off.natAbs)

/-- An output that ticks no more has no change to wait for; once no output is active, a waiting throttle level takes effect
at once (R443). -/
def State.dropChanges (s : State) (o : Output) : State :=
  let s := s.updCycle o fun c => { c with changes := [] }
  if s.lowestActive.isSome then s
  else
    let steps := s.therm.steps
    steps.foldl (fun (s : State) c => s.applyChange o c) { s with therm := { s.therm with steps := [] } }

/-- An output stops scanning: no line, tick or cutoff of it follows. -/
def State.stopScan (s : State) (o : Output) : State :=
  let was := s.scanning o
  let s := ((s.setFld (SCN_OUT_STAT_state o.val) 3).setFld (SCN_OUT_STAT_static o.val) 0)
  let s := s.updCycle o fun c => { c with ticked := false }
  let s := (s.portsOf o).foldl (fun (s : State) p =>
    s.setCam p { s.cam p with nextGrid := gridFrom s.timeNs (s.outRec o).period (s.outRec o).phase }) s
  if was then s.dropChanges o else s

/-- Step 1 of a power-off: DISCHARGE packets, XON high. -/
def State.offStart (s : State) (o : Output) : State := ((s.discharge o).setXon o true).beginStep o 1

/-- Does the output stand between two lines that will still start? -/
def State.lineComing (s : State) (o : Output) : Bool :=
  s.scanning o && (s.out o).cycle.ticked && decide ((s.out o).scan.line ≤ s.frameLines o)

/-- The orderly power-off starts (R288); while one runs, or unpowered, nothing (R291). -/
def State.powerOff (s : State) (o : Output) : State :=
  if s.panelState o = 0 || 2 ≤ s.panelSeq o then s
  else
    let line := s.lineComing o
    let s := (s.stopScan o).setFld (PNL_OUT_STAT_seq o.val) 2
    let s := (s.milestone o 2).beginStep o 0
    if line then s else s.offStart o

/-- A sequence has ended: the output is unpowered until the next start (R284, R292). -/
def State.unpowered (s : State) (o : Output) (code : Nat) : State :=
  let s := (List.range 4).foldl (fun (s : State) r => s.setRail o r false) s
  let s := ((s.setXon o false).sendAll o .electricalIdle).updScan o fun c => { c with rows := {} }
  let s := (s.setFld (PNL_OUT_STAT_seq o.val) 0).setFld (PNL_OUT_STAT_step o.val) 0
  let s := (s.setFld (SCN_OUT_STAT_state o.val) 0).setFld (SCN_OUT_STAT_m o.val) 0
  let s := s.setReg (PTR_OUT_PERIOD o.val) 0
  (s.milestone o code).checkReset

/-- Step k (2–5) of the orderly power-off. -/
def State.offStep (s : State) (o : Output) (k : Nat) : State :=
  match k with
  | 2 => (s.setRail o 1 false).beginStep o 2
  | 3 => (((s.setRail o 2 false).setRail o 3 false).setXon o false).beginStep o 3
  | 4 => (s.setRail o 0 false).beginStep o 4
  | _ => (s.beginStep o 5).unpowered o 3

/-- Rails whose off thresholds step k of the power-off waits for, its least time and its limit in edges. -/
def State.offWait (s : State) (o : Output) (k : Nat) : List Nat × Nat × Nat :=
  match k with
  | 2 => ([1], edgesUs (s.panelRec o).tGh, edgesMs 10)
  | 3 => ([2, 3], edgesUs (s.panelRec o).tGl, edgesMs 10)
  | _ => ([0], 0, edgesMs 20)

/-- The rail of power-on step k (1–4). -/
def onRail (k : Nat) : Nat := [0, 2, 1, 3].getD (k - 1) 0

/-- Step k (1–5) of the power-on (R287). -/
def State.onStep (s : State) (o : Output) (k : Nat) : State :=
  let s := s.beginStep o k
  if k = 5 then s.train o
  else
    let s := if k = 4 then s.setFld (PNL_VCOM_ADJ_duty o.val) (s.bandNow o).vcomDuty else s
    s.setRail o (onRail k) true

/-- The power-on sequence of an output that passed admission starts. -/
def State.powerOn (s : State) (o : Output) : State :=
  ((s.setFld (SCN_OUT_STAT_state o.val) 1).setFld (PNL_OUT_STAT_seq o.val) 1).onStep o 1

/-- Step 6: DISCHARGE packets, XON high for clear_time. -/
def State.clearPanel (s : State) (o : Output) : State := ((s.discharge o).setXon o true).beginStep o 6

/-- Time since the present step began has reached n edges. -/
def State.stepOver (s : State) (o : Output) (n : Nat) : Bool := s.elapsed (s.out o).scan.stepAt n

/-- 20 µs of D21.5, 20 µs of IDLE and 1 ms of TRAIN packets (R265). -/
def trainEdges : Nat := edgesUs 1040

/-- RAIL_WAIT_DONE (R287, R288): a wait ends when every named reading lies in its window or within its off threshold. -/
def execRailWaitDone (t : Nat) (o : Output) (mv : RailMv) (s : State) : Host.Outcome State Fault Refusal :=
  .next <|
    let s := s.advanceTo t
    let k := s.panelStep o
    if s.panelSeq o = 1 && 1 ≤ k && k ≤ 4 then
      if (s.railRec o (onRail k)).inWindow (railOf mv (onRail k)) then (s.putRails o (railOf mv)).onStep o (k + 1) else s
    else if s.panelSeq o = 2 && 2 ≤ k && k ≤ 4 then
      let (rails, least, _) := s.offWait o k
      if s.stepOver o least && rails.all fun r => (s.railRec o r).isOff (railOf mv r) then
        (s.putRails o (railOf mv)).offStep o (k + 1)
      else s
    else s

/-- RAIL_TIMEOUT (R287, R288): during power-on the orderly power-off runs; during power-off the sequence continues. -/
def execRailTimeout (t : Nat) (o : Output) (mv : RailMv) (s : State) : Host.Outcome State Fault Refusal :=
  .next <|
    let s := s.advanceTo t
    let k := s.panelStep o
    if s.panelSeq o = 1 && 1 ≤ k && k ≤ 4 then
      let r := onRail k
      if !s.stepOver o (edgesMs (s.railRec o r).timeoutMs) || (s.railRec o r).inWindow (railOf mv r) then s
      else ((s.putRails o (railOf mv)).railEvent o r k (railOf mv r)).powerOff o
    else if s.panelSeq o = 2 && 2 ≤ k && k ≤ 4 then
      let (rails, _, limit) := s.offWait o k
      match rails.find? fun r => !(s.railRec o r).isOff (railOf mv r) with
      | none => s
      | some r =>
        if s.stepOver o limit then ((s.putRails o (railOf mv)).railEvent o r k (railOf mv r)).offStep o (k + 1) else s
    else s

/-- CD_READY_RISE (R287 step 5): the level of OUTo_CD_READY; once the training time is over, the sequence goes on. -/
def execCdReadyRise (t : Nat) (o : Output) (s : State) : Host.Outcome State Fault Refusal :=
  .next <|
    let s := (s.advanceTo t).setFld (PNL_OUT_STAT_cd_ready o.val) 1
    if s.panelSeq o = 1 && s.panelStep o = 5 && (s.panelRec o).cdReady && s.stepOver o trainEdges then s.clearPanel o else s

/-- CD_READY_TIMEOUT (R287 step 5): 10 ms of further TRAIN packets without CD_READY. -/
def execCdReadyTimeout (t : Nat) (o : Output) (s : State) : Host.Outcome State Fault Refusal :=
  .next <|
    let s := s.advanceTo t
    if s.panelSeq o = 1 && s.panelStep o = 5 && (s.panelRec o).cdReady && s.fld (PNL_OUT_STAT_cd_ready o.val) = 0 &&
        s.stepOver o (trainEdges + edgesMs 10) then
      (s.raiseOpen 149 (o.val * 2 ^ 30)).powerOff o
    else s

/-- Step 8 of the power-on: the output scans; its first tick is the next grid instant. -/
def State.poweredOn (s : State) (o : Output) : State :=
  let s := (s.setFld (PNL_OUT_STAT_seq o.val) 0).beginStep o 0
  let s := (s.setFld (SCN_OUT_STAT_state o.val) 2).setFld (SCN_OUT_STAT_m o.val) 1
  let s := s.updScan o fun c => { c with railBad := Vector.replicate 4 0 }
  let s := s.updCycle o fun c => { c with
    ticked := false, nextTick := gridFrom s.timeNs (s.periodNs o) (s.outRec o).phase }
  s.milestone o 1

/-- The power-on stages that end with time. -/
def State.onExpiry (s : State) (o : Output) : State :=
  match s.panelStep o with
  | 5 =>
    if s.stepOver o trainEdges && (!(s.panelRec o).cdReady || s.fld (PNL_OUT_STAT_cd_ready o.val) = 1) then s.clearPanel o
    else s
  | 6 =>
    if s.stepOver o (edgesMs (s.panelRec o).clearMs) then ((s.setXon o false).sendAll o .idle).beginStep o 7 else s
  | 7 => if s.stepOver o (edgesMs 1) then s.poweredOn o else s
  | _ => s

/-- Step k of the abrupt sequence with its time counted from the trigger; `stepAt` stays at the trigger (R289). -/
def State.abruptExpiry (s : State) (o : Output) : State :=
  let p := s.panelRec o
  let step := PNL_OUT_STAT_step o.val
  match s.panelStep o with
  | 3 =>
    if s.stepOver o (edgesUs (p.tEq + p.tGh)) then
      (((s.setRail o 2 false).setRail o 3 false).setXon o false).setFld step 4
    else s
  | 4 => if s.stepOver o (edgesUs (p.tEq + p.tGh + p.tGl)) then (s.setFld step 5).unpowered o 5 else s
  | _ => if s.stepOver o (edgesUs p.tEq) then (s.setRail o 1 false).setFld step 3 else s

/-- PANEL_SEQUENCE_TIME_EXPIRY (R287–R289): a stage of fixed time ends. -/
def execPanelSequenceTimeExpiry (t : Nat) (o : Output) (s : State) : Host.Outcome State Fault Refusal :=
  .next <|
    let s := s.advanceTo t
    match s.panelSeq o with
    | 1 => s.onExpiry o
    | 2 => if s.panelStep o = 1 && s.stepOver o (edgesMs (s.panelRec o).clearMs) then s.offStep o 2 else s
    | 3 => s.abruptExpiry o
    | _ => s

/-- The abrupt loss on the panel side (R289, R291): step 1 is not repeated where an orderly power-off has run it, and no
later step undoes one that is complete. -/
def State.abruptPanel (s : State) (o : Output) : State :=
  if s.panelState o = 0 || s.panelSeq o = 3 then s
  else
    let begun := s.panelSeq o = 2 && 1 ≤ s.panelStep o
    let s := (s.stopScan o).setFld (PNL_OUT_STAT_seq o.val) 3
    let s := s.milestone o 4
    let s := if begun then s else (s.discharge o).setXon o true
    s.beginStep o 1

/-- FREEZE_PANEL_HOLD_EXPIRY (R247): after FREEZE_PANEL_HOLD from step 1 of a freeze every powered output powers off. -/
def execFreezePanelHoldExpiry (t : Nat) (s : State) : Host.Outcome State Fault Refusal :=
  .next <|
    let s := s.advanceTo t
    match s.dram.frozenAt with
    | none => s
    | some t0 =>
      let hold := s.fld DRC_FREEZE_HOLD_hold_s
      if s.dram.held || !s.elapsed t0 (edgesS (if hold = 0 then 5 else hold)) then s
      else allOutputs.foldl State.powerOff { s with dram := { s.dram with held := true } }

/-! ### LINE_SLOT_START (R253–R259) -/

/-- A double-bit error in the ring's alcove that the read of subpixel xs of active line y meets (R209): EV244, the event of
the scan-out, and the entries of the 64-bit word are free values. -/
def State.ringHit (s : State) (o : Output) (y : Nat) (hit : Option Nat) : State :=
  match hit with
  | none => s
  | some xs =>
    if s.wsub o ≤ xs then s
    else
      let entry := s.ringIndex o xs y
      let s := s.alcoveLost { alcove := s.ringAlcove o entry, owner := some o }
      let (v, s) := s.take
      (s.raiseOpen (128 + o.val) (v.toNat % 2 ^ 32)).updRender o fun r => { r with ring := r.ring.filter fun x => x.1 / 4 != entry / 4 }

/-- LINE_SLOT_START: frame line `line` starts, or, at `line` = H + B, the LOAD of R259 before idle time. `echo` are the
channels whose pin echo mismatches the packet of this slot (R283); `hit` is a subpixel at whose word the reading of the ring
meets a double-bit error (R209). -/
def execLineSlotStart (t : Nat) (o : Output) (line : Nat) (echo : List (Fin 256)) (hit : Option Nat) (s : State) :
    Host.Outcome State Fault Refusal :=
  .next <|
    let s := s.advanceTo t
    let c := (s.out o).scan
    let off := s.panelSeq o = 2 && s.panelStep o = 0
    if c.line != line || decide (s.frameLines o < line) || !s.lineReached o line then s
    else if off then (s.updScan o fun c => { c with line := line + 1 }).offStart o
    else if !s.scanning o || !(s.out o).cycle.ticked then s
    else
      let load := c.rows.sent.isSome
      let s := s.updScan o fun c => { c with line := line + 1, rows := latchRow s.timeNs c.rows }
      let b := (s.outRec o).blank
      if b ≤ line && line < s.frameLines o then (s.ringHit o (line - b) hit).activeLine o (line - b) load echo
      else s.sendAll o (if load then .load else .idle)

/-! ### Panel temperature and bands (R277–R279) -/

/-- Linear interpolation in a table of rising codes; beyond its ends, the end points. -/
def tableTemp : List (Nat × Int) → Nat → Int
  | [], _ => 0
  | [(_, t)], _ => t
  | (c0, t0) :: (c1, t1) :: rest, code =>
    if code ≤ c0 then t0
    else if code < c1 then t0 + (t1 - t0) * ((code - c0 : Nat) : Int) / ((c1 - c0 : Nat) : Int)
    else tableTemp ((c1, t1) :: rest) code

/-- The lowest of some temperatures. -/
def lowestTemp : List Int → Option Int
  | [] => none
  | t :: ts => some (ts.foldl min t)

/-- The highest band whose lower bound a temperature in 1/16 °C reaches. -/
def bandTarget (bands : List BandRec) (temp : Int) : Nat :=
  (bands.zipIdx).foldl (fun best (b, j) => if j = 0 || b.lower * 16 ≤ temp then j else best) 0

/-- Every other output takes its re-admitted rate at its own tick; one that still powers on, from its first tick on. -/
def State.pendRates (s : State) (o : Option Output) (mayRaise : Bool) : State :=
  (s.sharing.filter fun q => some q != o).foldl (fun (s : State) q => s.pend q (.rate mayRaise)) s

/-- A band change becomes pending (R279). -/
def State.pendBand (s : State) (o : Output) (j : Nat) : State :=
  let s := (s.setFld (PNL_BAND_pending o.val) 1).setFld (PNL_BAND_next o.val) j
  let s := s.updScan o fun c => { c with upRounds := 0, downRounds := 0 }
  (s.pend o (.band j)).pendRates (some o) true

/-- The band moves by R278 after a round with a valid panel temperature. -/
def State.moveBand (s : State) (o : Output) (temp : Int) : State :=
  let bands := s.bands o
  let target := bandTarget bands temp
  let c := (s.out o).scan
  let cur := s.fld (PNL_BAND_band o.val)
  if s.panelState o = 0 then s.updScan o fun c => { c with upTarget := target, thermKnown := true, upRounds := 0, downRounds := 0 }
  else if s.fld (PNL_BAND_pending o.val) = 1 then s
  else
    let low := decide (0 < cur) && decide (temp < ((bands.getD cur {}).lower - 2) * 16)
    let up := decide (cur < target)
    let s' := s.updScan o fun c => { c with
      upRounds := if up then c.upRounds + 1 else 0
      upTarget := target
      downRounds := if low then c.downRounds + 1 else 0 }
    if up && c.upRounds = 1 then s.pendBand o (min c.upTarget target)
    else if low && c.downRounds = 7 then s.pendBand o target
    else s'

/-- The panel temperature of a round (R277). -/
def State.panelTemp (s : State) (o : Output) (ain : Nat → Nat) : State :=
  let p := s.panelRec o
  let reads := p.thermAin.map fun a => (a, tableTemp p.table (ain a))
  let valid (x : Nat × Int) : Bool := decide (-800 ≤ x.2) && decide (x.2 ≤ 2400)
  match lowestTemp ((reads.filter valid).map (·.2)) with
  | some temp =>
    let s := (s.setFld (PNL_BAND_temp o.val) (patternOf 16 temp)).setFld (PNL_BAND_tfail o.val) 0
    (s.updScan o fun c => { c with thermFail := false }).moveBand o temp
  | none =>
    -- the ADC reads the channels in ascending order (R433)
    let last := p.thermAin.foldl max 0
    let was := (s.out o).scan.thermFail
    let s := (s.setFld (PNL_BAND_tfail o.val) 1).updScan o fun c => { c with thermFail := true, upRounds := 0, downRounds := 0 }
    if was then s else s.raiseOpen 150 (o.val * 2 ^ 30 + last % 16)

/-- The band that an output takes at admission before its first tick (R278). -/
def State.takeBand (s : State) (o : Output) : State :=
  let c := (s.out o).scan
  let j := if c.thermKnown then c.upTarget else 0
  let s := (s.setFld (PNL_BAND_band o.val) j).setFld (RAY_BAND_LUT_lut_set o.val) ((s.bands o).getD j {}).lutSet
  if c.thermKnown || c.thermFail then s
  else
    let (v, s) := s.take
    (s.raiseOpen 150 (o.val * 2 ^ 30 + v.toNat % 16)).updScan o fun c => { c with thermFail := true }

/-- The mV of a rail from its AIN code (R285). -/
def RailRec.mv (r : RailRec) (code : Nat) : Int := (code : Int) * r.gain / 256 + r.offset

/-- A housekeeping round for an output: rails (R286) and panel temperature. -/
def State.panelRound (s : State) (ain : Nat → Nat) (o : Output) : State :=
  match s.itin.panel[o] with
  | none => s
  | some p =>
    let mv (r : Nat) : Int := (p.rails.getD r {}).mv (ain (p.rails.getD r {}).ain)
    let s := s.putRails o mv
    let s :=
      if !s.scanning o then s
      else
        let bad (r : Nat) : Nat :=
          if (p.rails.getD r {}).inWindow (mv r) then 0 else (s.out o).scan.railBad.toList.getD r 0 + 1
        let s := s.updScan o fun c => { c with railBad := Vector.ofFn fun (r : Fin 4) => bad r.val }
        match (List.range 4).find? fun r => 2 ≤ bad r with
        | some r => (s.railEvent o r 0 (mv r)).powerOff o
        | none => s
    if (s.bands o).isEmpty then s else s.panelTemp o ain

end Sys2Proof.Machine
end

