-- ==== Sys2Proof/Machine/Thermal.lean ====
section
/-!
DEFINITION. Thermal management (R433–R444): the housekeeping round, sensor failures, thresholds, throttle and thermal
shutdown; and domains that go off at once.
-/
namespace Sys2Proof.Machine

/-! ### Domains that lose power (R415, R432, R444) -/

/-- The state that a domain holds beside the registers, lost when the domain goes off. -/
def State.loseDomain (s : State) (pd : Nat) : State :=
  if pd < 32 then
    { s with
      engines := s.engines.filter fun (e, _) => e / 16 != pd
      caches := s.caches.set (Fin.ofNat 32 pd) [] }
  else if pd < 36 then (domainUnits pd).foldl (fun (s : State) u => s.setCodec u {}) s
  else
    match pd with
    | 36 =>
      -- what lies in CAP and TAP stays
      { s with
        cams := s.cams.map fun (c : Cam) =>
          { ring := (c.ring.map fun r => { r with writing := false }).filter s.ringHeld
            taps := c.taps, stats := c.stats, record := c.record, outRows := c.outRows }
        isp := {} }
    | 37 => { s with blt := {} }
    | 38 =>
      -- no item waits to be sent any longer
      let quiet (c : Cam) : Cam :=
        { c with ring := c.ring.map fun r => { r with sentAt := 0 }, taps := c.taps.map fun x => { x with sentAt := 0 } }
      (({ s with link := {}, cams := s.cams.map quiet }).setFld LNK_STAT_up_state 0).setFld LNK_STAT_dn_state 0
    | 43 => { s with dram := { s.dram with mem := [] } }
    | 44 => { s with wall := {} }
    | _ => s

/-- The registers of a domain that has lost its power return to their Reset values. -/
def State.loseRegs (s : State) (pd : Nat) : State :=
  if 32 ≤ pd && pd < 47 then
    { s with regs := s.regs.filter fun (a, _) => regDomain (blockOf a) (a % 0x10000) != pd }
  else s

/-- What a domain held is gone; the Itinerary restores what it sets when the domain comes on again (R416). -/
def State.loseContents (s : State) (pd : Nat) : State :=
  let s := (s.loseDomain pd).loseRegs pd
  { s with power := { s.power with lost := pd :: s.power.lost.filter (· != pd) } }

/-- A domain goes off at once. -/
def State.offNow (s : State) (pd : Nat) : State :=
  ({ s with power := { s.power with target := Sparse.erase s.power.target pd, due := Sparse.erase s.power.due pd } }.setPd pd 0).loseContents
    pd

/-! ### Sensors (R434–R440) -/

/-- The neighbours of a sensor (R435). -/
def neighbours (n : Nat) : List Nat :=
  if n < 16 then
    let i := n / 4
    let p := n % 4
    (if 0 < i then [n - 4] else []) ++ (if i < 3 then [n + 4] else []) ++
      (if 0 < p then [n - 1] else []) ++ (if p < 3 then [n + 1] else [])
  else
    match n with
    | 16 => [17, 5, 6]
    | 17 => [16, 5, 6]
    | 18 => [19, 0, 3]
    | 19 => [18, 0, 3]
    | 20 => [21, 12, 15]
    | 21 => [20, 12, 15]
    | 22 => [20, 21, 13, 14]
    | _ => [16, 17, 9, 10]

/-- An integer put into a rising list. -/
def insertInt (x : Int) : List Int → List Int
  | [] => [x]
  | y :: ys => if x ≤ y then x :: y :: ys else y :: insertInt x ys

/-- Twice the median. -/
def median2 (l : List Int) : Int :=
  let s := l.foldr insertInt []
  let k := s.length / 2
  if s.length % 2 = 1 then 2 * s.getD k 0 else s.getD (k - 1) 0 + s.getD k 0

def State.sensorFailed (s : State) (n : Nat) : Bool := s.fld (THM_S_STAT_failed n) = 1

/-- The sensors of a cluster (R434). -/
def coverSensors (cl : Nat) : Nat × Nat :=
  let i := cl / 8
  let j := cl % 8
  (4 * i + j / 2, 4 * (i ^^^ 1) + j / 2)

/-- Sensors not failed. -/
def State.validSensors (s : State) : List Nat := (List.range 24).filter fun n => !s.sensorFailed n

/-- A sensor fails (R436–R438): the hold-off starts anew. -/
def State.failSensor (s : State) (n cause : Nat) (reading : Int) : State :=
  let s := ((s.setFld (THM_S_STAT_failed n) 1).setFld (THM_S_STAT_cause n) cause).raise (176 + n) cause
    (cause * 2 ^ 24 + patternOf 16 reading)
  let s := s.setFld THM_STATE_valid s.validSensors.length
  let s := s.raiseOpen 203 s.validSensors.length
  { s with therm := { s.therm with holdUntil := some (s.now + edgesS 30) } }

/-- The failures that a round finds: range and stuck codes, then the neighbour test among the sensors left (R436). -/
def State.newFailures (s : State) (read : Nat → Int) : List (Nat × Nat) :=
  let good := s.validSensors
  let first := good.filterMap fun n =>
    if read n < -960 || 3200 < read n then some (n, 1)
    else if 64 ≤ s.fld (THM_S_STAT_same n) then some (n, 2)
    else none
  let left := good.filter fun n => !(first.any fun x => x.1 = n)
  let third := left.filterMap fun n =>
    let near := ((neighbours n).filter left.contains).map read
    if near.length < 2 then none
    else if 800 < (2 * read n - median2 near).natAbs then some (n, 3)
    else none
  first ++ third

/-- Clusters whose two sensors have both failed go to retention, unless they have left the on state already, and leave
service (R439). -/
def State.holdClusters (s : State) : State :=
  (List.range 32).foldl (fun (s : State) cl =>
    let (a, b) := coverSensors cl
    if s.sensorFailed a && s.sensorFailed b && s.inService cl then
      let s := if 2 ≤ s.pd cl then s.startTransition cl 1 else s
      (s.loseCluster cl 3).raiseOpen 204 cl
    else s) s

/-! ### Throttle (R441–R443) -/

/-- A throttle level becomes pending beside those that wait already; with no active output it takes effect at once (R24, R443).
Every output is re-admitted (R36). -/
def State.pendThrottle (s : State) (level : Nat) : State :=
  let old := s.therm.level
  let s := { s with therm := { s.therm with level } }
  let s := s.raiseOpen 201 level
  let s := match s.lowestActive with
    | none => s.applyThrottle level
    | some _ =>
      let step : Change := { kind := .throttle level, since := s.now }
      let s := { s with therm := { s.therm with steps := s.therm.steps ++ [step] } }
      (s.setFld THM_STATE_pending 1).setFld THM_STATE_next level
  s.pendRates none (decide (level < old))

/-- Thermal shutdown (R444). -/
def State.thermalShutdown (s : State) (top : Int) : State :=
  let s := s.raiseOpen 202 (patternOf 16 top)
  let s := (s.setFld THM_STATE_shutdown 1).snapRequest 6 0 none
  let s := { s with boot := { s.boot with phase := .thermalShutdown } }
  let s := (List.range 38).foldl State.offNow s.endRequests
  allOutputs.foldl State.powerOff s

/-- Thresholds: 0 warning, 1 throttle, 2 throttle2, 3 shutdown, in 1/16 °C. -/
def State.threshold (s : State) (i : Fin 4) : Int :=
  16 * ((match i.val with
    | 0 => s.fld THM_CFG_warning
    | 1 => s.fld THM_CFG_throttle
    | 2 => s.fld THM_CFG_throttle2
    | _ => s.fld THM_CFG_shutdown : Nat) : Int)

/-- One threshold after a round: rounds above and below, whether it is entered. A throttle level is not left during the
hold-off (R438, R442). -/
def thresholdStep (above below : Nat) (entered holdLeave : Bool) (top thr : Int) : Nat × Nat × Bool :=
  let a := if thr ≤ top then min (above + 1) 2 else 0
  let b := if top < thr - 80 then min (below + 1) 8 else 0
  let e := if !entered then 2 ≤ a else !(8 ≤ b && !holdLeave)
  (a, b, e)

/-- The throttle level that applies becomes pending where it is a new one (R440, R443). -/
def State.throttleTo (s : State) (level : Nat) : State := if level = s.therm.level then s else s.pendThrottle level

/-- The thresholds after a round whose reported maximum is `top`. -/
def State.thresholds (s : State) (top : Int) : State :=
  let m := s.therm
  let held := m.holdUntil.isSome
  let res (i : Fin 4) := thresholdStep (m.above.get i) (m.below.get i) (m.entered.get i) (held && i.val != 0) top (s.threshold i)
  let s := { s with therm := { m with
    above := Vector.ofFn fun i => (res i).1
    below := Vector.ofFn fun i => (res i).2.1
    entered := Vector.ofFn fun i => (res i).2.2 } }
  let s :=
    if (res 0).2.2 == m.entered.get 0 then s
    else (s.raise 200 (b2n (res 0).2.2) (patternOf 16 top)).setFld THM_STATE_warning (b2n (res 0).2.2)
  let level := if m.forced || (res 2).2.2 then 2 else if (res 1).2.2 then 1 else 0
  let s := s.throttleTo level
  if (res 3).2.2 && !m.entered.get 3 then s.thermalShutdown top else s

/-! ### The round (R433) -/

/-- The sensor registers after a round: readings and unchanged codes. -/
def State.putSensors (s : State) (read : Nat → Int) : State :=
  (List.finRange 24).foldl (fun (s : State) n =>
    let same := if s.therm.raw.get n = some (read n.val) then min 127 (s.fld (THM_S_STAT_same n.val) + 1) else 0
    let s := (s.setFld (THM_S_STAT_reading n.val) (patternOf 16 (read n.val))).setFld (THM_S_STAT_same n.val) same
    { s with therm := { s.therm with raw := s.therm.raw.set n (some (read n.val)) } }) s

/-- The highest reading of some sensors and the first sensor that gives it. -/
def hottest (read : Nat → Int) : List Nat → Option (Nat × Int)
  | [] => none
  | n :: ns =>
    match hottest read ns with
    | none => some (n, read n)
    | some (k, t) => if read n < t then some (k, t) else some (n, read n)

/-- THM_MAX (R437) and what follows from the reported maximum; with no sensor left the last maximum stays, and level 2 holds
(R440). -/
def State.putMax (s : State) (read : Nat → Int) : State :=
  let valid := s.validSensors
  match hottest read valid with
  | none => if s.boot.phase = .thermalShutdown || !s.therm.forced then s else s.throttleTo 2
  | some (n, t) =>
    let sub := valid.length < 24
    let top := if sub then t + 160 else t
    let s := ((s.setFld THM_MAX_max (patternOf 16 top)).setFld THM_MAX_substituted (b2n sub)).setFld THM_MAX_sensor n
    if s.boot.phase = .thermalShutdown then s else s.thresholds top

/-- The whole seconds of hold-off left (THM_STATE). -/
def State.putHoldoff (s : State) : State :=
  match s.therm.holdUntil with
  | none => (s.setFld THM_STATE_holdoff 0).setFld THM_STATE_holdoff_s 0
  | some u => (s.setFld THM_STATE_holdoff 1).setFld THM_STATE_holdoff_s ((u - s.now) / edgesS 1)

/-- The hold-off ends 30 s after the latest sensor failure. -/
def State.endHoldoff (s : State) : State :=
  match s.therm.holdUntil with
  | some u => if u ≤ s.now then ({ s with therm := { s.therm with holdUntil := none } }).putHoldoff else s
  | none => s

/-- HOLDOFF_EXPIRY (R438). -/
def execHoldoffExpiry (t : Nat) (s : State) : Host.Outcome State Fault Refusal := .next (s.advanceTo t).endHoldoff

/-- HOUSEKEEPING_ROUND (R433–R444, R277, R286): the readings of one round by ADC channel; sensors in 1/16 °C, monitors in mV,
AIN codes. -/
def execHousekeepingRound (t : Nat) (ch : List Int) (s : State) : Host.Outcome State Fault Refusal :=
  .next <|
    let s := (s.advanceTo t).endHoldoff
    if ch.length < 56 then s
    else
      let read (n : Nat) : Int := ch.getD n 0
      let ain (a : Nat) : Nat := min 4095 (ch.getD (40 + a % 16) 0).toNat
      let s := s.wrapFld THM_ROUND_count
      let s := s.putSensors read
      let s := (List.range 16).foldl (fun (s : State) m =>
        s.setFld (PWR_MON_STAT_round_mv m) (ch.getD (24 + m) 0).toNat) s
      let s := (List.range 16).foldl (fun (s : State) a => s.setFld (THM_AIN_code a) (ain a)) s
      let s := (s.newFailures read).foldl (fun (s : State) x => s.failSensor x.1 x.2 (read x.1)) s
      let s := s.holdClusters
      let s :=
        if s.validSensors.length < 8 && !s.therm.forced then
          ({ s with therm := { s.therm with forced := true } }).raiseOpen 206 s.validSensors.length
        else s
      let s := (s.putMax read).putHoldoff
      allOutputs.foldl (fun (s : State) o => s.panelRound ain o) s

end Sys2Proof.Machine
end

