-- ==== Sys2Proof/Machine/Lanes.lean ====
section
/-!
DEFINITION. The Caravan lanes (R298, R301–R305): blocks and the scrambler, rows, wagons in rows, marker blocks, PRBS patterns
and the FFE taps.
-/
namespace Sys2Proof.Machine

/-! ### Hops and groups (R294) -/

def hopIx : Hop → Nat
  | .up => 0
  | .dn => 1

def State.tx (s : State) : Hop → TxGroup
  | .up => s.link.txUp
  | .dn => s.link.txDn
def State.setTx (s : State) (h : Hop) (x : TxGroup) : State :=
  match h with
  | .up => { s with link := { s.link with txUp := x } }
  | .dn => { s with link := { s.link with txDn := x } }

/-- The first transmit lane and the first receive lane of a hop. -/
def txLane (h : Hop) : Nat := match h with | .up => 8 | .dn => 16
def rxLane (h : Hop) : Nat := match h with | .up => 0 | .dn => 24

/-- Is a group bound upstream: UP_TX, DN_RX? -/
def upbound (h : Hop) (tx : Bool) : Bool := (h == .up) == tx

/-! ### Blocks (R302) -/

/-- A block of 8 bytes, byte 0 in bits [7:0]. -/
def laneBlock (control : Bool) (bytes : Bytes) : Block :=
  { sync := if control then 0b10 else 0b01, data := BitVec.ofNat 64 (leNat (bytes.take 8)) }

def blockBytes (b : Block) : Bytes := toLe 8 b.data.toNat

def isControl (b : Block) : Bool := b.sync = 0b10
def isData (b : Block) : Bool := b.sync = 0b01

/-- One bit through the scrambler x⁵⁸ + x³⁹ + 1: the bit sent, and the bits sent last, the latest in bit 0. -/
def scrambleBit (st : BitVec 58) (d : Bool) : Bool × BitVec 58 :=
  let out := d ^^ st.getLsbD 38 ^^ st.getLsbD 57
  (out, (st <<< 1) ||| (if out then 1 else 0))

/-- One bit through the descrambler. -/
def descrambleBit (st : BitVec 58) (c : Bool) : Bool × BitVec 58 :=
  (c ^^ st.getLsbD 38 ^^ st.getLsbD 57, (st <<< 1) ||| (if c then 1 else 0))

/-- Bits through a scrambler or descrambler, in order of time. -/
def throughBits (f : BitVec 58 → Bool → Bool × BitVec 58) : BitVec 58 → List Bool → List Bool × BitVec 58
  | st, [] => ([], st)
  | st, d :: ds =>
    let (c, st) := f st d
    let (cs, st) := throughBits f st ds
    (c :: cs, st)

/-- The bits of a block's payload, bit 0 first. -/
def payloadBits (b : Block) : List Bool := (List.range 64).map b.data.getLsbD

/-- A block on its lane: its 66 bits in the order sent, the sync header as it is written and not scrambled. -/
def sendBlock (st : BitVec 58) (b : Block) : List Bool × BitVec 58 :=
  let (bits, st) := throughBits scrambleBit st (payloadBits b)
  (b.sync.getLsbD 1 :: b.sync.getLsbD 0 :: bits, st)

/-- A block from the 66 bits of its lane. -/
def takeBlock (st : BitVec 58) (l : List Bool) : Block × BitVec 58 :=
  let (bits, st) := throughBits descrambleBit st (l.drop 2)
  ({ sync := BitVec.ofBool (l.getD 0 false) ++ BitVec.ofBool (l.getD 1 false)
     data := BitVec.ofNat 64 (bits.foldr (fun x n => b2n x + 2 * n) 0) }, st)

/-! A long run of one block changes the scrambler by an affine map, applied as often as the block is sent. -/

/-- An affine map over bits: the images of the 58 unit vectors, lowest first, less the image of 0; the image of 0. -/
structure BitMap where
  cols : List (BitVec 58)
  base : BitVec 58

def BitMap.run (m : BitMap) (x : BitVec 58) : BitVec 58 :=
  m.cols.zipIdx.foldl (fun acc (c, i) => if x.getLsbD i then acc ^^^ c else acc) m.base

/-- First g, then f. -/
def BitMap.after (f g : BitMap) : BitMap :=
  { cols := g.cols.map fun c => f.run c ^^^ f.base, base := f.run g.base }

/-- The map of one block. -/
def blockMap (b : Block) : BitMap :=
  let base := (sendBlock 0 b).2
  { cols := (List.range 58).map fun i => (sendBlock (1#58 <<< i) b).2 ^^^ base, base }

/-- The map that leaves every state. -/
def BitMap.one : BitMap := { cols := (List.range 58).map fun i => 1#58 <<< i, base := 0 }

/-- n uses of a map; fuel bounds the bits of n. -/
def BitMap.pow (m : BitMap) : Nat → Nat → BitMap
  | 0, _ => .one
  | fuel + 1, n =>
    if n = 0 then .one
    else if n % 2 = 1 then ((m.after m).pow fuel (n / 2)).after m
    else (m.after m).pow fuel (n / 2)

/-! ### Rows (R303–R305) -/

/-- The blocks of a group's 8 lanes in one block time. -/
abbrev Row := List Block

def idleRow : Row := List.replicate 8 (laneBlock true [0x1E])

/-- The marker block of lane i of a group (R305). -/
def markerBlock (up : Bool) (i : Nat) : Block :=
  laneBlock true ([0x4B, BitVec.ofNat 8 i, if up then 1 else 0, ~~~(BitVec.ofNat 8 i)] ++ zeros 4)

def markerRow (up : Bool) : Row := (List.range 8).map (markerBlock up)

/-- The START row of a wagon: its bytes 0–55 on lanes 1–7. -/
def startRow (b : Bytes) : Row :=
  laneBlock true [0x78] :: (List.range 7).map fun i => laneBlock false (slice b (8 * i) 8)

/-- DATA row r of a wagon, from 1 on: its bytes from 56 + 64 (r − 1) on. -/
def dataRow (b : Bytes) (r : Nat) : Row :=
  (List.range 8).map fun i => laneBlock false (slice b (56 + 64 * (r - 1) + 8 * i) 8)

/-- Rows of a wagon of n bytes, its CRC-32C among them (R304). -/
def rowCount (n : Nat) : Nat := 1 + ceilDiv (n - 56) 64

/-- The rows of a wagon, without markers. -/
def wagonRows (b : Bytes) : List Row := startRow b :: (List.range (rowCount b.length - 1)).map fun i => dataRow b (i + 1)

/-- The kinds of rows. -/
inductive RowKind where
  | idle
  | marker
  | start
  | data
  | invalid
  deriving DecidableEq, Repr

/-- The kind of a row received on a group. -/
def rowKind (up : Bool) (r : Row) : RowKind :=
  if r.length != 8 then .invalid
  else if r = idleRow then .idle
  else if r = markerRow up then .marker
  else if r.all isData then .data
  else if r.head? = some (laneBlock true [0x78]) && (r.drop 1).all isData then .start
  else .invalid

/-- Did a row that fits no kind, or one that may not fall there, come between the rows of a wagon (R303, R312)? -/
def badRow (up : Bool) (w : Wagon) : Bool := w.between.any fun r => rowKind up r != .marker

/-- Is alignment lost: do some lanes bring a marker block while others do not (R307, R310)? -/
def misaligned (r : Row) : Bool :=
  let marker (b : Block) : Bool := isControl b && b.data.toNat % 256 = 0x4B
  r.any marker && !r.all marker

/-- The marker that every 16,384th row is (R305): `n` rows have gone before. -/
def markerInterval : Nat := 16384

/-- Rows as they go out once n rows have gone, markers among them. -/
def withMarkers (up : Bool) : Nat → List Row → List Row
  | _, [] => []
  | n, r :: rs =>
    if (n + 1) % markerInterval = 0 then markerRow up :: r :: withMarkers up (n + 2) rs
    else r :: withMarkers up (n + 1) rs

/-- The bytes of a wagon's rows that have come, and the other rows that fell between them. Fuel bounds the rows. -/
def gather (up : Bool) : Nat → List Row → Bytes → List Row → Bytes × List Row
  | 0, _, bs, others => (bs, others)
  | _, [], bs, others => (bs, others)
  | fuel + 1, r :: rs, bs, others =>
    if rowKind up r = .data then gather up fuel rs (bs ++ r.flatMap blockBytes) others
    else gather up (fuel + 1) rs bs (others ++ [r])

/-- A wagon from the rows that begin with its START row; a header whose CRC-16 fails gives the START row's bytes alone. -/
def wagonOfRows (up : Bool) : List Row → Option Wagon
  | [] => none
  | r :: rs =>
    if rowKind up r != .start then none
    else
      let head := (r.drop 1).flatMap blockBytes
      let good := (crc16 (head.take 14)).toNat == leAt head 14 2
      let n := 20 + leAt head 6 2
      if !good then some { bytes := head }
      else
        let (bs, others) := gather up (rowCount n - 1) rs head []
        some { bytes := bs.take n, between := others }

/-! ### Rates (R295) -/

/-- LNK_STAT's rate code as 10 kb/s. -/
def rateOf (code : Nat) : Nat := [1031250, 2578125, 2812500, 3200000].getD code 0

/-- Unit intervals of a lane in n edges of 2 ns. -/
def State.unitsIn (s : State) (n : Nat) : Nat := n * rateOf (s.fld LNK_STAT_rate) / 50000

/-! ### What a transmit group sends (R302–R305, R319) -/

/-- The rows of what is on the wire of a group, markers among them; none while it idles. -/
def State.wireRows (s : State) (h : Hop) : List Row :=
  match (s.tx h).wire with
  | none => []
  | some b => withMarkers (upbound h true) (s.tx h).rows (wagonRows b)

/-- A lane's scrambler after n idle rows, markers among them, once `gone` rows have gone: those up to the next marker, that
one, every whole interval of idle rows with its marker, and the rows that are left. -/
def idleOn (up : Bool) (lane gone n : Nat) (x : BitVec 58) : BitVec 58 :=
  let free := markerInterval - 1 - gone % markerInterval
  let idle := blockMap (laneBlock true [0x1E])
  if n ≤ free then (idle.pow 64 n).run x
  else
    let marker := blockMap (markerBlock up lane)
    let rest := n - free - 1
    let turn := marker.after (idle.pow 64 (markerInterval - 1))
    (idle.pow 64 (rest % markerInterval)).run
      ((turn.pow 64 (rest / markerInterval)).run (marker.run ((idle.pow 64 free).run x)))

/-- A wagon boundary (R319): the rows that have gone since the last one are counted, and each lane's scrambler stands where they
have left it. IDLE rows fill the time that the wagon did not take. -/
def State.boundary (s : State) (h : Hop) : State :=
  let t := s.tx h
  let sent := s.wireRows h
  let idle := s.unitsIn (s.now - t.rowsAt) / 66 - sent.length
  let up := upbound h true
  s.setTx h { t with
    rows := t.rows + sent.length + idle
    rowsAt := s.now
    scramblers := Vector.ofFn fun i =>
      let x := sent.foldl (fun x (r : Row) => (sendBlock x (r.getD i.val default)).2) (t.scramblers.get i)
      idleOn up i.val (t.rows + sent.length) idle x }

/-- Step 2 of a bring-up begins: rows are counted from here, and the scramblers stand anywhere (R302, R305). -/
def State.startRows (s : State) (h : Hop) : State :=
  let base := s.fresh
  let s := { s with fresh := s.fresh + 8 }
  s.setTx h { s.tx h with
    rows := 0, rowsAt := s.now
    scramblers := Vector.ofFn fun i => (Config.free (base + i.val)).setWidth 58 }

/-- The bits of the wagon on the wire on lane i of a transmit group. -/
def State.laneBits (s : State) (h : Hop) (i : Fin 8) : List Bool :=
  ((s.wireRows h).foldl (fun (acc : List Bool × BitVec 58) (r : Row) =>
    let (bits, x) := sendBlock acc.2 (r.getD i.val default)
    (acc.1 ++ bits, x)) ([], (s.tx h).scramblers.get i)).1

/-! ### PRBS (R301) -/

/-- Degree and second tap of the pattern of a mode: 1 PRBS7, 2 PRBS15, 3 PRBS31. -/
def prbsTaps (mode : Nat) : Nat × Nat := match mode with | 1 => (7, 6) | 2 => (15, 14) | _ => (31, 28)

/-- The next bit of a pattern from the bits before it, the latest in bit 0. -/
def prbsNext (mode : Nat) (g : BitVec 31) : Bool := g.getLsbD ((prbsTaps mode).1 - 1) ^^ g.getLsbD ((prbsTaps mode).2 - 1)

/-- n bits of a pattern. -/
def prbsBits (mode : Nat) : Nat → BitVec 31 → List Bool
  | 0, _ => []
  | n + 1, g => prbsNext mode g :: prbsBits mode n ((g <<< 1) ||| (if prbsNext mode g then 1 else 0))

/-- Does a generator invert bit n: on command, or as one in every 2^k? -/
def inverts (l : LaneSt) (k n : Nat) : Bool := l.inverted.contains n || (10 ≤ k && n % 2 ^ k = 2 ^ k - 1)

/-- The first n bits that a generator has sent since its test began. -/
def State.generated (s : State) (lane : Lane) (n : Nat) : List Bool :=
  let k := s.fld (LPH_PRBS_inject_k lane.val)
  (prbsBits (s.fld (LPH_PRBS_mode lane.val)) n (Config.prbsStart lane.val)).zipIdx.map fun (b, i) =>
    b ^^ inverts (s.link.lanes.get lane) k i

/-- Errors that a checker counts in the bits it receives: it takes the bits themselves for the pattern's past. -/
def checkerErrors (mode : Nat) : List Bool → BitVec 31 → Nat
  | [], _ => 0
  | b :: bs, g => b2n (b != prbsNext mode g) + checkerErrors mode bs ((g <<< 1) ||| (if b then 1 else 0))

/-! ### FFE (R298) -/

/-- The taps of a transmit lane: pre, main and post in 1/63 of full swing; values beyond the ranges act as their ends (assumption
log 209). -/
def State.ffe (s : State) (lane : Nat) : Nat × Nat × Nat :=
  let pre := min 10 (s.fld (LPH_CFG_pre lane))
  let post := min 20 (s.fld (LPH_CFG_post lane))
  (pre, 63 - pre - post, post)

end Sys2Proof.Machine
end

