-- ==== Sys2Proof/Machine/Link.lean ====
section
/-!
DEFINITION. The Caravan link layer (R294–R329, R335–R338): lanes, bring-up, wagons, credits, sequence numbers and replay,
violations, relay.
-/
namespace Sys2Proof.Machine

/-! ### Hops and groups (R294) -/

def otherHop : Hop → Hop
  | .up => .dn
  | .dn => .up

def State.hop (s : State) : Hop → HopSt
  | .up => s.link.hopUp
  | .dn => s.link.hopDn
def State.setHop (s : State) (h : Hop) (x : HopSt) : State :=
  match h with
  | .up => { s with link := { s.link with hopUp := x } }
  | .dn => { s with link := { s.link with hopDn := x } }
def State.rx (s : State) : Hop → RxGroup
  | .up => s.link.rxUp
  | .dn => s.link.rxDn
def State.setRx (s : State) (h : Hop) (x : RxGroup) : State :=
  match h with
  | .up => { s with link := { s.link with rxUp := x } }
  | .dn => { s with link := { s.link with rxDn := x } }

/-- LNK_STAT's state of a hop: 0 unused, 1 bring-up, 2 up, 3 warm retrain, 4 down awaiting cold bring-up. -/
def State.hopState (s : State) : Hop → Nat
  | .up => s.fld LNK_STAT_up_state
  | .dn => s.fld LNK_STAT_dn_state
def State.setHopState (s : State) (h : Hop) (v : Nat) : State :=
  match h with
  | .up => s.setFld LNK_STAT_up_state v
  | .dn => s.setFld LNK_STAT_dn_state v

/-- The receive lanes of a hop, all lanes of a hop, the hop of a lane. -/
def rxLanes : Hop → List Nat
  | .up => List.range 8
  | .dn => (List.range 8).map (24 + ·)
def hopLanes : Hop → List Nat
  | .up => List.range 16
  | .dn => (List.range 16).map (16 + ·)
def laneHop (n : Nat) : Hop := if n < 16 then .up else .dn
def isRxLane (n : Nat) : Bool := n < 8 || 24 ≤ n

/-- EV096 or EV097 (causes 1–4). -/
def State.hopEvent (s : State) (h : Hop) (cause tile : Nat) : State :=
  s.raise (96 + hopIx h) cause (cause * 2 ^ 24 + tile)

/-- EV064 + lane. -/
def State.laneEvent (s : State) (n cause : Nat) : State :=
  s.raise (64 + n) cause (cause * 2 ^ 24 + s.fld (LPH_STAT_fom n))

/-! ### Wagons (R311, R312) -/

/-- A wagon's header as received. -/
structure WagonHdr where
  type : Nat
  vc : Nat
  dst : Nat
  src : Nat
  flags : Nat
  seq : BitVec 16
  length : Nat
  offset : Nat
  stream : Nat
  deriving DecidableEq, Repr

def parseWagon (b : Bytes) : WagonHdr :=
  { type := leAt b 0 1, vc := leAt b 1 1, dst := leAt b 2 1 % 16, src := leAt b 2 1 / 16, flags := leAt b 3 1
    seq := BitVec.ofNat 16 (leAt b 4 2), length := leAt b 6 2, offset := leAt b 8 4, stream := leAt b 12 2 }

def wFirst (w : WagonHdr) : Bool := bit w.flags 0
def wLast (w : WagonHdr) : Bool := bit w.flags 1
def wT15 (w : WagonHdr) : Bool := bit w.flags 2

/-- Is the header's CRC-16 right? -/
def headerOk (b : Bytes) : Bool := decide (16 ≤ b.length) && (crc16 (b.take 14)).toNat == leAt b 14 2

/-- A wagon's CRC-32C and its rows (R312): 0 right, 1 nullified, 2 an error. -/
def wagonCheck (h : Hop) (w : Wagon) : Nat :=
  let b := w.bytes
  if !headerOk b || badRow (upbound h false) w then 2
  else
    let n := 16 + (parseWagon b).length
    if b.length != n + 4 then 2
    else
      let c := crc32c (b.take n)
      let got := BitVec.ofNat 32 (leAt b n 4)
      if got = c then 0 else if got = ~~~c then 1 else 2

/-- A queued wagon's bytes with its number and CRCs (R311, R326). -/
def stampWagon (bs : Bytes) (seq : Nat) (corrupt null : Bool) : Bytes :=
  let head := bs.take 4 ++ toLe 2 seq ++ slice bs 6 8
  let body := head ++ toLe 2 (crc16 head).toNat ++ bs.drop 16
  let c := crc32c body
  body ++ toLe 4 (if null then ~~~c else if corrupt then c ^^^ 1 else c).toNat

/-- The VC that the table gives a wagon type received on a hop (R313, R314); none for an unknown one. -/
def typeVc (h : Hop) (type : Nat) : Option Nat :=
  match h with
  | .up =>
    if type = 0x01 || type = 0x02 || type = 0x08 || type = 0x0A then some 0
    else if type = 0x20 || type = 0x21 || type = 0x22 then some 1
    else if type = 0x44 then some 2
    else if type = 0x60 || type = 0x61 then some 3
    else none
  | .dn =>
    if type = 0x01 || type = 0x02 || type = 0x09 then some 0
    else if 0x40 ≤ type && type ≤ 0x46 then some 2
    else none

/-! ### Buffers and credit (R316, R317, R324) -/

/-- Units of the buffer of a VC. -/
def bufferUnits (h : Hop) (vc : Nat) : Nat :=
  match h, vc with
  | .up, 1 => 2048
  | .up, 2 => 512
  | .up, 3 => 512
  | .dn, 2 => 2048
  | _, _ => 0

/-- Units of the own share on UP_RX. -/
def shareUnits (vc : Nat) : Nat := if vc = 1 then 1024 else if vc = 3 then 256 else 0

/-- Can the tile store no own wagons at all (R324)? -/
def State.noStore (s : State) : Bool :=
  s.frozen || s.boot.dramFailed || s.boot.phase == .thermalShutdown || s.boot.phase == .safeHarbour || s.spaceRooms spLEG = 0

/-- Units that a group's held wagons of a VC take. -/
def heldUnits (r : RxGroup) (vc : Nat) : Nat := ((r.held.filter fun (_, v, _) => v = vc).map fun (_, _, u) => u).sum

/-- Units that own wagons of a VC take. -/
def State.ownUnits (s : State) (vc : Nat) : Nat :=
  ((s.rooms.heldOwn.map fun w => Sparse.getD s.link.rxUp.held w.id (0, 0)).filter fun x => x.1 = vc).map (·.2) |>.sum

/-- Free units of a VC; none for further wagons while the own share is full. -/
def State.freeUnits (s : State) (h : Hop) (vc : Nat) : Nat :=
  if h = .up && shareUnits vc != 0 && shareUnits vc ≤ s.ownUnits vc && !s.noStore then 0
  else bufferUnits h vc - heldUnits (s.rx h) vc

/-- Is counter a at or past counter b modulo 2³²? -/
def atOrPast (a b : Word) : Bool := (a - b).toNat < 2 ^ 31

/-- The limits advertised now: received + free units; a limit that has been advertised stays. -/
def State.newLimits (s : State) (h : Hop) : Vector Word 3 :=
  Vector.ofFn fun i =>
    let l := (s.rx h).received.get i + BitVec.ofNat 32 (s.freeUnits h (i.val + 1))
    if atOrPast l ((s.rx h).limits.get i) then l else (s.rx h).limits.get i

def State.refreshLimits (s : State) (h : Hop) : State :=
  let l := s.newLimits h
  s.setRx h { s.rx h with limits := l }

/-- Space of a wagon freed once it has left and been extracted (R324). -/
def State.dropSpace (s : State) (h : Hop) (id : Nat) : State :=
  let t := s.tx (otherHop h)
  let used := t.leaving = some id || (t.q1 ++ t.q2relay ++ t.q3).any (fun w => w.id = id) || (h = .up && s.rooms.heldOwn.any fun w => w.id = id)
  if used then s else s.setRx h { s.rx h with held := Sparse.erase (s.rx h).held id }

/-- The relayed wagon that was on the wire of a group has left (R324). -/
def State.leave (s : State) (h : Hop) : State :=
  match (s.tx h).leaving with
  | none => s
  | some id => (s.setTx h { s.tx h with leaving := none }).dropSpace (otherHop h) id

/-- A wagon received on a hop that cannot be relayed is counted (R325). -/
def State.relayDrop (s : State) (h : Hop) : State :=
  (s.incFld (LNK_RELAY_DROP_count (hopIx h)) 1).raise 110 (hopIx h) (hopIx h * 2 ^ 31 + hopIx h)

/-! ### A hop goes down (R297, R310, R325) -/

/-- The wagons that wait to be relayed on a hop that has gone down are discarded, and their space is freed (R325). -/
def State.dropRelayed (s : State) (o : Hop) : State :=
  let t := s.tx o
  let h := otherHop o
  let s := (s.setTx o { t with q1 := [], q2relay := [], q3 := [] }).leave o
  (t.q1 ++ t.q2relay ++ t.q3).foldl (fun (s : State) w => s.relayDrop h |>.dropSpace h w.id) s

/-- A hop that was up goes down and runs warm retrains (R310): its buffers, credits and replay buffer keep their contents. -/
def State.hopDown (s : State) (h : Hop) : State :=
  if s.hopState h != 2 then s
  else
    let s := (s.setHopState h 3).hopEvent h 2 (s.hop h).partner
    let s := s.setHop h { s.hop h with
      tries := 0, peerSeen := false, sentSeen := false, gotSeen := none, warm := true, lanesReady := false, since := s.now }
    let s := (rxLanes h).foldl (fun (s : State) n => s.setFld (LPH_STAT_deskewed n) 0) s
    let s := s.setRx h { s.rx h with waiting := false, violations := [] }
    (s.setTx h { s.tx h with q0 := [], wire := none }).dropRelayed h

/-- All 32 lanes stop and both hops go down until a cold bring-up (R297, R429). -/
def State.stopLanes (s : State) : State :=
  let down (s : State) (h : Hop) : State :=
    if s.hopState h = 0 then s
    else
      let s := if s.hopState h = 2 then s.hopEvent h 2 (s.hop h).partner else s
      let s := (s.setHopState h 4).setHop h { began := (s.hop h).began, since := s.now }
      (s.setTx h { s.tx h with q0 := [], wire := none }).dropRelayed h
  let s := (List.range 32).foldl (fun (s : State) n =>
    (((s.setFld (LPH_STAT_deskewed n) 0).setFld (LPH_STAT_block_lock n) 0).setFld (LPH_STAT_cdr_lock n) 0).setFld
      (LPH_STAT_signal n) 0) s
  down (down s .up) .dn

/-! ### Violations (R336–R338) -/

/-- A COMPLAINT's payload (R337). -/
def complaintBody (code group count stamp : Nat) (hdr : Bytes) : Bytes :=
  toLe 1 code ++ toLe 1 group ++ toLe 2 (min count 0xFFFF) ++ zeros 4 ++ toLe 8 stamp ++ hdr

/-- A COMPLAINT about a violation, at most one per code and group in 100 µs; none is sent during a freeze (R334, R337). -/
def State.complain (s : State) (h : Hop) (code : Nat) (hdr : Bytes) : State :=
  let r := s.rx h
  let (n, last) := Sparse.getD r.complaints code (0, none)
  if s.frozen || last.any (fun t => !s.elapsed t (edgesUs 100)) then
    s.setRx h { r with complaints := Sparse.set r.complaints code (n + 1, last) }
  else
    (s.setRx h { r with complaints := Sparse.set r.complaints code (0, some s.now) }).sendUp 0x44 0
      (complaintBody code (hopIx h) (n + 1) s.timeNs hdr)

/-- A violation on a receive group (R336): counted, its event, its complaint; 32 within 1 ms take the hop down (R338). -/
def State.violation (s : State) (h : Hop) (code : Nat) (b : Bytes) : State :=
  let w := parseWagon b
  let g := hopIx h * 2 ^ 31
  let s := if code = 1 then s.incFld (LNK_RX_CRC_count (hopIx h)) 1 else s.incFld (LNK_RX_VIOL_count (hopIx h)) 1
  let s :=
    if code = 1 then s.raiseOpen 98 (g + (s.rx h).expected.toNat)
    else s.raiseOpen (98 + code) (g + w.type * 2 ^ 16 + w.seq.toNat)
  let s := s.complain h code (if headerOk b then b.take 16 else zeros 16)
  let recent := ((s.rx h).violations.filter fun t => decide (s.now < t + edgesMs 1)) ++ [s.now]
  let s := s.setRx h { s.rx h with violations := recent }
  if 32 ≤ recent.length then
    ((s.setRx h { s.rx h with violations := [] }).raiseOpen 108 g).hopDown h
  else s

/-! ### LINK_STATE (R318, R327) -/

/-- A LINK_STATE wagon queued on the transmit group of a hop. -/
def State.queueLinkState (s : State) (h : Hop) (nak : Bool) : State :=
  let s := s.refreshLimits h
  let r := s.rx h
  let body := toLe 2 r.expected.toNat ++ toLe 1 (b2n nak) ++ zeros 1 ++
    r.limits.toList.flatMap (fun (l : Word) => toLe 4 l.toNat) ++ zeros 8
  let s := s.setTx h { s.tx h with q0 := (s.tx h).q0 ++ [wagonBytes 0x02 0 (15 + 16 * s.tileId) 3 24 0 0 body] }
  s.setHop h { s.hop h with lastState := some s.now }

/-- NAK from the expected number (R327). -/
def State.nak (s : State) (h : Hop) : State :=
  let s := s.setRx h { s.rx h with waiting := true, lastNak := s.now }
  s.queueLinkState h true

/-- Is s1 earlier than s2 in sequence space (R326)? -/
def seqBefore (a b : BitVec 16) : Bool :=
  let d := (b - a).toNat
  1 ≤ d && d ≤ 32767

/-- Every wagon in the replay buffer is sent again, in order; EV099 with its cause (R327, R328). -/
def State.startReplay (s : State) (h : Hop) (cause : Nat) : State :=
  let t := s.tx h
  match t.replay with
  | [] => s
  | (n, _) :: _ =>
    let s := s.setTx h { t with resend := t.replay.map (·.1) }
    let s := s.incFld (LNK_TX_REPLAY_count (hopIx h)) 1
    s.raise 99 cause (hopIx h * 2 ^ 31 + cause * 2 ^ 24 + n.toNat)

/-- Wagons that an ack acknowledges leave the replay buffer. -/
def State.acknowledge (s : State) (h : Hop) (ack : BitVec 16) : State :=
  let t := s.tx h
  let keep := t.replay.filter fun x => !seqBefore x.1 ack
  let resend := t.resend.filter fun n => !seqBefore n ack
  if keep.length < t.replay.length then s.setTx h { t with replay := keep, resend, ackAt := s.now, timeouts := 0 }
  else s.setTx h { t with resend }

/-- A received LINK_STATE (R318). -/
def State.takeLinkState (s : State) (h : Hop) (body : Bytes) : State :=
  let s := s.acknowledge h (BitVec.ofNat 16 (leAt body 0 2))
  let s := s.setTx h { s.tx h with limit := Vector.ofFn fun i => BitVec.ofNat 32 (leAt body (4 + 4 * i.val) 4) }
  if bit (leAt body 2 1) 0 then s.startReplay h 0 else s

/-! ### HELLO (R309) -/

/-- The chain position of the tile. -/
def State.chainPos (s : State) : Nat := s.fld LNK_STAT_pos

/-- Is the partner on the DN hop another tile than the chain list's next (R309)? -/
def State.wrongPartner (s : State) (p : PeerHello) : Bool :=
  (s.itin.caravan.bind fun c => c.chain[s.chainPos + 1]?) != some p.tile

/-- The hop comes up: both ends warm keep their state and resend from the partner's rx_next; otherwise the link layer starts
anew (R309). A wrong partner is noted before the hop comes up. -/
def State.hopUp (s : State) (h : Hop) (p : PeerHello) : State :=
  let x := s.hop h
  let s :=
    if x.warm && p.warm then
      let s := s.acknowledge h p.rxNext
      s.setTx h { s.tx h with resend := (s.tx h).replay.map (·.1), ackAt := s.now }
    else
      let t := s.tx h
      let s := s.setTx h { t with
        next := 0, consumed := Vector.replicate 3 0, limit := Vector.replicate 3 0, replay := [], resend := []
        ackAt := s.now, timeouts := 0 }
      s.setRx h { s.rx h with
        expected := 0, received := Vector.replicate 3 0, limits := Vector.replicate 3 0, waiting := false }
  let s := s.setHop h { x with tries := 0, gotSeen := none, lastState := none, partner := p.tile }
  let s := if h = .dn && s.wrongPartner p then s.hopEvent .dn 3 p.tile else s
  let s := (s.setHopState h 2).hopEvent h 1 p.tile
  match h with
  | .up => { s with servo := { s.servo with upAt := some s.now } }
  | .dn => s

/-- Has the present warm attempt taken longer than 2 ms (R310)? -/
def State.warmOver (s : State) (h : Hop) : Bool := s.hopState h = 3 && decide ((s.hop h).since + edgesMs 2 < s.now)

/-- The hop is up once this end has received and sent a HELLO with peer_seen. -/
def State.checkUp (s : State) (h : Hop) : State :=
  let x := s.hop h
  match x.gotSeen with
  | some p =>
    if x.sentSeen && x.lanesReady && (s.hopState h = 1 || s.hopState h = 3) && !s.warmOver h then s.hopUp h p else s
  | none => s

/-- The rate code in use. -/
def State.laneRate (s : State) : Nat := s.fld LNK_STAT_rate

/-- A received HELLO. -/
def State.takeHello (s : State) (h : Hop) (b : Bytes) : State :=
  let role := leAt b 1 1
  let tile := leAt b 2 1
  if leAt b 0 1 != 1 || leAt b 3 1 != s.laneRate then s.hopEvent h 4 tile
  else if decide (1 < role) || (h = .dn && role != 1) then s
  else
    let x := s.hop h
    let flags := leAt b 4 1
    let got := if bit flags 0 then some { warm := bit flags 1, rxNext := BitVec.ofNat 16 (leAt b 8 2), tile } else x.gotSeen
    (s.setHop h { x with peerSeen := true, gotSeen := got }).checkUp h

/-- HELLO_SEND (R309): every 10 µs in step 3 of a bring-up. -/
def execHelloSend (t : Nat) (h : Hop) (s : State) : Host.Outcome State Fault Refusal :=
  .next <|
    let s := s.advanceTo t
    let x := s.hop h
    if !(s.hopState h = 1 || s.hopState h = 3) || !x.lanesReady || x.lastHello.any (fun t => !s.elapsed t (edgesUs 10)) then s
    else
      let body := toLe 1 1 ++ toLe 1 1 ++ toLe 1 s.tileId ++ toLe 1 s.laneRate ++
        toLe 1 (b2n x.peerSeen + 2 * b2n x.warm) ++ zeros 3 ++
        (if x.warm then toLe 2 (s.rx h).expected.toNat ++ toLe 2 (s.tx h).next.toNat else zeros 4) ++ zeros 4
      let s := s.setTx h { s.tx h with q0 := (s.tx h).q0 ++ [wagonBytes 0x01 0 (15 + 16 * s.tileId) 3 16 0 0 body] }
      (s.setHop h { x with lastHello := some s.now, sentSeen := x.sentSeen || x.peerSeen }).checkUp h

/-! ### Transmitting (R319, R326) -/

/-- Bytes that a replay buffer holds. -/
def replayBytes (t : TxGroup) : Nat := (t.replay.map fun x => x.2.length + 4).sum

/-- May a new wagon of a VC start: credit, and room in the 256 KiB replay buffer? -/
def mayStart (t : TxGroup) (vc : Nat) (bs : Bytes) : Bool :=
  hasCredit t vc (wagonCharge (bs.length - 16)) && replayBytes t + bs.length + 4 ≤ 262144

/-- A new sequenced wagon starts. -/
def State.startWagon (s : State) (h : Hop) (vc : Nat) (bs : Bytes) : State :=
  let t := s.tx h
  let i := Fin.ofNat 3 (vc - 1)
  s.setTx h { t with
    wire := some (stampWagon bs t.next.toNat t.corrupt false)
    corrupt := false
    next := t.next + 1
    consumed := t.consumed.set i (t.consumed.get i + BitVec.ofNat 32 (wagonCharge (bs.length - 16)))
    replay := t.replay ++ [(t.next, bs)]
    ackAt := if t.replay.isEmpty then s.now else t.ackAt }

/-- The relayed wagon at the front of a queue starts; its space is freed once it has left (R324). -/
def State.startRelay (s : State) (h : Hop) (vc : Nat) (w : RelayWagon) (rest : TxGroup → TxGroup) : State :=
  let s := (s.startWagon h vc w.bytes)
  s.setTx h { rest (s.tx h) with leaving := some w.id }

/-- Own VC2 wagons: the first that may go, with those before it and those behind it; during a freeze that is STATUS alone (R334). -/
def State.nextOwn (s : State) (h : Hop) : Option (Bytes × List Bytes) :=
  let q := (s.tx h).q2own
  let i := if s.frozen then q.findIdx? fun b => leAt b 0 1 = 0x43 else if q.isEmpty then none else some 0
  i.bind fun i => (q[i]?).map fun b => (b, q.eraseIdx i)

/-- VC2 of a transmit group: own and relayed wagons in turn whenever both wait; an own STATUS takes its tx_time now (R371). -/
def State.startVc2 (s : State) (h : Hop) : Option State :=
  let t := s.tx h
  let own := (s.nextOwn h).filter fun x => mayStart t 2 x.1
  let rel := match t.q2relay with
    | [] => none
    | w :: ws => if mayStart t 2 w.bytes then some (w, ws) else none
  let goOwn (b : Bytes) (bs : List Bytes) : State :=
    let s := s.startWagon h 2 (if leAt b 0 1 = 0x43 then splice b 16 (toLe 8 s.timeNs) else b)
    s.setTx h { s.tx h with q2own := bs, lastOwn := true, ownDone := (s.tx h).ownDone + 1 }
  let goRel (w : RelayWagon) (ws : List RelayWagon) : State :=
    s.startRelay h 2 w fun t => { t with q2relay := ws, lastOwn := false }
  match own, rel with
  | some (b, bs), none => some (goOwn b bs)
  | none, some (w, ws) => some (goRel w ws)
  | some (b, bs), some (w, ws) => some (if t.lastOwn then goRel w ws else goOwn b bs)
  | none, none => none

/-- The next new wagon by VC starts, if one may (R319). -/
def State.startNew (s : State) (h : Hop) : Option State :=
  let t := s.tx h
  let vc1 := match t.q1 with
    | [] => none
    | w :: ws => if mayStart t 1 w.bytes then some (s.startRelay h 1 w fun t => { t with q1 := ws }) else none
  let vc3 := match t.q3 with
    | [] => none
    | w :: ws => if mayStart t 3 w.bytes then some (s.startRelay h 3 w fun t => { t with q3 := ws }) else none
  (vc1.or (s.startVc2 h)).or vc3

/-- The first VC0 wagon that its bounds let go: a LINK_STATE 100 ns after the last, or another one 10 µs after the last (R318). -/
def State.pickVc0 (s : State) (h : Hop) : Option (Bytes × List Bytes) :=
  let t := s.tx h
  let ok (b : Bytes) : Bool :=
    if leAt b 0 1 = 2 then !t.lastState.any fun e => !s.elapsed e (edgesNs 100)
    else !t.lastVc0.any fun e => !s.elapsed e (edgesUs 10)
  match t.q0.findIdx? ok with
  | some i => (t.q0[i]?).map fun b => (b, t.q0.eraseIdx i)
  | none => none

/-- Is a transmit group of an up hop between wagons with nothing that may start (R322)? -/
def State.groupIdle (s : State) (h : Hop) : Bool :=
  s.hopState h = 2 && (s.tx h).wire.isNone && (s.pickVc0 h).isNone && (s.tx h).resend.isEmpty && (s.startNew h).isNone

/-! ### Receiving (R312, R315–R321, R325–R329) -/

/-- A wagon that the link layer has accepted, with its arrival number. -/
structure RxWagon where
  hdr : WagonHdr
  body : Bytes
  bytes : Bytes
  id : Nat
  deriving DecidableEq, Repr

/-- Where a VC1 or VC3 wagon on UP_RX goes (R320): extract, relay. -/
def State.route_ (s : State) (w : WagonHdr) : Bool × Bool :=
  if w.dst = 15 && !wT15 w then (true, true)
  else if w.dst = s.tileId then (true, false)
  else
    let later := match s.itin.caravan with
      | some c => (c.chain.drop (s.chainPos + 1)).contains w.dst
      | none => false
    (false, later)

/-- Would a wagon be relayed? -/
def State.relays (s : State) (h : Hop) (w : WagonHdr) : Bool :=
  match h with
  | .up => (w.vc = 1 || w.vc = 3) && (s.route_ w).2
  | .dn => w.vc = 2

/-- A wagon with a CRC error that the relay has begun to forward as its START row came: its copy is nullified (R322, R329). -/
def State.nullify (s : State) (h : Hop) (b : Bytes) : State :=
  let w := parseWagon b
  let o := otherHop h
  if s.relays h w && s.groupIdle o && mayStart (s.tx o) w.vc (b.take (16 + w.length)) then
    let s := s.boundary o
    s.setTx o { s.tx o with wire := some (stampWagon (b.take (16 + w.length)) (s.tx o).next.toNat false true) }
  else s

/-- Does a fragment belong to an open item (R315)? -/
def sameItem (w : WagonHdr) (x : OpenItem) : Bool :=
  x.type == w.type && x.stream == w.stream && x.src == w.src && x.dst == w.dst

/-- The open items without a fragment's. -/
def State.closeItem (s : State) (w : WagonHdr) : State :=
  { s with link := { s.link with rxUp := { s.link.rxUp with opens := s.link.rxUp.opens.filter fun x => !sameItem w x } } }

/-- A row that brings markers on some lanes only: the group's alignment is lost and its hop goes down (R310). -/
def State.deskewLost (s : State) (h : Hop) (r : List Block) : State :=
  let late := (r.zipIdx.filter fun (x : Block × Nat) => !(isControl x.1 && x.1.data.toNat % 256 = 0x4B)).map (·.2)
  (late.foldl (fun (s : State) i => s.laneEvent (rxLane h + i) 4) s).hopDown h

/-- The link layer's handling of a VC0 wagon (R318): its bounds, then its type. -/
def State.rxVc0 (s : State) (h : Hop) (b : Bytes) : State × Option RxWagon :=
  let w := parseWagon b
  let r := s.rx h
  let state := w.type = 0x02
  let soon := if state then r.lastState.any fun t => !s.elapsed t (edgesNs 100)
    else r.lastVc0.any fun t => !s.elapsed t (edgesUs 10)
  let s := s.setRx h (if state then { r with lastState := some s.now } else { r with lastVc0 := some s.now })
  if soon then (s.violation h 3 b, none)
  else (s, some { hdr := w, body := slice b 16 w.length, bytes := b, id := 0 })

/-- The link layer's handling of a sequenced wagon whose CRC is right. -/
def State.rxSequenced (s : State) (h : Hop) (b : Bytes) : State × Option RxWagon :=
  let w := parseWagon b
  let r := s.rx h
  if w.seq != r.expected then
    if seqBefore w.seq r.expected || r.waiting then (s, none) else ((s.violation h 2 b).nak h, none)
  else
    let i := Fin.ofNat 3 (w.vc % 4 - 1)
    let s := s.refreshLimits h
    let r := s.rx h
    let got := r.received.get i + BitVec.ofNat 32 (wagonCharge w.length)
    let beyond := !atOrPast (r.limits.get i) got
    let s := s.setRx h { r with expected := r.expected + 1, waiting := false, received := r.received.set i got }
    if beyond then (s.violation h 3 b, none)
    else
      let id := s.link.arrivals
      (({ s with link := { s.link with arrivals := id + 1 } }),
        some { hdr := w, body := slice b 16 w.length, bytes := b.take (16 + w.length), id })

/-- The link layer's handling of a wagon on an up hop: the accepted wagon, if its type and length are known ones. -/
def State.linkReceive (s : State) (h : Hop) (wg : Wagon) : State × Option RxWagon :=
  let b := wg.bytes
  let w := parseWagon b
  let vc0 := headerOk b && w.vc % 4 = 0
  match wg.between.find? misaligned, wagonCheck h wg with
  | some r, _ => (s.deskewLost h r, none)
  | none, 1 => (s, none)
  | none, 2 =>
    let r := s.rx h
    if headerOk b && !vc0 && r.waiting && w.seq != r.expected then (s, none)
    else
      let s := if headerOk b && !vc0 && w.seq = r.expected then s.nullify h b else s
      let s := s.violation h 1 b
      (if vc0 then s else s.nak h, none)
  | none, _ =>
    let (s, got) := if vc0 then s.rxVc0 h b else s.rxSequenced h b
    match got with
    | none => (s, none)
    | some x =>
      if typeVc h w.type != some w.vc then (s.violation h 4 b, none)
      else if 9216 < w.length then ((if h = .up then s.closeItem w else s).violation h 5 b, none)
      else (s, some x)

/-- May a command that carries a wagon of the given types deliver these bytes: one of them, or a wagon that no other command
carries (a damaged one, one of an unknown type)? -/
def carries (h : Hop) (types : List Nat) (wg : Wagon) : Bool :=
  !headerOk wg.bytes || types.contains (parseWagon wg.bytes).type || (typeVc h (parseWagon wg.bytes).type).isNone

/-- A wagon relayed to the other hop (R321–R323, R325): it starts at once where that group idles, else it waits its turn. -/
def State.relay (s : State) (h : Hop) (x : RxWagon) : State :=
  let o := otherHop h
  if s.hopState o = 0 then s
  else if s.hopState o != 2 then s.relayDrop h
  else
    let idle := s.groupIdle o
    let q : RelayWagon := { id := x.id, bytes := x.bytes }
    let t := s.tx o
    let s := s.setTx o (match x.hdr.vc with
      | 1 => { t with q1 := t.q1 ++ [q] }
      | 2 => { t with q2relay := t.q2relay ++ [q] }
      | _ => { t with q3 := t.q3 ++ [q] })
    let s := s.setRx h { s.rx h with held := Sparse.set (s.rx h).held x.id (x.hdr.vc, wagonCharge x.hdr.length) }
    if idle then ((s.boundary o).startNew o).getD s else s

/-- HELLO (R309): received while the hop comes up; on a hop that is up only its VC0 bound counts. -/
def execHello (t : Nat) (h : Hop) (w : Wagon) (s : State) : Host.Outcome State Fault Refusal :=
  .next <|
    let s := s.advanceTo t
    if !carries h [0x01] w then s
    else if s.hopState h = 2 then (s.linkReceive h w).1
    else if (s.hopState h = 1 || s.hopState h = 3) && (s.hop h).lanesReady then
      let x := parseWagon w.bytes
      match wagonCheck h w with
      | 1 => s
      | 2 => s.violation h 1 w.bytes
      | _ =>
        if typeVc h x.type != some x.vc then s.violation h 4 w.bytes
        else if x.type != 0x01 then s
        else if x.length != 16 then s.violation h 5 w.bytes
        else s.takeHello h (slice w.bytes 16 16)
    else s

/-- LINK_STATE (R318): acks, limits and NAK of the partner. -/
def execLinkState (t : Nat) (h : Hop) (w : Wagon) (s : State) : Host.Outcome State Fault Refusal :=
  .next <|
    let s := s.advanceTo t
    if !carries h [0x02] w || s.hopState h != 2 then s
    else
      match s.linkReceive h w with
      | (s, some x) =>
        if x.hdr.type != 0x02 then s
        else if x.body.length != 24 then s.violation h 5 w.bytes
        else s.takeLinkState h x.body
      | (s, none) => s

/-- RELAY_UP (R321): a VC2 wagon on DN_RX is relayed on UP_TX. -/
def execRelayUp (t : Nat) (w : Wagon) (s : State) : Host.Outcome State Fault Refusal :=
  .next <|
    let s := s.advanceTo t
    if !carries .dn [0x40, 0x41, 0x42, 0x43, 0x44, 0x45, 0x46] w || s.hopState .dn != 2 then s
    else
      match s.linkReceive .dn w with
      | (s, some x) => s.relay .dn x
      | (s, none) => s

/-- COMPLAINT (R316): one from the head on UP_RX is logged under EV102 cause 2 and not relayed. -/
def execComplaintWagon (t : Nat) (w : Wagon) (s : State) : Host.Outcome State Fault Refusal :=
  .next <|
    let s := s.advanceTo t
    if !carries .up [0x44] w || s.hopState .up != 2 then s
    else
      match s.linkReceive .up w with
      | (s, some x) => s.raise 102 2 (2 * 2 ^ 29 + x.hdr.type * 2 ^ 16 + x.hdr.seq.toNat)
      | (s, none) => s

/-! ### Wagon boundaries, and what is sent again and again (R318, R319, R327, R328) -/

/-- WAGON_TX_END (R319): at a wagon boundary the group chooses what it sends next; nothing while its hop is down. -/
def execWagonTxEnd (t : Nat) (h : Hop) (s : State) : Host.Outcome State Fault Refusal :=
  .next <|
    let s := (s.advanceTo t).leave h
    let st := s.hopState h
    if st = 0 || st = 4 then s.setTx h { s.tx h with wire := none }
    else
      let s := s.boundary h
      let t := s.tx h
      match s.pickVc0 h with
      | some (b, rest) =>
        s.setTx h { t with
          q0 := rest, wire := some (stampWagon b 0 false false)
          lastVc0 := if leAt b 0 1 = 2 then t.lastVc0 else some s.now
          lastState := if leAt b 0 1 = 2 then some s.now else t.lastState }
      | none =>
        if st != 2 then s.setTx h { t with wire := none }
        else
          match t.resend with
          | n :: ns =>
            (match t.replay.find? fun x => x.1 = n with
             | some x => s.setTx h { t with resend := ns, corrupt := false, wire := some (stampWagon x.2 n.toNat t.corrupt false) }
             | none => s.setTx h { t with resend := ns, wire := none })
          | [] => (s.startNew h).getD (s.setTx h { t with wire := none })

/-- LINK_STATE_SEND (R318): on an up hop, at most once every 100 ns. -/
def execLinkStateSend (t : Nat) (h : Hop) (s : State) : Host.Outcome State Fault Refusal :=
  .next <|
    let s := s.advanceTo t
    if s.hopState h != 2 || (s.hop h).lastState.any (fun t => !s.elapsed t (edgesNs 100)) then s else s.queueLinkState h false

/-- NAK_REPEAT (R327): every 4 µs while a receiver waits. -/
def execNakRepeat (t : Nat) (h : Hop) (s : State) : Host.Outcome State Fault Refusal :=
  .next <|
    let s := s.advanceTo t
    if s.hopState h != 2 || !(s.rx h).waiting || !s.elapsed (s.rx h).lastNak (edgesUs 4) then s else s.nak h

/-- REPLAY_TIMEOUT (R328): no ack progress for 50 µs; four in a row take the hop down. -/
def execReplayTimeout (t : Nat) (h : Hop) (s : State) : Host.Outcome State Fault Refusal :=
  .next <|
    let s := s.advanceTo t
    let t := s.tx h
    if s.hopState h != 2 || t.replay.isEmpty || !s.elapsed t.ackAt (edgesUs 50) then s
    else
      let s := (s.setTx h { t with timeouts := t.timeouts + 1, ackAt := s.now }).startReplay h 1
      if 4 ≤ t.timeouts + 1 then (s.setTx h { s.tx h with timeouts := 0 }).hopDown h else s

/-! ### Lanes and bring-up (R299–R301, R306–R310) -/

/-- FOM_MIN (R300). -/
def State.fomMin (s : State) : Nat := (s.itin.lanes.map (·.fomMin)).getD 64

/-- PRBS test runs on some lane of a hop. -/
def State.prbsTest (s : State) (h : Hop) : Bool := (hopLanes h).any fun n => s.fld (LPH_PRBS_mode n) != 0

/-- Does a lane get block lock (R306)? -/
def laneLocks (l : LaneTrain) : Bool := l.cdr && decide (l.slips ≤ 66)

/-- What deskew finds on lane i of a receive group (R307): cause 4 or 5, 0 if none. The lane index of a marker is its byte 1; a
block that is no marker of the group's direction is none. -/
def deskewFailure (up : Bool) (i : Nat) (l : LaneTrain) : Nat :=
  match l.marker with
  | none => 4
  | some b =>
    let n := b.data.toNat / 256 % 256
    if 8 ≤ n || b != markerBlock up n || 40 < l.skewNs then 4 else if n != i then 5 else 0

/-- How a lane fails in a bring-up, 0 if it does not: block lock, then, once every lane of its group has that, deskew. -/
def laneFailure (up : Bool) (res : List LaneTrain) (i : Nat) : Nat :=
  if !laneLocks (res.getD i default) then 3
  else if (List.range 8).all fun k => laneLocks (res.getD k default) then deskewFailure up i (res.getD i default)
  else 0

/-- One receive lane's registers after an attempt, and its event if it failed. -/
def State.trainLane (s : State) (n bad : Nat) (l : LaneTrain) : State :=
  let s := (s.setFld (LPH_STAT_fom n) l.fom.toNat).setFld (LPH_STAT_ctle n) l.ctle.toNat
  let s := (s.setFld (LPH_STAT_signal n) (b2n l.cdr)).setFld (LPH_STAT_cdr_lock n) (b2n l.cdr)
  let s := (s.setFld (LPH_STAT_block_lock n) (b2n (bad != 3))).setFld (LPH_SLIP_slips n) (min l.slips 67)
  if bad = 0 then s else s.laneEvent n bad

/-- One attempt at steps 1 to 2 of a bring-up on the receive lanes of a hop; it fails while PRBS test runs. -/
def State.trainHop (s : State) (h : Hop) (res : List LaneTrain) : State × Bool :=
  if s.prbsTest h then (s, false)
  else
    let lanes := (rxLanes h).zipIdx
    let bad := laneFailure (upbound h false) res
    let s := lanes.foldl (fun (s : State) (n, i) => s.trainLane n (bad i) (res.getD i default)) (s.startRows h)
    let ok := lanes.all fun (_, i) => bad i = 0 && laneLocks (res.getD i default)
    (lanes.foldl (fun (s : State) (n, _) => s.setFld (LPH_STAT_deskewed n) (b2n ok)) s, ok)

/-- A cold attempt (R308, R310): the link layer will start anew; a failed one is tried again every second. -/
def State.coldAttempt (s : State) (h : Hop) (res : List LaneTrain) : State :=
  let began := (s.hop h).began
  let s := if began then s.incFld (LNK_RETRAINS_cold (hopIx h)) 1 else s
  let (s, ok) := s.trainHop h res
  let s := s.setHop h { began := true, lanesReady := ok, since := s.now }
  s.setHopState h (if ok then 1 else 4)

/-- Has step 2 of a hop's bring-up begun (R308)? That is 1 ms after every receive lane has reached FOM_MIN, or after 50 ms. -/
def State.inStep2 (s : State) (h : Hop) : Bool :=
  let x := s.hop h
  let st := s.hopState h
  st = 2 || st = 3 || (st = 1 && (x.lanesReady || s.elapsed x.since (edgesMs 50) || x.fomAt.any fun e => s.elapsed e (edgesMs 1)))

/-- What a transmit lane sends. -/
inductive LaneSend where
  | electricalIdle
  | prbs (mode : Nat)
  | rows
  deriving DecidableEq, Repr

/-- What a transmit lane sends (R294, R297, R301, R308): a PRBS in a test and in step 1 of a bring-up, rows from step 2 on. Between
the attempts of R310 it goes on with rows (assumption log 210). -/
def State.laneSends (s : State) (lane : Nat) : LaneSend :=
  let h := laneHop lane
  if s.hopState h = 0 || s.link.stopped || s.fld LNK_STAT_refclk_ok = 0 then .electricalIdle
  else if s.fld (LPH_PRBS_mode lane) != 0 then .prbs (s.fld (LPH_PRBS_mode lane))
  else if s.hopState h = 1 && !s.inStep2 h then .prbs 3
  else .rows

/-- HOP_BRING_UP (R308): the cold bring-up of a used hop, whose block lock and deskew follow in step 2. -/
def execHopBringUp (t : Nat) (h : Hop) (res : List LaneTrain) (s : State) : Host.Outcome State Fault Refusal :=
  .next <|
    let s := s.advanceTo t
    if s.hopState h != 1 || (s.hop h).lanesReady || !s.inStep2 h || s.fld LNK_STAT_refclk_ok = 0 || s.link.stopped then s
    else s.coldAttempt h res

/-- COLD_BRING_UP_RETRY (R310): one every second until the hop comes up. -/
def execColdBringUpRetry (t : Nat) (h : Hop) (res : List LaneTrain) (s : State) : Host.Outcome State Fault Refusal :=
  .next <|
    let s := s.advanceTo t
    let st := s.hopState h
    if !(st = 1 || st = 4) || !s.elapsed (s.hop h).since (edgesS 1) || s.fld LNK_STAT_refclk_ok = 0 || s.link.stopped then s
    else s.coldAttempt h res

/-- WARM_RETRAIN (R310): an attempt of at most 2 ms, up to 3; then cold bring-ups. -/
def execWarmRetrain (t : Nat) (h : Hop) (res : List LaneTrain) (s : State) : Host.Outcome State Fault Refusal :=
  .next <|
    let s := s.advanceTo t
    let x := s.hop h
    if s.hopState h != 3 || (x.lanesReady && !s.elapsed x.since (edgesMs 2)) then s
    else if 3 ≤ x.tries then (s.setHopState h 4).setHop h { began := true, since := s.now }
    else
      let s := s.incFld (LNK_RETRAINS_warm (hopIx h)) 1
      let (s, ok) := s.trainHop h res
      let s := s.setHop h { x with
        tries := x.tries + 1, lanesReady := ok, since := s.now, peerSeen := false, sentSeen := false, gotSeen := none }
      if !ok && 3 ≤ x.tries + 1 then (s.setHopState h 4).setHop h { began := true, since := s.now } else s

/-- LANE_FOM_UPDATE (R299, R300): cause 1 after 8 consecutive low updates, again only after FOM_MIN + 16. -/
def execLaneFomUpdate (t : Nat) (lane : Lane) (fom : Byte) (ctle : BitVec 4) (s : State) :
    Host.Outcome State Fault Refusal :=
  .next <|
    let s := s.advanceTo t
    if !isRxLane lane.val || s.hopState (laneHop lane.val) = 0 then s
    else
      let s := (s.setFld (LPH_STAT_fom lane.val) fom.toNat).setFld (LPH_STAT_ctle lane.val) ctle.toNat
      let l := s.link.lanes.get lane
      let low := if fom.toNat < s.fomMin then l.low + 1 else 0
      let armed := l.armed || s.fomMin + 16 ≤ fom.toNat
      let hit := armed && 8 ≤ low
      let l' : LaneSt := { l with low := min low 8, armed := armed && !hit }
      let s := { s with link := { s.link with lanes := s.link.lanes.set lane l' } }
      let h := laneHop lane.val
      let open_ := (rxLanes h).all fun n => s.fomMin ≤ s.fld (LPH_STAT_fom n)
      let s := if s.hopState h = 1 && (s.hop h).fomAt.isNone && open_ then s.setHop h { s.hop h with fomAt := some s.now } else s
      if hit then s.laneEvent lane.val 1 else s

/-- A receive lane loses lock: its hop goes down, or its bring-up starts over. -/
def State.laneLost (s : State) (n cause : Nat) : State :=
  let h := laneHop n
  if !isRxLane n || s.fld (LPH_STAT_block_lock n) = 0 then s
  else
    let s := s.setFld (LPH_STAT_block_lock n) 0
    let s := if cause = 2 then s.setFld (LPH_STAT_cdr_lock n) 0 else s
    let s := s.laneEvent n cause
    if s.hopState h = 2 then s.hopDown h else s.setHop h { s.hop h with lanesReady := false }

/-- BLOCK_LOCK_LOSS (R306): 16 of 64 sync headers invalid. -/
def execBlockLockLoss (t : Nat) (lane : Lane) (s : State) : Host.Outcome State Fault Refusal :=
  .next ((s.advanceTo t).laneLost lane.val 3)

/-- CDR_LOCK_LOSS (R310). -/
def execCdrLockLoss (t : Nat) (lane : Lane) (s : State) : Host.Outcome State Fault Refusal :=
  .next ((s.advanceTo t).laneLost lane.val 2)

/-- PRBS_ERROR_SECOND (R301): the errors that a checker counted in one second. -/
def execPrbsErrorSecond (t : Nat) (lane : Lane) (n : Nat) (s : State) : Host.Outcome State Fault Refusal :=
  .next <|
    let s := s.advanceTo t
    if !isRxLane lane.val || s.fld (LPH_PRBS_mode lane.val) = 0 || n = 0 then s
    else (s.incFld (LPH_PRBS_ERR_count lane.val) n).laneEvent lane.val 6

/-! ### What register writes do here (LNK_INJECT, LPH_PRBS, LPH_SLIP) -/

/-- crc_up, crc_dn: the next sequenced wagon of a transmit group goes with a corrupted CRC-32C. -/
def State.injectCrc (s : State) (h : Hop) : State := s.setTx h { s.tx h with corrupt := true }

/-- inject_one: a generator (a transmit lane) inverts one bit. -/
def State.injectBit (s : State) (lane : Lane) : State :=
  if isRxLane lane.val then s
  else
    let l := s.link.lanes.get lane
    let l := { l with inverted := l.inverted ++ [s.unitsIn (s.now - l.prbsAt)] }
    { s with link := { s.link with lanes := s.link.lanes.set lane l } }

/-- slip: the block boundary of a receive lane moves by 1 UI; a locked lane loses lock. -/
def State.slipLane (s : State) (lane : Lane) : State :=
  if !isRxLane lane.val then s
  else if s.fld (LPH_STAT_block_lock lane.val) = 1 then s.laneLost lane.val 3
  else s.incFld (LPH_SLIP_slips lane.val) 1

/-- A mode written to LPH_PRBS: a non-zero one starts the test, restarts the error count and takes an up hop down. -/
def State.startPrbs (s : State) (lane : Lane) (mode : Nat) : State :=
  if mode = 0 then s
  else
    let l : LaneSt := { s.link.lanes.get lane with prbsAt := s.now, inverted := [] }
    let s := { s with link := { s.link with lanes := s.link.lanes.set lane l } }
    (s.setFld (LPH_PRBS_ERR_count lane.val) 0).hopDown (laneHop lane.val)

end Sys2Proof.Machine
end

