-- ==== Sys2Proof/Machine/Intake.lean ====
section
/-!
DEFINITION. Caravan intake (R205–R207, R210, R315, R320, R324, R330, R333): reassembly, the LEG pool, legs, flip markers,
overlay lists and stock.
-/
namespace Sys2Proof.Machine

/-! ### The LEG pool (R205, R207) -/

def State.poolRooms (s : State) : Nat := s.spaceRooms spLEG

/-- Bytes set aside for an item of n bytes: 64-byte alignment. -/
def poolSize (n : Nat) : Nat := max 64 (ceilDiv n 64 * 64)

/-- The first free room of the pool from the cursor on, in circular order. -/
def State.freeRoom (s : State) : Option Nat :=
  ((List.range s.poolRooms).map fun i => (s.rooms.cursor + i) % s.poolRooms).find? fun k =>
    !(Sparse.get? s.rooms.legTags k).isSome

/-- Where the next item of an output and serial begins, counted from byte 0 of the pool on: behind the item before, or, where
that one ends with its room, in the first free room; none while no room is free (R207). -/
def State.nextPlace (s : State) (o : Output) (serial : Word) : Option Nat :=
  match s.rooms.fills.find? fun (f : LegFill) => f.out = o && f.serial = serial && f.used % roomBytes != 0 &&
    decide (f.used / roomBytes < s.poolRooms) with
  | some f => some (f.room * roomBytes + f.used)
  | none => s.freeRoom.map (· * roomBytes)

/-- The numbers, from an item's first room on, of the rooms that n further bytes of it are the first to lie in. -/
def newRooms (x : LegItem) (n : Nat) : List Nat :=
  let upTo (n : Nat) : Nat := if n = 0 then 0 else (x.offset % roomBytes + n - 1) / roomBytes + 1
  (List.range (upTo (x.got + n))).drop (upTo x.got)

/-- Do stored bytes of an item lie in a room of the pool? -/
def State.liesIn (s : State) (y : LegItem) (room : Nat) : Bool :=
  !y.stock && (newRooms { y with got := 0 } y.got).any fun i => (y.offset / roomBytes + i) % s.poolRooms = room

/-- May an item go on into its room number i (R205)? The room is free; or it is the item's first one, shared with the item before;
or its last one, in which only items behind it lie. -/
def State.mayFill (s : State) (x : LegItem) (i : Nat) : Bool :=
  let k := (x.offset / roomBytes + i) % s.poolRooms
  let last := (x.offset % roomBytes + x.size - 1) / roomBytes
  decide (i < s.poolRooms) && (match Sparse.get? s.rooms.legTags k with
    | none => true
    | some tag => tag == (x.out, x.serial) &&
        (i = 0 || (x.size != 0 && i = last &&
          !s.rooms.items.any fun (y : LegItem) => decide (y.order < x.order) && s.liesIn y k)))

/-- Rooms of the pool tagged with an output and serial; no TLB keeps what they held before (R202). -/
def State.tagRooms (s : State) (o : Output) (serial : Word) (rooms : List Nat) : State :=
  let tags := rooms.foldl (fun (m : Sparse (Output × Word)) k => Sparse.set m k (o, serial)) s.rooms.legTags
  let cursor := match rooms.getLast? with
    | some k => (k + 1) % max 1 s.poolRooms
    | none => s.rooms.cursor
  let s := (s.tlbDrop (rooms.map (s.vrn spLEG)))
  ({ s with rooms := { s.rooms with legTags := tags, cursor } }).setFld INK_LEG_free (s.poolRooms - tags.length)

/-- Bytes written into the pool from an offset on, in circular order. -/
def State.poolWrite (s : State) (off : Nat) (bs : Bytes) : State :=
  let size := s.poolBytes
  let a := off % max 1 size
  let first := bs.take (size - a)
  (s.spaceWrite spLEG a first).spaceWrite spLEG 0 (bs.drop (size - a))

/-- What becomes of an own wagon: written to its rooms; held while the pool has no room for it (R207); held while its writes
wait for tokens or for the channel (R192, R226). -/
inductive Stored where
  | ok (s : State)
  | full (s : State)
  | waits (s : State)

/-- The next bytes of an item written to the pool; `then_` says what follows. The item itself is not yet changed. -/
def State.storeBytes (s : State) (x : LegItem) (bs : Bytes) (then_ : State → State) : Stored :=
  let news := newRooms x bs.length
  if !(news.all (s.mayFill x)) then .full s
  else
    let tagged := if news.isEmpty then s
      else s.tagRooms x.out x.serial (news.map fun i => (x.offset / roomBytes + i) % s.poolRooms)
    match tagged.transact rqIntake (s.itemXacts x x.got bs.length true) with
    | (.wait, w) =>
      .waits (({ w with rooms := s.rooms }).setFld INK_LEG_free (s.fld INK_LEG_free))
    | (.done, s) => .ok (then_ (s.poolWrite (x.offset + x.got) bs))
    | (_, s) => .ok (then_ s)

/-- An output and serial's next item begins behind n bytes from `off` on (R205). -/
def State.fillTo (s : State) (o : Output) (serial : Word) (off n : Nat) : State :=
  let mine (f : LegFill) : Bool := f.out = o && f.serial = serial
  let room := off / roomBytes
  let old := s.rooms.fills.find? mine
  let first := match old with
    | some f => if f.room * roomBytes + f.used = off then f.room else room
    | none => room
  { s with rooms := { s.rooms with
      fills := { out := o, serial, room := first, used := off + n - first * roomBytes } ::
        s.rooms.fills.filter fun (f : LegFill) => !mine f } }

/-- Nothing may be packed behind what an output and serial have stored: an item of unknown length is open there. -/
def State.fillEnds (s : State) (o : Output) (serial : Word) : State :=
  { s with rooms := { s.rooms with fills := s.rooms.fills.filter fun (f : LegFill) => !(f.out = o && f.serial = serial) } }

/-- An item with an arrival number, stored. -/
def State.addItem (s : State) (x : LegItem) : State :=
  { s with rooms := { s.rooms with items := s.rooms.items ++ [x], arrivals := s.rooms.arrivals + 1 } }

def State.updItem (s : State) (n : Nat) (f : LegItem → LegItem) : State :=
  { s with rooms := { s.rooms with items := s.rooms.items.map fun x => if x.order = n then f x else x } }

/-- Is a serial at or below the last decided one of an output? Such items are not stored. -/
def State.decidedBy (s : State) (o : Output) (serial : Word) : Bool :=
  (s.out o).cycle.decided.any fun d => atOrBelow d serial

/-! ### Reassembly (R315) -/

/-- The open item that a fragment belongs to, if it is in place; the flag says whether it is. -/
def State.fragment (s : State) (w : WagonHdr) (body : Bytes) : Bool × Option OpenItem :=
  match s.link.rxUp.opens.find? (sameItem w) with
  | some x => (!wFirst w && decide (w.offset = x.got), some x)
  | none => (wFirst w && decide (w.offset = 0) && (w.type != 0x20 || decide (64 ≤ body.length)), none)

/-- A fragment taken: the item stays open until its last one. -/
def State.keepItem (s : State) (w : WagonHdr) (x : OpenItem) : State :=
  let s := s.closeItem w
  if wLast w then s
  else { s with link := { s.link with rxUp := { s.link.rxUp with opens := s.link.rxUp.opens ++ [x] } } }

/-- A fragment out of place or of a bad length: the wagon and its open item are discarded. -/
def State.badLength (s : State) (x : RxWagon) : State := (s.closeItem x.hdr).violation .up 5 x.bytes

/-! ### Legs (R183, R190, R205) -/

/-- A leg whose header has arrived: a leg of the frame; in class B if its serial is the decode serial, LATE after the cutoff. -/
def State.legArrives (s : State) (o : Output) (k : Nat) (h : LegHeader) : State :=
  let c := (s.out o).cycle
  let mine := c.decode = some h.serial
  let late := mine && s.pastB o
  let s := s.updCycle o fun c => { c with legs := c.legs ++
    [{ item := k, legId := h.legId, chain := h.chain, serial := h.serial, outcome := if late then some 3 else none
       done := false, order := k, stamp := s.timeNs, ended := s.timeNs }] }
  if late then s
  else if mine then s.readyB o k
  else if s.playing o then s
  else s.arrived o h.serial

/-- A LEG fragment. -/
def State.takeLegFragment (s : State) (x : RxWagon) : Stored :=
  match s.fragment x.hdr x.body with
  | (false, _) => .ok (s.badLength x)
  | (true, none) =>
    let h := parseLegHeader x.body
    let o : Output := Fin.ofNat 4 h.output
    let stray (s : State) : State := if s.fld CDC_CFG_chains ≤ h.chain then s.violation .up 8 x.bytes else s
    let entry (item : Option Nat) : OpenItem :=
      { type := x.hdr.type, stream := x.hdr.stream, src := x.hdr.src, dst := x.hdr.dst, got := x.body.length, bytes := [], item }
    if s.decidedBy o h.serial then .ok ((stray s).keepItem x.hdr (entry none))
    else
      match s.nextPlace o h.serial with
      | none => .full s
      | some off =>
        let k := s.rooms.arrivals
        let part := x.body.take (64 + h.compressed)
        let y : LegItem :=
          { kind := 0, out := o, serial := h.serial, stream := h.chain, offset := off, got := 0, complete := wLast x.hdr, order := k
            size := poolSize (64 + h.compressed) }
        s.storeBytes y part fun s =>
          (((stray s).addItem { y with got := part.length }).fillTo o h.serial off y.size |>.keepItem x.hdr (entry (some k))).legArrives
            o k h
  | (true, some it) =>
    let open_ := it.item.bind s.item?
    let s' := s.keepItem x.hdr { it with got := it.got + x.body.length }
    match open_ with
    | none => .ok s'
    | some y =>
      let part := x.body.take (64 + leAt (s.itemBytes y 0x28 4) 0 4 - it.got)
      match s'.storeBytes y part fun s =>
        s.updItem y.order fun z => { z with got := z.got + part.length, complete := wLast x.hdr } with
      | .full _ => .full s
      | .waits w => .waits { w with link := s.link }
      | r => r

/-! ### Flip markers (R330) -/

/-- The content of an item so far, with a fragment added. -/
def joined (it : Option OpenItem) (body : Bytes) : Bytes := ((it.map (·.bytes)).getD []) ++ body

/-- The entry of an item that collects its bytes. -/
def collecting (x : RxWagon) (bs : Bytes) : OpenItem :=
  { type := x.hdr.type, stream := x.hdr.stream, src := x.hdr.src, dst := x.hdr.dst, got := bs.length, bytes := bs, item := none }

/-- A fragment of an item that no room takes: what the item does once whole. -/
def State.collect (s : State) (x : RxWagon) (act : State → RxWagon → Bytes → State) : State :=
  match s.fragment x.hdr x.body with
  | (false, _) => s.badLength x
  | (true, it) =>
    let bs := joined it x.body
    let s := s.keepItem x.hdr (collecting x bs)
    if wLast x.hdr then act s x bs else s

/-- Does a FLIP item keep R330? -/
def flipOk (b : Bytes) : Bool :=
  let n := leAt b 2 2
  8 ≤ b.length && decide (leAt b 0 1 ≤ 3) && decide (1 ≤ n) && decide (n ≤ 4096) && b.length == 8 + 8 * n

/-- The output and serial of a FLIP or OVERLAY item, once its header has come and names an output. -/
def headOf (type stream : Nat) (b : Bytes) : Option (Output × Word) :=
  if type = 0x21 then
    if 8 ≤ b.length && leAt b 0 1 ≤ 3 then some (Fin.ofNat 4 (leAt b 0 1), BitVec.ofNat 32 (leAt b 4 4)) else none
  else if 16 ≤ b.length then some (Fin.ofNat 4 stream, BitVec.ofNat 32 (leAt b 8 4))
  else none

/-- Bytes that a FLIP item takes in the pool by its header; 0 for an overlay list, whose length its last wagon tells. -/
def headSize (type : Nat) (b : Bytes) : Nat := if type = 0x21 then poolSize (8 + 8 * leAt b 2 2) else 0

/-- A marker with the serial has come for the output (R330). -/
def State.flipSeen (s : State) (o : Output) (serial : Word) : Bool :=
  (s.out o).cycle.flips.contains serial || (s.out o).cycle.markers.any fun m => m.serial = serial

/-- A whole FLIP item (R330); `item` is its number in the pool, none where it is not stored. -/
def State.takeFlip (s : State) (x : RxWagon) (b : Bytes) (item : Option Nat) : State :=
  let drop (s : State) : State := { s with rooms := { s.rooms with items := s.rooms.items.filter fun y => some y.order != item } }
  if !flipOk b then (drop s).violation .up 5 x.bytes
  else
    let o : Output := Fin.ofNat 4 (leAt b 0 1)
    let serial := BitVec.ofNat 32 (leAt b 4 4)
    if s.flipSeen o serial then (drop s).violation .up 9 x.bytes
    else
      let s := s.updCycle o fun c => { c with flips := c.flips ++ [serial] }
      if item.isNone then s
      else
        let legs := (List.range (leAt b 2 2)).map fun i => (BitVec.ofNat 32 (leAt b (8 + 8 * i) 4), leAt b (12 + 8 * i) 2)
        let s := s.updCycle o fun c => { c with markers := c.markers ++ [{ serial, legs, stamp := s.timeNs }] }
        let s := s.updPlay o fun p => { p with liveMarker := true }
        if s.playing o then s else s.arrived o serial

/-- A whole OVERLAY item (R190, R398), stored: a list of the decode serial is ready for class D. -/
def State.takeOverlay (s : State) (x : RxWagon) (b : Bytes) (item : Option Nat) : State :=
  let o : Output := Fin.ofNat 4 x.hdr.stream
  let serial := BitVec.ofNat 32 (leAt b 8 4)
  match item with
  | none => s
  | some k =>
    -- what comes next is packed behind it
    let s := match s.item? k with
      | some y =>
        if s.rooms.fills.any fun (f : LegFill) => f.out = o && f.serial = serial then s
        else s.fillTo o serial y.offset (poolSize y.got)
      | none => s
    -- a list of the ending frame that comes after the cutoff has not completed (R81)
    if (s.out o).cycle.decode != some serial then s
    else if s.pastCD o then s.markPlane o (leAt b 4 1 % 4) false
    else s.readyD (.list o k)

/-- A fragment of an item whose content is looked at when it is whole. Its bytes go to the pool as they come, from the wagon on
that completes its header. -/
def State.takeCollected (s : State) (x : RxWagon) (act : State → RxWagon → Bytes → Option Nat → State) : Stored :=
  match s.fragment x.hdr x.body with
  | (false, _) => .ok (s.badLength x)
  | (true, it) =>
    let type := x.hdr.type
    let bs := joined it x.body
    let finish (item : Option Nat) (s : State) : State :=
      let s := s.keepItem x.hdr { collecting x bs with item }
      if wLast x.hdr then act s x bs item else s
    match it.bind (·.item), headOf type x.hdr.stream bs with
    | some k, _ =>
      match s.item? k with
      | none => .ok (finish none s)
      | some y =>
        s.storeBytes y x.body fun s =>
          finish (some k) (s.updItem k fun z => { z with got := z.got + x.body.length, complete := wLast x.hdr })
    | none, none => .ok (finish none s)
    | none, some (o, serial) =>
      if s.decidedBy o serial || (type = 0x21 && s.flipSeen o serial) then .ok (finish none s)
      else
        match s.nextPlace o serial with
        | none => .full s
        | some off =>
          let k := s.rooms.arrivals
          let y : LegItem :=
            { kind := if type = 0x21 then 2 else 1, out := o, serial, stream := x.hdr.stream, offset := off, got := 0
              complete := wLast x.hdr, order := k, size := headSize type bs }
          s.storeBytes y bs fun s =>
            let s := s.addItem { y with got := bs.length }
            finish (some k) (if y.size = 0 then s.fillEnds o serial else s.fillTo o serial off y.size)

/-! ### Stock (R210, R333) -/

/-- Stock indices that STOCK_MAP declares (R200, R210): at most 65,536, or the rooms that are left. -/
def State.stockDeclared (s : State) : Nat :=
  match s.itin.stock with
  | none => 0
  | some r => if r.rooms = 0xFFFFFFFF then s.spaceRooms spSTOCK else min 65536 r.rooms

/-- A STOCK wagon: class D writes (R192). -/
def State.takeStock (s : State) (x : RxWagon) : Stored :=
  let index := leAt x.body 0 2
  let off := leAt x.body 4 4
  let data := x.body.drop 8
  if x.body.length < 8 || off % 64 != 0 || data.length % 64 != 0 || data.length < 64 || 9152 < data.length ||
      1048576 < off + data.length then .ok (s.violation .up 5 x.bytes)
  else if s.stockDeclared ≤ index then .ok (s.raiseOpen 247 index)
  else
    match s.transact rqIntake [{ sp := spSTOCK, off := stockAddr index off, n := data.length, write := true }] with
    | (.done, s) => .ok (s.spaceWrite spSTOCK (stockAddr index off) data)
    | (.wait, s) => .waits s
    | (_, s) => .ok s

/-! ### Extraction (R320, R324) -/

/-- An own wagon on its way to its rooms. -/
def State.store (s : State) (x : RxWagon) : Stored :=
  match x.hdr.type with
  | 0x20 => s.takeLegFragment x
  | 0x21 => s.takeCollected x State.takeFlip
  | 0x22 => s.takeCollected x State.takeOverlay
  | 0x60 => s.takeStock x
  | _ => .ok s

/-- An own wagon waits in its buffer. -/
def State.holdOwn (s : State) (x : RxWagon) : State :=
  let s := { s with rooms := { s.rooms with heldOwn := s.rooms.heldOwn ++ [HeldWagon.mk x.id x.bytes] } }
  let r : RxGroup := s.link.rxUp
  s.setRx .up { r with held := Sparse.set r.held x.id (x.hdr.vc, wagonCharge x.hdr.length) }

/-- The output whose wagon stalls intake. -/
def stallOutput (x : RxWagon) : Nat := if x.hdr.type = 0x20 then leAt x.body 0x0A 1 % 4 else x.hdr.stream % 4

/-- EV240, once per tick while intake stalls (R207). -/
def State.noteStall (s : State) (x : RxWagon) : State :=
  if s.rooms.stallRaised then s
  else ({ s with rooms := { s.rooms with stallRaised := true } }).raiseOpen 240 (stallOutput x * 2 ^ 30)

/-- A held wagon's VC. -/
def heldVc (w : HeldWagon) : Nat := (parseWagon w.bytes).vc

/-- A held wagon as the link layer accepted it. -/
def heldWagon (w : HeldWagon) : RxWagon :=
  { hdr := parseWagon w.bytes, body := w.bytes.drop 16, bytes := w.bytes, id := w.id }

/-- The oldest held wagon of a VC. -/
def State.oldestHeld (s : State) (vc : Nat) : Option HeldWagon := s.rooms.heldOwn.find? fun w => heldVc w = vc

/-- An own wagon on UP_RX (R207, R324). Behind a held wagon of its VC it waits too. -/
def State.extract (s : State) (x : RxWagon) : State :=
  if s.noStore then
    if shareUnits x.hdr.vc < s.ownUnits x.hdr.vc + wagonCharge x.hdr.length then
      (s.incFld (LNK_RELAY_DROP_count 0) 1).raise 110 2 2
    else s.holdOwn x
  else
    match s.oldestHeld x.hdr.vc with
    | some w =>
      match s.store (heldWagon w) with
      | .full _ => (s.noteStall (heldWagon w)).holdOwn x
      | _ => s.holdOwn x
    | none =>
      match s.store x with
      | .ok s => s
      | .full s => (s.noteStall x).holdOwn x
      | .waits s => s.holdOwn x

/-- A VC1 or VC3 wagon accepted on UP_RX, by its destination (R320). -/
def State.deliver (s : State) (x : RxWagon) : State :=
  match s.route_ x.hdr with
  | (false, false) => s.violation .up 7 x.bytes
  | (own, rel) =>
    let s := if rel then s.relay .up x else s
    if own then s.extract x else s

/-- What every command with a VC1 or VC3 wagon does. -/
def State.takeScene (s : State) (types : List Nat) (w : Wagon) : State :=
  if !carries .up types w || s.hopState .up != 2 then s
  else
    match s.linkReceive .up w with
    | (s, some x) => s.deliver x
    | (s, none) => s

/-- LEG (R320). -/
def execLegWagon (t : Nat) (w : Wagon) (s : State) : Host.Outcome State Fault Refusal :=
  .next ((s.advanceTo t).takeScene [0x20] w)

/-- FLIP (R330). -/
def execFlipWagon (t : Nat) (w : Wagon) (s : State) : Host.Outcome State Fault Refusal :=
  .next ((s.advanceTo t).takeScene [0x21] w)

/-- OVERLAY (R398). -/
def execOverlayWagon (t : Nat) (w : Wagon) (s : State) : Host.Outcome State Fault Refusal :=
  .next ((s.advanceTo t).takeScene [0x22] w)

/-- STOCK (R333). -/
def execStockWagon (t : Nat) (w : Wagon) (s : State) : Host.Outcome State Fault Refusal :=
  .next ((s.advanceTo t).takeScene [0x60] w)

/-! ### LEG_INTAKE_STALL_RESUME (R207) -/

/-- Held wagons of a VC stored in order until one must wait again. -/
def State.resumeHeld : List HeldWagon → State → State
  | [], s => s
  | w :: ws, s =>
    match s.store (heldWagon w) with
    | .full s => s.noteStall (heldWagon w)
    | .waits s => s
    | .ok s =>
      let s := { s with rooms := { s.rooms with heldOwn := s.rooms.heldOwn.filter fun x => x.id != w.id } }
      State.resumeHeld ws (s.dropSpace .up w.id)

/-- LEG_INTAKE_STALL_RESUME (R207): a LEG room has been freed, or what a held wagon waited for has come. -/
def execLegIntakeStallResume (t : Nat) (s : State) : Host.Outcome State Fault Refusal :=
  .next <|
    let s := s.advanceTo t
    if s.noStore then s
    else
      let held (s : State) (vc : Nat) : List HeldWagon := s.rooms.heldOwn.filter fun w => heldVc w = vc
      let s := State.resumeHeld (held s 1) s
      State.resumeHeld (held s 3) s

end Sys2Proof.Machine
end

