-- ==== Sys2Proof/Machine/Beacon.lean ====
section
/-!
DEFINITION. The time clock's source, the time beacons and the servo (R297, R340–R356). Timestamps that the tile takes are in
2⁻¹⁶ ns of TIME_NS, the unit of correctionField.
-/
namespace Sys2Proof.Machine

/-! ### Small values -/

/-- x / d as an integer where the manual gives no rounding: one of its two neighbours, by a free value. -/
def State.roundFree (s : State) (x : Int) (d : Nat) : Int × State :=
  if x % (d : Int) = 0 then (x / (d : Int), s)
  else
    let (v, s) := s.take
    (x / (d : Int) + (b2n (v.getLsbD 0) : Nat), s)

/-- A signed value that saturates at 32 bits. -/
def sat32 (x : Int) : Int := max (-2147483648) (min x 2147483647)

/-- TIME_NS in 2⁻¹⁶ ns. -/
def State.timeFine (s : State) : Nat := s.clock.ns.toNat / 2 ^ 16

/-! ### TIME_INC (R341, R342) -/

/-- 1.99 and 2.01 ns: the outermost values of 32.32 within them. -/
def incMin : Nat := 8546984920
def incMax : Nat := 8632884264

/-- TIME_INC set within its limits; EV118 as it comes to a limit. -/
def State.setInc (s : State) (v : Nat) : State :=
  let w := max incMin (min v incMax)
  let was := s.clock.inc.toNat
  let s := { s with clock := { s.clock with inc := BitVec.ofNat 64 w } }
  if v < incMin && was != incMin then s.raiseOpen 118 0
  else if incMax < v && was != incMax then s.raiseOpen 118 1
  else s

/-- The bit that tells the source of the time clock. -/
def State.onXtal (s : State) : Nat := s.fld TIM_STAT_xtal

/-- HOLDOVER is entered (R354). -/
def State.enterHoldover (s : State) : State :=
  if s.fld TIM_STAT_state = 3 then s else (s.setFld TIM_STAT_state 3).raise 113 1 (2 ^ 24 + s.onXtal)

/-- What a REFCLK loss does to the link; a lane rail's loss does the same (R297, R429). -/
def State.loseLanes (s : State) : State := ((s.stopLanes).raiseOpen 109 1).enterHoldover

/-- REFCLK_LOSS (R297, R342): `ratio` is REFCLK / XTAL over the last 1 ms, with 32 fraction bits. -/
def execRefclkLoss (t : Nat) (ratio : Nat) (s : State) : Host.Outcome State Fault Refusal :=
  .next <|
    let s := s.advanceTo t
    if s.onXtal = 1 then s
    else
      let s := ((s.stopLanes).setFld LNK_STAT_refclk_ok 0).raiseOpen 109 1
      let s := (s.setFld TIM_STAT_xtal 1).raiseOpen 117 1
      let s := s.setInc (s.clock.inc.toNat * ratio / 2 ^ 32)
      ({ s with clock := { s.clock with ratio } }).enterHoldover

/-- A used hop goes to its cold bring-up (R297, R429). -/
def State.restartHop (s : State) (h : Hop) : State :=
  if s.hopState h = 0 then s else (s.setHopState h 1).setHop h { began := (s.hop h).began, since := s.now }

/-- REFCLK_RESTORE (R297, R342): REFCLK has been back in its window for 1 ms. -/
def execRefclkRestore (t : Nat) (s : State) : Host.Outcome State Fault Refusal :=
  .next <|
    let s := s.advanceTo t
    if s.onXtal = 0 then s
    else
      let s := ((s.setFld LNK_STAT_refclk_ok 1).setFld TIM_STAT_xtal 0).raiseOpen 109 0
      let s := (s.raiseOpen 117 0).setInc (s.clock.inc.toNat * 2 ^ 32 / max 1 s.clock.ratio)
      if s.link.stopped then s else (s.restartHop .up).restartHop .dn

/-! ### Beacon messages (R346, R350) -/

/-- The clockIdentity of the tile; its port identity on a hop. -/
def State.clockIdentity (s : State) : Bytes :=
  let m := toBe 6 s.wall.mac.toNat
  m.take 3 ++ [0xFF, 0xFE] ++ m.drop 3
def State.portIdentity (s : State) (h : Hop) : Bytes := s.clockIdentity ++ toBe 2 (hopIx h + 1)

/-- The header of a message that the tile sends, and its body. -/
def State.beacon (s : State) (type : Nat) (corr : Nat) (src : Bytes) (seq ctl log : Nat) (body : Bytes) : Bytes :=
  toBe 1 type ++ toBe 1 0x12 ++ toBe 2 (34 + body.length) ++ toBe 1 s.itin.time.domain ++ zeros 3 ++ toBe 8 corr ++
    zeros 4 ++ src ++ toBe 2 seq ++ toBe 1 ctl ++ toBe 1 log ++ body

/-- logMessageInterval as a byte. -/
def logByte (l : Int) : Nat := patternOf 8 l

def beaconCorr (b : Bytes) : Nat := beAt b 8 8
def beaconSeq (b : Bytes) : Nat := beAt b 30 2
def beaconLog (b : Bytes) : Nat := beAt b 33 1
def beaconSrc (b : Bytes) : Bytes := slice b 20 10

/-- What every beacon must keep. -/
def State.beaconOk (s : State) (type len ctl : Nat) (b : Bytes) : Bool :=
  b.length == len && beAt b 0 1 % 16 == type && beAt b 1 1 % 16 == 2 && beAt b 1 1 / 16 ≤ 1 && beAt b 2 2 == len &&
    beAt b 4 1 == s.itin.time.domain && !bit (beAt b 6 1) 1 && beaconCorr b < 1000000 * 65536 && beAt b 32 1 == ctl

/-- SYNC: originTimestamp with nanoseconds below 10⁹. -/
def State.syncOk (s : State) (b : Bytes) : Bool := s.beaconOk 0 44 0 b && decide (beAt b 40 4 < 1000000000)

/-- PDELAY_REQ: correction and body 0. -/
def State.pdelayReqOk (s : State) (b : Bytes) : Bool :=
  s.beaconOk 2 54 5 b && beaconCorr b == 0 && beaconLog b == logByte s.itin.time.logPdelay && zeroAt b 34 20

/-- PDELAY_RESP: that of the outstanding request. -/
def State.pdelayRespOk (s : State) (b : Bytes) : Bool :=
  s.beaconOk 3 54 5 b && beaconLog b == 0x7F && zeroAt b 34 10 && slice b 44 10 == s.portIdentity .up &&
    beaconSeq b == s.servo.reqSeq.toNat && s.servo.outstanding.isSome

/-- A VC0 wagon queued on a hop. -/
def State.queueVc0 (s : State) (h : Hop) (type : Nat) (addr : Nat) (body : Bytes) : State :=
  s.setTx h { s.tx h with q0 := (s.tx h).q0 ++ [wagonBytes type 0 addr 3 body.length 0 0 body] }

/-- A beacon received on an up hop, with its payload, if it is a good one. -/
def State.takeBeacon (s : State) (h : Hop) (type : Nat) (w : Wagon) (ok : State → Bytes → Bool) : State × Option Bytes :=
  if !carries h [type] w || s.hopState h != 2 then (s, none)
  else
    match s.linkReceive h w with
    | (s, none) => (s, none)
    | (s, some x) =>
      if x.hdr.type != type then (s, none)
      else if ok s x.body then (s, some x.body)
      else (s.violation h 6 w.bytes, none)

/-! ### Link delay (R349) -/

/-- A power of two seconds in edges, from its logarithm. -/
def logEdges (n : Nat) (l : Int) : Nat := ceilDiv (n * edgesS 1) (2 ^ (-l).toNat)

/-- PDELAY_INTERVAL: a request at t1. -/
def execPdelayInterval (t : Nat) (t1 : Nat) (s : State) : Host.Outcome State Fault Refusal :=
  .next <|
    let s := s.advanceTo t
    let v := s.servo
    if s.hopState .up != 2 || v.outstanding.isSome ||
        v.lastReq.any (fun e => !s.elapsed e (logEdges 1 s.itin.time.logPdelay)) then s
    else
      let seq := v.reqSeq + 1
      let s := { s with servo := { v with reqSeq := seq, outstanding := some (t1, s.now), lastReq := some s.now } }
      s.queueVc0 .up 0x09 (15 + 16 * s.tileId)
        (s.beacon 2 0 (s.portIdentity .up) seq.toNat 5 (logByte s.itin.time.logPdelay) (zeros 20))

/-- The last sample in 1/64 ns; free before there is one. -/
def State.lastSample64 (s : State) : Nat × State :=
  match s.servo.lastSample with
  | some x => let (v, s) := s.roundFree x 2048; (patternOf 16 v, s)
  | none => let (v, s) := s.take; (v.toNat % 2 ^ 16, s)

/-- A missed (1) or invalid (2) sample: EV116 as it becomes the third in a row. -/
def State.badSample (s : State) (cause : Nat) : State :=
  let n := s.servo.misses + 1
  let s := { s with servo := { s.servo with misses := min n 3, outstanding := none } }
  if n != 3 then s
  else
    let (x, s) := s.lastSample64
    s.raise 116 cause (cause * 2 ^ 24 + x)

/-- PDELAY_MISS: a request unanswered within 1 ms. -/
def execPdelayMiss (t : Nat) (s : State) : Host.Outcome State Fault Refusal :=
  .next <|
    let s := s.advanceTo t
    match s.servo.outstanding with
    | some (_, e) => if s.elapsed e (edgesMs 1) then s.badSample 1 else s
    | none => s

/-- A request that is older than 1 ms has been missed, whatever comes for it now (R349). -/
def State.missOld (s : State) : State :=
  if s.servo.outstanding.any fun x => decide (x.2 + edgesMs 1 < s.now) then s.badSample 1 else s

/-- A good sample (twice its value): D_up is the mean of the last 8. -/
def State.goodSample (s : State) (x2 : Nat) : State :=
  let samples := (x2 :: s.servo.samples).take 8
  let dUp := roundDiv samples.sum (2 * samples.length)
  let s := { s with servo := { s.servo with samples, dUp, misses := 0, outstanding := none } }
  let (v, s) := s.roundFree dUp 1024
  s.setFld TIM_LINK_DELAY_d_up v.toNat

/-- PDELAY_RESP received at t4. -/
def execPdelayResp (t : Nat) (w : Wagon) (t4 : Nat) (s : State) : Host.Outcome State Fault Refusal :=
  .next <|
    match (s.advanceTo t).missOld.takeBeacon .up 0x0A w State.pdelayRespOk with
    | (s, none) => s
    | (s, some b) =>
      match s.servo.outstanding with
      | none => s
      | some (t1, _) =>
        let x2 : Int := (t4 : Int) - (t1 : Int) - (beaconCorr b : Int)
        let s := { s with servo := { s.servo with lastSample := some x2 } }
        if 0 ≤ x2 && x2 ≤ 400 * 65536 then s.goodSample x2.toNat else s.badSample 2

/-- PDELAY_REQ received on DN_RX at t2, answered at t3. -/
def execPdelayReq (t : Nat) (w : Wagon) (t2 : Nat) (t3 : Nat) (s : State) : Host.Outcome State Fault Refusal :=
  .next <|
    match (s.advanceTo t).takeBeacon .dn 0x09 w State.pdelayReqOk with
    | (s, none) => s
    | (s, some b) =>
      s.queueVc0 .dn 0x0A (15 + 16 * s.tileId)
        (s.beacon 3 (t3 - t2) (s.portIdentity .dn) (beaconSeq b) 5 0x7F (zeros 10 ++ beaconSrc b))

/-! ### SYNC and the servo (R348, R351–R356) -/

/-- The grandmaster of a SYNC is adopted if it is a new one (R355). The flag says whether it was. -/
def State.adoptMaster (s : State) (b : Bytes) : State × Bool :=
  let id := BitVec.ofNat 64 (beAt b 20 8)
  if s.servo.master = some id then (s, false)
  else
    let s := { s with servo := { s.servo with master := some id } }
    let s := s.setPair TIM_GM_LO TIM_GM_HI id.toNat
    (s.raiseOpen 114 (id.toNat % 2 ^ 32), true)

/-- A start step (R351): TIME_NS := m + (TIME_NS − t2). Outputs that wait for their first tick take a new grid instant. -/
def State.startStep (s : State) (offset : Int) : State :=
  let s := { s with clock := { s.clock with ns := s.clock.ns - BitVec.ofInt 96 (offset * 2 ^ 16) } }
  let s := s.setFld TIM_STAT_stepped 1
  let s := allOutputs.foldl (fun (s : State) o =>
    if s.scanning o && !(s.out o).cycle.ticked then
      s.updCycle o fun c => { c with nextTick := gridFrom s.timeNs (s.periodNs o) (s.outRec o).phase }
    else s) s
  let (v, s) := s.roundFree (-offset) 65536
  s.raiseOpen 115 (patternOf 32 (sat32 v))

/-- The servo enters a state; its runs of SYNCs begin anew. -/
def State.servoState (s : State) (v : Nat) : State :=
  ({ s with servo := { s.servo with good := 0, bad := 0 } }).setFld TIM_STAT_state v

/-- Locking by the size of an offset (R353). -/
def State.servoLock (s : State) (offset : Int) : State :=
  let good := if offset.natAbs ≤ 20 * 65536 then s.servo.good + 1 else 0
  let bad := if 100 * 65536 < offset.natAbs then s.servo.bad + 1 else 0
  let s := { s with servo := { s.servo with good := min good 8, bad := min bad 4 } }
  if s.fld TIM_STAT_state = 1 && 8 ≤ good then (s.servoState 2).raise 112 1 (2 ^ 24)
  else if s.fld TIM_STAT_state = 2 && 4 ≤ bad then (s.servoState 1).raise 112 2 (2 * 2 ^ 24)
  else s

/-- TIME_INC at a SYNC (R353): a free value within ±200 ppm of the new estimate, itself free, on the side of it that drives the
offset toward 0; the estimate itself at an offset of 0. -/
def State.servoInc (s : State) (offset : Int) : State :=
  let est := Config.servoInc s.fresh
  let (v, s) := s.take
  let e := est.toNat
  let lo := if offset < 0 then e + 1 else if offset = 0 then e else ceilDiv (e * 999800) 1000000
  let hi := if 0 < offset then e - 1 else if offset = 0 then e else e * 1000200 / 1000000
  ({ s with servo := { s.servo with estimate := est } }).setInc (max lo (min v.toNat hi))

/-- A valid SYNC: m, the offset, and what the servo does. -/
def State.takeSync (s : State) (b : Bytes) (t2 : Nat) : State :=
  let origin := (beAt b 34 6 * 1000000000 + beAt b 40 4) * 65536
  let offset : Int := (t2 : Int) - ((origin + beaconCorr b + s.servo.dUp : Nat) : Int)
  let s := { s with servo := { s.servo with lastSync := some s.now } }
  let (v, s) := s.roundFree offset 65536
  let s := s.setReg TIM_OFFSET (BitVec.ofNat 32 (patternOf 32 (sat32 v)))
  let s :=
    if beaconLog b = logByte s.itin.time.logSync || s.servo.intervalNoted then s
    else ({ s with servo := { s.servo with intervalNoted := true } }).raiseOpen 119 (beaconLog b)
  let (s, new) := s.adoptMaster b
  let st := s.fld TIM_STAT_state
  let s :=
    if new || st = 0 then s.servoState 1
    else if st = 3 then (s.servoState 1).raise 113 2 (2 * 2 ^ 24 + s.onXtal)
    else s
  let s := s.servoLock offset
  let s :=
    if !s.servo.anyTick && !s.servo.samples.isEmpty && 1000 * 65536 < offset.natAbs then s.startStep offset else s
  s.servoInc offset

/-- A SYNC relayed on DN_TX with its correction increased by the residence and D_up (R346, R348); while the DN hop is down it is
discarded as any relayed wagon (R325). -/
def State.relaySync (s : State) (b : Bytes) (t2 te : Nat) : State :=
  if s.hopState .dn = 0 then s
  else if s.hopState .dn != 2 then s.relayDrop .up
  else
    s.queueVc0 .dn 0x08 0xFF
      (s.beacon 0 (beaconCorr b + (te - t2) + s.servo.dUp) (beaconSrc b) (beaconSeq b) 0 (beaconLog b) (b.drop 34))

/-- SYNC received at t2; `te` is its egress timestamp on DN_TX. -/
def execSync (t : Nat) (w : Wagon) (t2 : Nat) (te : Nat) (s : State) : Host.Outcome State Fault Refusal :=
  .next <|
    match (s.advanceTo t).takeBeacon .up 0x08 w State.syncOk with
    | (s, none) => s
    | (s, some b) => (s.relaySync b t2 te).takeSync b t2

/-- HOLDOVER_ENTRY (R354): no valid SYNC for 4 Sync intervals. -/
def execHoldoverEntry (t : Nat) (s : State) : Host.Outcome State Fault Refusal :=
  .next <|
    let s := s.advanceTo t
    match s.servo.lastSync with
    | some e =>
      if (s.fld TIM_STAT_state = 1 || s.fld TIM_STAT_state = 2) && s.elapsed e (logEdges 4 s.itin.time.logSync) then
        s.enterHoldover
      else s
    | none => s

/-- The outputs tick on TIME_NS as it stands (R352). -/
def State.tickUnlocked (s : State) : State :=
  ({ s with servo := { s.servo with waitOver := true } }).raise 112 3 (3 * 2 ^ 24)

/-- LOCK_WAIT_EXPIRY (R352): lock_wait after the UP hop came up, still unlocked. -/
def execLockWaitExpiry (t : Nat) (s : State) : Host.Outcome State Fault Refusal :=
  .next <|
    let s := s.advanceTo t
    match s.servo.upAt with
    | some e =>
      if s.servo.waitOver || s.fld TIM_STAT_state = 2 || !s.elapsed e (edgesMs s.itin.time.lockWaitMs) then s
      else s.tickUnlocked
    | none => s

/-- Sync intervals since the last valid SYNC (TIM_STAT sync_age). -/
def State.syncAge (s : State) : Nat :=
  match s.servo.lastSync with
  | some e => min 255 ((s.now - e) * 2 ^ (-s.itin.time.logSync).toNat / edgesS 1)
  | none => 255

end Sys2Proof.Machine
end

