-- ==== Sys2Proof/Machine/Isp.lean ====
section
/-!
DEFINITION. The image pipeline's stages as functions of the lines of a capture frame (R390–R394): samples, demosaic, colour,
scaler, statistics and taps. Values are exact; each stage rounds half up and clamps to 16 bits.
-/
namespace Sys2Proof.Machine

/-- A frame as the stages see it: its records, the gains in effect and the lines that have been taken, of which `lines` count. -/
structure IspFrame where
  cam : CameraRec
  isp : IspRec
  wb : List Nat
  rows : List (List Nat)
  lines : Nat

/-- A result of a stage: clamped to 0–65,535. -/
def clamp16 (x : Int) : Nat := if x < 0 then 0 else min 65535 x.toNat

/-- Bits of a code of a data type (R380). -/
def codeBits (dtype : Nat) : Nat := match dtype with | 0x2A => 8 | 0x2B => 10 | _ => 12

/-- The codes of a line's payload in the packing of the CSI-2 standard (R380; PRESUMED from it, assumption log 8). -/
def unpackRaw (bits_ : Nat) (n : Nat) (bs : Array Byte) : List Nat :=
  let at_ (i : Nat) : Nat := (bs.getD i 0).toNat
  (List.range n).map fun i =>
    match bits_ with
    | 8 => at_ i
    | 10 => at_ (i / 4 * 5 + i % 4) * 4 + bits (at_ (i / 4 * 5 + 4)) (2 * (i % 4) + 1) (2 * (i % 4))
    | _ => at_ (i / 2 * 3 + i % 2) * 16 + bits (at_ (i / 2 * 3 + 2)) (4 * (i % 2) + 3) (4 * (i % 2))

/-- The CFA channel of a pixel: 0 R, 1 Gr, 2 Gb, 3 B (R382, R390). -/
def cfaChannel (cfa x y : Nat) : Nat :=
  let k := x % 2 + 2 * (y % 2)
  match cfa with
  | 0 => k
  | 1 => [1, 0, 3, 2].getD k 0
  | 2 => [2, 3, 0, 1].getD k 0
  | _ => 3 - k

/-- The coordinate whose pixel stands for coordinate i of n (R390): itself inside, else the nearest of the same CFA colour. -/
def inside (n : Nat) (i : Int) : Option Nat :=
  let k : Nat :=
    if i < 0 then (i % 2).toNat
    else if i < n then i.toNat
    else n - 1 - (if (i - n) % 2 = 0 then 1 else 0)
  if k < n && (i - k) % 2 = 0 then some k else none

/-- The value of a plane at a coordinate that may lie outside the frame. -/
def IspFrame.at_ (f : IspFrame) (plane : Nat → Nat → Nat) (x y : Int) : Nat :=
  match inside f.cam.width x, inside f.lines y with
  | some i, some j => plane i j
  | _, _ => Config.missingColour x y

/-- A number put into a rising list. -/
def insertNat (x : Nat) : List Nat → List Nat
  | [] => [x]
  | y :: ys => if x ≤ y then x :: y :: ys else y :: insertNat x ys

/-- The 8 same-colour neighbours at distance 2, in rising order. -/
def IspFrame.neighbours2 (f : IspFrame) (plane : Nat → Nat → Nat) (x y : Nat) : List Nat :=
  let at_ (dx dy : Int) : Nat := f.at_ plane ((x : Int) + dx) ((y : Int) + dy)
  [at_ (-2) (-2), at_ 0 (-2), at_ 2 (-2), at_ (-2) 0, at_ 2 0, at_ (-2) 2, at_ 0 2, at_ 2 2].foldl (fun l v => insertNat v l) []

/-- The mean of the 4th and 5th of 8 values, halves up. -/
def median8 (l : List Nat) : Nat := (l.getD 3 0 + l.getD 4 0 + 1) / 2

/-- The code of a pixel. -/
def IspFrame.code (f : IspFrame) (x y : Nat) : Nat := (f.rows.getD y []).getD x 0

/-- Stages 1 and 2: unpack and black level. -/
def IspFrame.black (f : IspFrame) (x y : Nat) : Nat :=
  let s := f.code x y * 2 ^ (16 - codeBits f.cam.dtype)
  let bl := f.isp.black.getD (cfaChannel f.cam.cfa x y) 0
  min 65535 ((s - bl) * 65535 / (65535 - bl))

/-- Stage 3, the static list: a listed pixel takes the median of its neighbours. -/
def IspFrame.static (f : IspFrame) (x y : Nat) : Nat :=
  if f.isp.defects.contains (x, y) then median8 (f.neighbours2 f.black x y) else f.black x y

/-- Stage 3, the dynamic test. -/
def IspFrame.defect (f : IspFrame) (x y : Nat) : Nat :=
  let ns := f.neighbours2 f.static x y
  let s := f.static x y
  if ns.getD 7 0 + f.isp.dpcThr < s || s + f.isp.dpcThr < ns.getD 0 0 then median8 ns else s

/-- Interval and offset of a coordinate i of n among 33 nodes spread evenly from the first to the last. -/
def nodeOf (n i : Nat) : Nat × Nat :=
  let d := max 1 (n - 1)
  let k := min 31 (32 * i / d)
  (k, 32 * i - k * d)

/-- Stage 4: lens shading. -/
def IspFrame.shade (f : IspFrame) (x y : Nat) : Nat :=
  let s := f.defect x y
  if !f.isp.shading then s
  else
    let ch := cfaChannel f.cam.cfa x y
    let g (i j : Nat) : Nat := (f.isp.shade.getD (ch * 1089 + j * 33 + i) 0).toNat
    let dx := max 1 (f.cam.width - 1)
    let dy := max 1 (f.cam.height - 1)
    let (i, u) := nodeOf f.cam.width x
    let (j, v) := nodeOf f.cam.height y
    let top := g i j * (dx - u) + g (i + 1) j * u
    let bottom := g i (j + 1) * (dx - u) + g (i + 1) (j + 1) * u
    min 65535 (roundDiv (s * (top * (dy - v) + bottom * v)) (16384 * dx * dy))

/-- Stage 5: white balance. -/
def IspFrame.balance (f : IspFrame) (x y : Nat) : Nat :=
  min 65535 (roundDiv (f.shade x y * f.wb.getD (cfaChannel f.cam.cfa x y) 0) 4096)

/-- The green of a site (R392). -/
def IspFrame.green (f : IspFrame) (x y : Nat) : Nat :=
  let ch := cfaChannel f.cam.cfa x y
  if ch = 1 || ch = 2 then f.balance x y
  else
    let v (dx dy : Int) : Int := f.at_ f.balance ((x : Int) + dx) ((y : Int) + dy)
    let c := v 0 0
    let dh := (v (-1) 0 - v 1 0).natAbs + (2 * c - v (-2) 0 - v 2 0).natAbs
    let dv := (v 0 (-1) - v 0 1).natAbs + (2 * c - v 0 (-2) - v 0 2).natAbs
    let gh := 2 * (v (-1) 0 + v 1 0) + 2 * c - v (-2) 0 - v 2 0
    let gv := 2 * (v 0 (-1) + v 0 1) + 2 * c - v 0 (-2) - v 0 2
    clamp16 (if dh < dv then roundDivInt gh 4 else if dv < dh then roundDivInt gv 4 else roundDivInt (gh + gv) 8)

/-- The nearest sites that hold colour c (0 red, 3 blue) around a site of another colour, as offsets (R392). -/
def colourSites (ch c : Nat) : List (Int × Int) :=
  if ch = 0 || ch = 3 then [(-1, -1), (1, -1), (-1, 1), (1, 1)]
  else if (ch = 1 && c = 0) || (ch = 2 && c = 3) then [(-1, 0), (1, 0)]
  else [(0, -1), (0, 1)]

/-- The red or blue of a site (R392). -/
def IspFrame.colour (f : IspFrame) (c x y : Nat) : Nat :=
  let ch := cfaChannel f.cam.cfa x y
  if ch = c then f.balance x y
  else
    let sites := colourSites ch c
    let diff (o : Int × Int) : Int :=
      (f.at_ f.balance ((x : Int) + o.1) ((y : Int) + o.2) : Int) - f.at_ f.green ((x : Int) + o.1) ((y : Int) + o.2)
    let sum := (sites.map diff).foldl (· + ·) 0
    clamp16 (roundDivInt ((f.green x y : Int) * sites.length + sum) sites.length)

/-- Stage 6: R, G and B of a pixel. -/
def IspFrame.demosaic (f : IspFrame) (x y : Nat) : List Nat := [f.colour 0 x y, f.green x y, f.colour 3 x y]

/-- A 3 × 3 matrix of signed 4.12 with offsets (stages 7 and 9). -/
def matrix3 (m off : List Int) (v : List Nat) : List Nat :=
  (List.range 3).map fun i =>
    let sum := ((List.range 3).map fun j => m.getD (3 * i + j) 0 * ((v.getD j 0 : Nat) : Int)).foldl (· + ·) 0
    clamp16 (roundDivInt (sum + off.getD i 0 * 4096) 4096)

/-- Stage 8 for one channel; its division truncates. -/
def IspFrame.tone1 (f : IspFrame) (ch s : Nat) : Nat :=
  let e (i : Nat) : Int := (f.isp.tone.getD (1025 * ch + i) 0).toNat
  let i := s / 64
  clamp16 (e i + ((e (i + 1) - e i) * ((s % 64 : Nat) : Int) + 32).tdiv 64)

/-- Stages 7 and 8. -/
def IspFrame.toned (f : IspFrame) (x y : Nat) : List Nat :=
  (matrix3 f.isp.ccm f.isp.ccmOff (f.demosaic x y)).zipIdx.map fun (v, k) => f.tone1 k v

/-- Stage 9 without the chroma of 4:2:0. -/
def IspFrame.space (f : IspFrame) (x y : Nat) : List Nat :=
  if f.cam.space = 0 then f.toned x y else matrix3 f.isp.csc f.isp.cscOff (f.toned x y)

/-- Chroma k (1 Cb, 2 Cr) of a 2 × 2 block of 4:2:0: the mean of the block's pixels. -/
def IspFrame.chroma (f : IspFrame) (k i j : Nat) : Nat :=
  let vs := ([(0, 0), (1, 0), (0, 1), (1, 1)] : List (Nat × Nat)).filterMap fun (dx, dy) =>
    if 2 * j + dy < f.lines then some ((f.space (2 * i + dx) (2 * j + dy)).getD k 0) else none
  roundDiv vs.sum (max 1 vs.length)

/-! ### Stage 10 -/

/-- Base sample and phase of output sample i where n samples become m: centres aligned. -/
def scalePos (n m i : Nat) : Int × Nat :=
  let num : Int := ((2 * i + 1) * n : Nat) - (m : Int)
  let base := num / ((2 * m : Nat) : Int)
  (base, (num * 64 / ((2 * m : Nat) : Int) % 64).toNat)

/-- The scaler's filter of one direction: 4 taps from base − 1 on; samples beyond the edge repeat the last one. -/
def scale1 (coefs : List Int) (n m limit i : Nat) (sample : Nat → Nat) : Nat :=
  let (base, phase) := scalePos n m i
  let tap (k : Nat) : Int :=
    let p := base - 1 + (k : Int)
    coefs.getD (4 * phase + k) 0 * ((sample (if p < 0 then 0 else min (limit - 1) p.toNat) : Nat) : Int)
  clamp16 (roundDivInt (tap 0 + tap 1 + tap 2 + tap 3) 16384)

/-- The last sample that output sample i needs: coefficients of 0 take nothing. -/
def lastSample (coefs : List Int) (n m i : Nat) : Nat :=
  let (base, phase) := scalePos n m i
  let k := ((List.range 4).filter fun k => coefs.getD (4 * phase + k) 0 != 0).getLast?.getD 1
  (base - 1 + (k : Int)).toNat

/-- A plane scaled: horizontally, then vertically. -/
def IspFrame.scaled (f : IspFrame) (w h w' h' lines : Nat) (plane : Nat → Nat → Nat) (i j : Nat) : Nat :=
  let hor := f.isp.coefs.take 256
  let ver := f.isp.coefs.drop 256
  scale1 ver h h' lines j fun y => scale1 hor w w' w i fun x => plane x y

/-- Component k at output coordinates; chroma of 4:2:0 lies on the half-size plane. -/
def IspFrame.component (f : IspFrame) (k i j : Nat) : Nat :=
  let c := f.cam
  if c.space = 2 && k != 0 then
    f.scaled (c.width / 2) (c.height / 2) (c.outWidth / 2) (c.outHeight / 2) ((f.lines + 1) / 2) (f.chroma k) i j
  else f.scaled c.width c.height c.outWidth c.outHeight f.lines (fun x y => (f.space x y).getD k 0) i j

/-- A 16-bit value rounded to the bits of the capture format. -/
def toOutput (format v : Nat) : Nat := if format = 0 then min 255 (roundDiv v 256) else min 1023 (roundDiv v 64)

/-- The pixel of a capture format that holds three components (R55). -/
def capPixel (format : Nat) (p : List Nat) : Word :=
  BitVec.ofNat 32 (leNat (bytesOfPixel format (p.map (toOutput format))))

/-- Output row j (R393). -/
def IspFrame.outRow (f : IspFrame) (j : Nat) : List Word :=
  let c := f.cam
  if c.space = 2 then
    (List.range (c.outWidth / 2)).map fun i =>
      capPixel c.outFormat [f.component 0 (2 * i) j, f.component 0 (2 * i + 1) j, f.component (1 + j % 2) i (j / 2)]
  else (List.range c.outWidth).map fun i => capPixel c.outFormat ((List.range 3).map fun k => f.component k i j)

/-- Output rows of a frame of the given lines. -/
def CameraRec.outRowsOf (c : CameraRec) (lines : Nat) : Nat := min c.outHeight (ceilDiv (lines * c.outHeight) (max 1 c.height))

/-- The last demosaiced row that output row j needs. -/
def IspFrame.needs (f : IspFrame) (j : Nat) : Nat :=
  let c := f.cam
  let ver := f.isp.coefs.drop 256
  let luma := lastSample ver c.height c.outHeight j
  if c.space = 2 then max luma (2 * lastSample ver (c.height / 2) (c.outHeight / 2) (j / 2) + 1) else luma

/-- Output rows whose demosaiced rows are complete after `taken` lines, with `ahead` rows of lookahead, once all lines are
taken with none (R392). -/
def IspFrame.complete (f : IspFrame) (taken ahead : Nat) (all : Bool) : Nat :=
  let total := f.cam.outRowsOf f.lines
  if all then total
  else ((List.range total).takeWhile fun j => decide (f.needs j + ahead < taken)).length

/-! ### Statistics and taps (R394) -/

/-- Y of a demosaiced pixel (R394). -/
def lumaOf (p : List Nat) : Nat := (77 * p.getD 0 0 + 150 * p.getD 1 0 + 29 * p.getD 2 0 + 128) / 256

/-- 256 counts of the top 8 bits of some values. -/
def histogram256 (vs : List Nat) : List Nat :=
  let a := vs.foldl (fun (a : Array Nat) v => a.modify (v / 256) (· + 1)) (Array.replicate 256 0)
  a.toList

/-- The statistics record (R394): a header of 32 bytes whose content the manual does not state, histograms of Y, R, G, B, zones. A zone
without pixels has no means, and a zone of more than 65,535 pixels no stated count: these and the header are free values
from number `base` on. -/
def IspFrame.statistics (f : IspFrame) (base : Nat) : Bytes :=
  let w := f.cam.width
  let px : List (List Nat × Nat) := (List.range f.lines).flatMap fun y => (List.range w).map fun x =>
    (f.demosaic x y, y * 16 / f.lines * 16 + x * 16 / w)
  let free (k : Nat) : Nat := (Config.free (base + k)).toNat
  let hist (v : List Nat → Nat) : Bytes := (histogram256 (px.map fun p => v p.1)).flatMap (toLe 4)
  let zone (z : Nat) : Bytes :=
    let mine := (px.filter fun p => p.2 = z).map (·.1)
    let n := mine.length
    let mean (k : Nat) : Nat :=
      if n = 0 then free (4 + 4 * z + k) else roundDiv (mine.map fun p => p.getD k 0).sum n
    toLe 2 (mean 0) ++ toLe 2 (mean 1) ++ toLe 2 (mean 2) ++ toLe 2 (if n < 65536 then n else free (4 + 4 * z + 3))
  (List.range 4).flatMap (fun k => toLe 8 (free k)) ++
    hist lumaOf ++ hist (·.getD 0 0) ++ hist (·.getD 1 0) ++ hist (·.getD 2 0) ++ (List.range 256).flatMap zone

/-- Free values that a statistics record may take. -/
def statisticsFree : Nat := 4 + 4 * 256

/-- The bytes of a tap buffer: header, then pixels. -/
def IspFrame.tapBytes (f : IspFrame) (tap : Nat) (gen : Word) (marks : Nat) : Bytes :=
  let pixel (x y : Nat) : Bytes :=
    match tap with
    | 0 => toLe 2 (f.code x y)
    | 1 => toLe 2 (f.defect x y)
    | 2 => (f.demosaic x y).flatMap (toLe 2)
    | _ => bytesOfPixel 1 ((f.toned x y).map (toOutput 1))
  toLe 4 gen.toNat ++ toLe 2 marks ++ toLe 2 f.lines ++ toLe 1 tap ++ zeros 55 ++
    (List.range f.lines).flatMap fun y => (List.range f.cam.width).flatMap fun x => pixel x y

end Sys2Proof.Machine
end

