-- ==== Sys2Proof/Machine/Registers.lean ====
section
/-!
DEFINITION. Register access (R2–R11): checks, the values that registers show, shadows of 64-bit pairs, writes and what they
do; the service port (R491–R494) and the commands that are register writes.
-/
namespace Sys2Proof.Machine

/-! ### What a register shows -/

/-- A number's word w (0 low). -/
def wordOf (n w : Nat) : Word := BitVec.ofNat 32 (n / 2 ^ (32 * w))

/-- ALERT_OUT_N's conditions (R479), bit 0 first. -/
def State.alertConds (s : State) : List Bool :=
  [s.fld THM_STATE_warning = 1, 0 < s.fld THM_STATE_level, s.fld PWR_BRACE_alert = 1,
   allOutputs.any fun o => s.fld (PTR_OUT_ADM_void o.val) = 1, s.fld WBS_STAT_bound_void = 1,
   s.servo.anyTick && s.fld TIM_STAT_state != 2]

/-- Bits from bit 0 up, as a number. -/
def bitsNat (l : List Bool) : Nat := l.foldr (fun b n => b2n b + 2 * n) 0

/-- Is ALERT_OUT_N low (R479)? -/
def State.alertLow (s : State) : Bool := s.alertConds.any id

/-- SBX_STAT. -/
def State.sbxStat (s : State) : Nat :=
  b2n s.sbx.writing.isSome * 2 ^ 31 + b2n s.sbx.queued.isSome * 2 ^ 30 + s.sbx.keptCount * 2 ^ 16 + s.fld SBX_STAT_merged

/-- SBX_SLOT of a slot. -/
def Slot.stat (x : Slot) : Nat := b2n x.valid * 2 ^ 31 + b2n x.kept * 2 ^ 30 + x.kind * 2 ^ 24 + x.serial.toNat % 2 ^ 24

/-- Word w of a Guestbook entry. -/
def GbEntry.word (g : GbEntry) (w : Nat) : Word := [g.w0, g.w1, g.w2, g.w3].getD w 0

/-- A word of GBK_WINDOW. -/
def State.gbkWord (s : State) (i : Nat) : Word :=
  (Sparse.getD s.evt.book (2048 * s.fld GBK_PAGE_page + i / 4) zeroEntry).word (i % 4)

/-- A word of DRC_FREEZE_HIST. -/
def State.histWord (s : State) (i : Nat) : Word := (histWords (s.dram.hist.toList.getD (i / 128) [])).getD (i % 128) 0

/-- The credit that a transmit group holds for VC v. -/
def State.credit (s : State) (h : Hop) (v : Nat) : Nat :=
  let i := Fin.ofNat 3 (v - 1)
  min ((s.tx h).limit.get i - (s.tx h).consumed.get i).toNat 0xFFFF

/-- The four routing bytes of EVT_ROUTE i. -/
def State.routeWord (s : State) (i : Nat) : Nat := (List.range 4).foldr (fun j v => s.route (4 * i + j) + 256 * v) 0

/-- Senders now in quarantine. -/
def State.quarantined (s : State) : Nat := (s.wall.nodes.filter fun (_, x) => x.quarantine.any fun t => decide (s.now < t)).length

/-- Brace starts of the last second. -/
def State.recentBraces (s : State) : Nat := (s.power.starts.filter fun t => decide (s.now < t + edgesS 1)).length

/-- The part of an array of registers that an address lies in. -/
def inArray (a base stride count : Nat) : Option Nat :=
  if base ≤ a && a < base + stride * count && (a - base) % stride = 0 then some ((a - base) / stride) else none

/-- Is the service port unlocked: not locked again by 1 s without a frame (R492)? -/
def State.unlocked (s : State) : Bool := s.fld SVC_STAT_unlocked = 1 && !s.elapsed s.svc.lastFrame (edgesS 1)

/-- Registers that show something that State holds elsewhere. -/
def State.computed (s : State) (a : Nat) : Option Word :=
  let ns := s.clock.ns.toNat
  let inc := s.clock.inc.toNat
  if a = TIM_NS_LO then some (wordOf ns 1)
  else if a = TIM_NS_HI then some (wordOf ns 2)
  else if a = TIM_NS_FRAC then some (wordOf ns 0)
  else if a = TIM_INC_FRAC then some (wordOf inc 0)
  else if a = TIM_INC_INT then some (wordOf inc 1)
  else if a = TIM_STAT then some (setBits (s.reg a) 7 0 s.syncAge)
  else if a = EVT_ALERT then some (BitVec.ofNat 32 (bitsNat s.alertConds))
  else if a = SBX_STAT then some (BitVec.ofNat 32 s.sbxStat)
  else if a = CFG_UID_LO then some (Config.dieUid.setWidth 32)
  else if a = CFG_UID_HI then some ((Config.dieUid >>> 32).setWidth 32)
  else if a = CFG_OTP then
    some (BitVec.ofNat 32
      (b2n s.boot.otp.safeKey.isSome * 4 + b2n s.boot.otp.sigRequired * 2 + b2n s.boot.otp.digest.isSome))
  else if a = PTR_Q_AB then some (BitVec.ofNat 32 (s.porter.qb.length * 2 ^ 16 + s.porter.qa.length))
  else if a = PTR_Q_CD then some (BitVec.ofNat 32 (s.porter.qd.length * 2 ^ 16 + s.porter.qc.length))
  else if a = LNK_STAT then some (setBits (s.reg a) 1 1 (b2n (!s.rooms.heldOwn.isEmpty || s.noStore)))
  else if a = SVC_STAT then some (setBits (s.reg a) 31 31 (b2n s.unlocked))
  else if a = PWR_BRACE then some (setBits (s.reg a) 7 0 (min 255 s.recentBraces))
  else if a = WBS_STAT then some (setBits (s.reg a) 5 0 s.quarantined)
  else
    match inArray a (EVT_ROUTE 0) 4 64, inArray a (GBK_WINDOW 0) 4 8192, inArray a (SBX_SLOT 0) 4 16 with
    | some i, _, _ => some (BitVec.ofNat 32 (s.routeWord i))
    | _, some i, _ => some (s.gbkWord i)
    | _, _, some i => some (BitVec.ofNat 32 (s.sbx.slot (Fin.ofNat 16 i)).stat)
    | none, none, none =>
      match inArray a (SBX_WINDOW 0) 4 8192, inArray a (DRC_FREEZE_HIST 0) 4 1024, inArray a (LNK_CREDIT_UP 0) 4 3 with
      | some i, _, _ => some ((s.sbx.slot (Fin.ofNat 16 (s.fld SBX_SEL_slot))).word i)
      | _, some i, _ => some (s.histWord i)
      | _, _, some i => some (BitVec.ofNat 32 (s.credit .up (i + 1)))
      | none, none, none => (inArray a (LNK_CREDIT_DN 0) 4 3).map fun i => BitVec.ofNat 32 (s.credit .dn (i + 1))

/-- What a register shows now: 0 where no register stands (R4). -/
def State.regValue (s : State) (a : Nat) : Word :=
  match s.computed a with
  | some w => w
  | none => if (regAt a).isSome then s.reg a else 0

/-! ### 64-bit pairs (R7, R8) -/

/-- The low words of pairs whose high word follows. -/
def pairLow (a : Nat) : Bool :=
  [PWR_EACC_RAYS_LO, INK_FAULT_OFS_LO, DRC_FREEZE_ADDR_LO, DRC_THAW_ADDR_LO, TIM_GM_LO, CFG_UID_LO, TIM_INC_FRAC].contains a ||
    (List.range 16).any (fun u => a == CDC_U_PIX_LO u) || (List.range 4).any (fun o => a == SCN_FLIP_TIME_LO o) ||
    (inArray a (DRC_FREEZE_HIST 0) 8 512).isSome

/-- The words that a read of the low word latches. -/
def latchedBy (a : Nat) : List Nat :=
  if a = TIM_NS_LO then [TIM_NS_HI, TIM_NS_FRAC] else if pairLow a then [a + 4] else []

/-- Does a register read through a shadow? -/
def isShadowed (a : Nat) : Bool := a == TIM_NS_HI || a == TIM_NS_FRAC || pairLow (a - 4)

def pathIx : Path → Nat
  | .service => 0
  | .wallBus => 1
  | .concierge => 2

def shadowKey (p : Path) (a : Nat) : Nat := pathIx p * 2 ^ 32 + a

/-- A shadow before its low word has been read. -/
def State.shadowReset (s : State) (a : Nat) : Word := if a = CFG_UID_HI then s.regValue a else resetOf a

/-- A read that its checks let pass, on a path. -/
def State.readReg (s : State) (p : Path) (a : Nat) : Word × State :=
  if isShadowed a then (Sparse.getD s.shadow (shadowKey p a) (s.shadowReset a), s)
  else
    (s.regValue a,
      { s with shadow := (latchedBy a).foldl (fun m h => Sparse.set m (shadowKey p h) (s.regValue h)) s.shadow })

/-! ### Access checks (R3–R6) -/

/-- 0 OK, 1 DOMAIN_OFF, 2 ERROR, for an access of `width` bits. -/
def State.busCheck (s : State) (a width : Nat) : Nat :=
  if width != 32 || a % 4 != 0 || !inRegSpace a then 2
  else if s.pd (regDomain (blockOf a) (a % 0x10000)) != 2 then 1
  else 0

/-- EV225 of an access to a domain that is not on. -/
def State.sleepingAccess (s : State) (a : Nat) : State :=
  s.raiseOpen 225 (regDomain (blockOf a) (a % 0x10000) * 2 ^ 26 + a % 2 ^ 24)

/-- A read: its status, its value (0 unless OK). -/
def State.busRead (s : State) (p : Path) (a width : Nat) : Nat × Word × State :=
  match s.busCheck a width with
  | 0 => let (v, s) := s.readReg p a; (0, v, s)
  | 1 => (1, 0, s.sleepingAccess a)
  | k => (k, 0, s)

/-! ### Writes (R8, R9) -/

/-- The stored value after a write: RW bits set, W1C bits cleared. -/
def writtenWord (d : RegDesc) (old v : Word) : Word :=
  let rw := BitVec.ofNat 32 (accMask d .rw)
  let w1c := BitVec.ofNat 32 (accMask d .w1c)
  ((old &&& ~~~rw) ||| (v &&& rw)) &&& ~~~(v &&& w1c)

/-- The write of a register's RW and W1C fields. -/
def State.storeReg (s : State) (a : Nat) (v : Word) : State :=
  match regAt a with
  | some (d, _) => s.setReg a (writtenWord d (s.reg a) v)
  | none => s

/-- SVC_UNLOCK (R492). -/
def State.unlockService (s : State) (v : Word) : State :=
  if v.toNat % 2 ^ 16 = 0x5E1F then (s.setFld SVC_STAT_unlocked 1).raise 255 1 1 else s.raise 255 2 2

/-- EVT_INJECT (R494). -/
def State.inject (s : State) (v : Word) : State :=
  s.raiseWith (bits v.toNat 15 8) (BitVec.ofNat 8 v.toNat) 0 true

/-- SBX_CTRL (R484, R486). -/
def State.writeSbxCtrl (s : State) (v : Word) : State :=
  let n := v.toNat
  let s := if bit n 1 && bits n 31 16 = 0x5B0C then s.clearKeep else s
  if bit n 0 then s.snapRequest 8 0 none else s

/-- DRC_THAW_CTRL (R249). -/
def State.writeThawCtrl (s : State) (v : Word) : State :=
  let n := v.toNat
  let s := if bit n 0 && bits n 31 16 = 0x7A5C then s.thawEnter else s
  if bit n 1 then s.thawGo else s

/-- LNK_INJECT. -/
def State.writeInject (s : State) (v : Word) : State :=
  let s := if bit v.toNat 1 then s.injectCrc .dn else s
  if bit v.toNat 0 then s.injectCrc .up else s

/-- LPH_PRBS of a lane. -/
def State.writePrbs (s : State) (lane : Lane) (v : Word) : State :=
  let s := (s.storeReg (LPH_PRBS lane.val) v).startPrbs lane (bits v.toNat 31 30)
  if bit v.toNat 8 then s.injectBit lane else s

/-- DRC_THAW_ADDR: the pair takes effect when the high word is written. -/
def State.writeThawHigh (s : State) (p : Path) (v : Word) : State :=
  let lo := Sparse.getD s.lowWords (shadowKey p DRC_THAW_ADDR_LO) (resetOf DRC_THAW_ADDR_LO)
  (s.setReg DRC_THAW_ADDR_LO lo).storeReg DRC_THAW_ADDR_HI v

/-- A write that its checks let pass, on a path. -/
def State.writeReg (s : State) (p : Path) (a : Nat) (v : Word) : State :=
  if a = SVC_UNLOCK then s.unlockService v
  else if a = EVT_INJECT then s.inject v
  else if a = SBX_CTRL then s.writeSbxCtrl v
  else if a = DRC_THAW_CTRL then s.writeThawCtrl v
  else if a = LNK_INJECT then s.writeInject v
  else if a = DRC_THAW_ADDR_LO then { s with lowWords := Sparse.set s.lowWords (shadowKey p a) v }
  else if a = DRC_THAW_ADDR_HI then s.writeThawHigh p v
  else
    match inArray a (LPH_PRBS 0) 0x400 32, inArray a (LPH_SLIP 0) 0x400 32, inArray a (ENG_SPAN_PEAK 0) 4 4,
        inArray a (EVT_ROUTE 0) 4 64 with
    | some i, _, _, _ => s.writePrbs (Fin.ofNat 32 i) v
    | _, some i, _, _ => if bit v.toNat 31 then s.slipLane (Fin.ofNat 32 i) else s
    | _, _, some i, _ => if bit v.toNat 31 then s.setFld (ENG_SPAN_PEAK_peak i) 0 else s
    -- writes to bit 1 of a routing byte are ignored
    | _, _, _, some _ => s.storeReg a (v &&& 0xFDFDFDFD)
    | _, _, _, _ => s.storeReg a v

/-- A write: its status. -/
def State.busWrite (s : State) (p : Path) (a width : Nat) (v : Word) : Nat × State :=
  match s.busCheck a width with
  | 0 => (0, s.writeReg p a v)
  | 1 => (1, s.sleepingAccess a)
  | k => (k, s)

/-! ### The service port (R491–R493) -/

/-- A frame starts; a port that had none for 1 s is locked. -/
def State.svcFrame (s : State) : State :=
  let s := s.setFld SVC_STAT_unlocked (b2n s.unlocked)
  ({ s with svc := { s.svc with lastFrame := s.now } }).wrapFld SVC_STAT_frames

/-- WSTAT of a word written. -/
def State.setWstat (s : State) (b : Byte) : State := { s with svc := { s.svc with wstat := b } }

/-- One word written through the service port: refused while it is locked. -/
def State.svcWord (s : State) (a width : Nat) (v : Word) : State :=
  if s.fld SVC_STAT_unlocked = 0 && a != SVC_UNLOCK then s.setWstat 4
  else
    let (k, s) := s.busWrite .service a width v
    s.setWstat (if k = 0 then 0 else if k = 1 then 2 else 1)

/-- A register write on a path; the wall bus only reads. -/
def State.pathWrite (s : State) (p : Path) (a width : Nat) (v : Word) : State :=
  match p with
  | .service => s.svcFrame.svcWord a width v
  | .wallBus => s
  | .concierge => (s.busWrite .concierge a width v).2

/-- Whole words of a WRITE, in order. -/
def State.svcWords (s : State) (a : Nat) : Nat → Bytes → State
  | 0, _ => s
  | n + 1, bs => (s.svcWord a 32 (BitVec.ofNat 32 (leAt bs 0 4))).svcWords (a + 4) n (bs.drop 4)

/-- n words read from an address on: statuses and values, each with what it answers. -/
def State.readWords (s : State) (p : Path) (a : Nat) : Nat → List (Nat × Word) × State
  | 0 => ([], s)
  | n + 1 =>
    let (k, v, s) := s.busRead p a 32
    let (rest, s) := s.readWords p (a + 4) n
    ((k, v) :: rest, s)

def State.svcAnswer (s : State) (bs : Bytes) : State := { s with svc := { s.svc with answer := bs } }

/-- ID (R491): from 1 ms after reset release; before that the answer is open. -/
def execSvcId (t : Nat) (s : State) : Host.Outcome State Fault Refusal :=
  .next <|
    let s := (s.advanceTo t).svcFrame
    if s.elapsed 0 (edgesMs 1) then s.svcAnswer (toLe 4 (s.reg CFG_CHIP_ID).toNat)
    else let (v, s) := s.take; s.svcAnswer (toLe 4 v.toNat)

/-- READ (R491): for each word a status byte and its value. -/
def execSvcRead (t : Nat) (addr : Nat) (n : Nat) (s : State) : Host.Outcome State Fault Refusal :=
  .next <|
    let (ws, s) := ((s.advanceTo t).svcFrame).readWords .service addr n
    s.svcAnswer (ws.flatMap fun (k, v) => toLe 1 k ++ toLe 4 v.toNat)

/-- WRITE (R491, R492): a partial word is discarded. -/
def execSvcWrite (t : Nat) (addr : Nat) (data : Bytes) (s : State) : Host.Outcome State Fault Refusal :=
  .next ((((s.advanceTo t).svcFrame).svcAnswer []).svcWords addr (data.length / 4) data)

/-- WSTAT (R491). -/
def execSvcWstat (t : Nat) (s : State) : Host.Outcome State Fault Refusal :=
  .next <|
    let s := (s.advanceTo t).svcFrame
    s.svcAnswer [s.svc.wstat]

/-- SVC_UNLOCK (R492): a word written to it through the service port. -/
def execSvcUnlock (t : Nat) (v : Word) (s : State) : Host.Outcome State Fault Refusal :=
  .next ((s.advanceTo t).pathWrite .service SVC_UNLOCK 32 v)

/-- SERVICE_PORT_RELOCK (R492): 1 s without a frame. -/
def execServicePortRelock (t : Nat) (s : State) : Host.Outcome State Fault Refusal :=
  .next <|
    let s := s.advanceTo t
    s.setFld SVC_STAT_unlocked (b2n s.unlocked)

/-- The known command bytes (R491). -/
def svcCommands : List Byte := [0x9F, 0x0B, 0x02, 0x05]

/-- UNKNOWN_COMMAND_BYTE (R491). -/
def execUnknownCommandByte (t : Nat) (b : Byte) (s : State) : Host.Outcome State Fault Refusal :=
  .next <|
    let s := (s.advanceTo t).svcFrame
    if svcCommands.contains b then s else (s.svcAnswer []).raise 255 3 3

/-! ### Commands that are register accesses -/

/-- LOW_WORD_READ (R7). -/
def execLowWordRead (t : Nat) (path : Path) (addr : Nat) (s : State) : Host.Outcome State Fault Refusal :=
  .next (((s.advanceTo t).busRead path addr 32).2.2)

/-- HIGH_WORD_WRITE (R8). -/
def execHighWordWrite (t : Nat) (path : Path) (addr : Nat) (v : Word) (s : State) : Host.Outcome State Fault Refusal :=
  .next ((s.advanceTo t).pathWrite path addr 32 v)

/-- REGISTER_WRITE (R3–R6, R9). -/
def execRegisterWrite (t : Nat) (path : Path) (addr : Nat) (width : Nat) (v : Word) (s : State) :
    Host.Outcome State Fault Refusal :=
  .next ((s.advanceTo t).pathWrite path addr width v)

/-- SNAP (R484): a write to SBX_CTRL. -/
def execSnap (t : Nat) (path : Path) (v : Word) (s : State) : Host.Outcome State Fault Refusal :=
  .next ((s.advanceTo t).pathWrite path SBX_CTRL 32 v)

/-- CLEAR_KEEP (R486): a write to SBX_CTRL. -/
def execClearKeep (t : Nat) (path : Path) (v : Word) (s : State) : Host.Outcome State Fault Refusal :=
  .next ((s.advanceTo t).pathWrite path SBX_CTRL 32 v)

/-- EVT_INJECT (R494). -/
def execEvtInject (t : Nat) (path : Path) (v : Word) (s : State) : Host.Outcome State Fault Refusal :=
  .next ((s.advanceTo t).pathWrite path EVT_INJECT 32 v)

/-- EVT_FAULT_CLEAR (R478). -/
def execEvtFaultClear (t : Nat) (path : Path) (i : Fin 8) (v : Word) (s : State) : Host.Outcome State Fault Refusal :=
  .next ((s.advanceTo t).pathWrite path (EVT_FAULT i.val) 32 v)

/-- START (R249): a write to DRC_THAW_CTRL. -/
def execThawStart (t : Nat) (path : Path) (v : Word) (s : State) : Host.Outcome State Fault Refusal :=
  .next ((s.advanceTo t).pathWrite path DRC_THAW_CTRL 32 v)

/-- GO (R249): a write to DRC_THAW_CTRL. -/
def execThawGo (t : Nat) (path : Path) (v : Word) (s : State) : Host.Outcome State Fault Refusal :=
  .next ((s.advanceTo t).pathWrite path DRC_THAW_CTRL 32 v)

/-- CRC_DN: crc_dn of LNK_INJECT written as 1. -/
def execCrcDn (t : Nat) (path : Path) (s : State) : Host.Outcome State Fault Refusal :=
  .next ((s.advanceTo t).pathWrite path LNK_INJECT 32 2)

/-- CRC_UP: crc_up of LNK_INJECT written as 1. -/
def execCrcUp (t : Nat) (path : Path) (s : State) : Host.Outcome State Fault Refusal :=
  .next ((s.advanceTo t).pathWrite path LNK_INJECT 32 1)

/-- INJECT_ONE (R301): inject_one of LPH_PRBS written as 1, the other fields as they stand. -/
def execInjectOne (t : Nat) (path : Path) (lane : Lane) (s : State) : Host.Outcome State Fault Refusal :=
  .next <|
    let s := s.advanceTo t
    s.pathWrite path (LPH_PRBS lane.val) 32 (s.reg (LPH_PRBS lane.val) ||| 0x100)

/-- SLIP (R306): slip of LPH_SLIP written as 1. -/
def execSlip (t : Nat) (path : Path) (lane : Lane) (s : State) : Host.Outcome State Fault Refusal :=
  .next ((s.advanceTo t).pathWrite path (LPH_SLIP lane.val) 32 0x80000000)

/-- PRBS_TEST_ENABLE (R301): a write to LPH_PRBS. -/
def execPrbsTestEnable (t : Nat) (path : Path) (lane : Lane) (v : Word) (s : State) : Host.Outcome State Fault Refusal :=
  .next ((s.advanceTo t).pathWrite path (LPH_PRBS lane.val) 32 v)

/-- CLEAR (R125): clear of ENG_SPAN_PEAK written as 1. -/
def execPeakClear (t : Nat) (path : Path) (o : Output) (s : State) : Host.Outcome State Fault Refusal :=
  .next ((s.advanceTo t).pathWrite path (ENG_SPAN_PEAK o.val) 32 0x80000000)

/-! ### Concierge watchdog (R495, R496) -/

/-- The orderly power-off of every powered output, then the reset of the given kind. -/
def State.resetAfter (s : State) (k : ResetKind) : State :=
  let s := { s with boot := { s.boot with waiting := some k } }
  (allOutputs.foldl State.powerOff s).checkReset

/-- CONCIERGE_WATCHDOG (R495, R496): 100 ms without service, so none within 100 ms of the release of reset; EV252, a snapshot of
kind 7, and a reset. -/
def execConciergeWatchdog (t : Nat) (pc : Word) (s : State) : Host.Outcome State Fault Refusal :=
  .next <|
    let s := s.advanceTo t
    if s.boot.phase = .inReset || !s.elapsed 0 (edgesMs 100) then s
    else ((s.raiseOpen 252 pc.toNat).snapRequest 7 0 none).resetAfter .afterSnapshot

end Sys2Proof.Machine
end

