-- ==== Sys2Proof/Machine/WallBus.lean ====
section
/-!
DEFINITION. The wall bus (R357–R379, R483): frames, roster, messages, authentication, violations, the TRACK bound, STATUS.
-/
namespace Sys2Proof.Machine

/-! ### Settings (R358–R363) -/

def State.inHarbour (s : State) : Bool := s.boot.phase == .safeHarbour

/-- The WALLBUS record in use: none in safe harbour. -/
def State.wallRec (s : State) : Option WallRec := if s.inHarbour then none else s.itin.wall

def State.roster (s : State) : List RosterEntry := (s.wallRec.map (·.roster)).getD []

/-- Own node number. -/
def State.ownNode (s : State) : Nat := (s.wallRec.map (·.nodeId)).getD 0

/-- Own frame limit (R360): that of the own entry. DESIGN CHOICE (log 211): the default limit under a WALLBUS record that lacks
the entry, and the longest frame of R359 where there is no roster at all (R362). -/
def State.ownLimit (s : State) : Nat :=
  match s.roster.find? fun e => e.mac = s.wall.mac with
  | some e => e.limit
  | none => if s.wallRec.isSome then 256 else 1538

/-- The MAC address without a WALLBUS record (R362). -/
def State.dieMac (s : State) : BitVec 48 :=
  BitVec.ofNat 48 (0x024B4D * 2 ^ 24 + Config.dieUid.toNat % 2 ^ 24 / 16 * 16 + s.tileId)

/-! ### The PHY (R357) -/

/-- The Clause 22 frames of one write of the WALLBUS record: the write itself, or an MMD access through registers 13 and 14,
which select the device and its register before the data. PRESUMED (log 212): the order and codes of IEEE 802.3. -/
def PhyWrite.frames (w : PhyWrite) (phy : Nat) : List MdioWrite :=
  if w.mmd then
    [⟨phy, 13, w.regOrDev % 32⟩, ⟨phy, 14, w.mmdReg⟩, ⟨phy, 13, 2 ^ 14 + w.regOrDev % 32⟩, ⟨phy, 14, w.value⟩]
  else [⟨phy, w.regOrDev, w.value⟩]

/-- The 64 bits of an MDIO frame, first sent first: preamble, start, write, PHY, register, turnaround, data (log 212). -/
def MdioWrite.wireBits (m : MdioWrite) : BitVec 64 :=
  BitVec.ofNat 32 0xFFFFFFFF ++ 0b0101#4 ++ BitVec.ofNat 5 m.phy ++ BitVec.ofNat 5 m.reg ++ 0b10#2 ++ BitVec.ofNat 16 m.value

/-- Writes sent to the PHY in order. -/
def State.sendMdio (s : State) (phy : Nat) (ws : List PhyWrite) : State :=
  { s with wall := { s.wall with mdio := s.wall.mdio ++ ws.flatMap (·.frames phy) } }

/-! ### Own frames (R364, R366) -/

/-- Bytes on the wire of a frame with so many payload bytes (R360). -/
def wireBytes (n : Nat) : Nat := max 46 n + 38

/-- A message of the tile as a frame; none over the tile's own limit. -/
def State.ownFrame (s : State) (dst : BitVec 48) (type flags : Nat) (seq : BitVec 16) (body : Bytes) : Option Frame :=
  let p := toLe 1 1 ++ toLe 1 type ++ toLe 1 s.ownNode ++ toLe 1 0xFF ++ toLe 1 flags ++ zeros 1 ++ toLe 2 seq.toNat ++
    toLe 2 body.length ++ zeros 2 ++ body
  if s.ownLimit < wireBytes p.length then none
  else some { dst, src := s.wall.mac, etype := s.wall.etype, payload := p ++ zeros (46 - p.length), wire := wireBytes p.length }

/-- The tile's next number. -/
def State.nextSeq (s : State) : BitVec 16 × State :=
  (s.wall.seq, { s with wall := { s.wall with seq := s.wall.seq + 1 } })

/-- A frame put at the end of a class of own frames. -/
def State.queueFrame (s : State) (f : Option Frame) (put : Wall → List Frame → Wall) : State :=
  if s.wall.up then { s with wall := put s.wall f.toList } else s

/-- A reply to a request (R366, R371, R373, R374). -/
def State.reply (s : State) (f : Frame) (type : Nat) (body : Bytes) : State :=
  s.queueFrame (s.ownFrame f.src type 1 (BitVec.ofNat 16 (leAt f.payload 6 2)) body)
    fun w fs => { w with txReply := w.txReply ++ fs }

def broadcastMac : BitVec 48 := 0xFFFFFFFFFFFF

/-- The queued frame that goes next, and the queues without it: pushes, complaints, replies, periodic STATUS (R366). -/
def Wall.nextFrame (w : Wall) : Option (Frame × Wall) :=
  match w.txPush, w.txComplaint, w.txReply, w.txStatus with
  | f :: fs, _, _, _ => some (f, { w with txPush := fs })
  | [], f :: fs, _, _ => some (f, { w with txComplaint := fs })
  | [], [], f :: fs, _ => some (f, { w with txReply := fs })
  | [], [], [], f :: fs => some (f, { w with txStatus := fs })
  | [], [], [], [] => none

/-- A frame goes on the wire; a STATUS carries TIME_NS at its SFD (R371). -/
def State.putFrame (s : State) (f : Frame) : State :=
  let f := if leAt f.payload 1 1 = 0x02 then { f with payload := splice f.payload 12 (toLe 8 s.timeNs) } else f
  { s with wall := { s.wall with sent := some f } }

/-! ### The TRACK bound (R378, R379) -/

/-- A case that voids the bound. -/
def State.voidBound (s : State) : State :=
  let s := { s with wall := { s.wall with lastVoid := s.now } }
  if s.fld WBS_STAT_bound_void = 1 then s else (s.setFld WBS_STAT_bound_void 1).raise 123 1 1

/-- BOUND_RESTORE: 1 s without any case. -/
def execBoundRestore (t : Nat) (s : State) : Host.Outcome State Fault Refusal :=
  .next <|
    let s := s.advanceTo t
    if s.fld WBS_STAT_bound_void = 1 && s.fld WBS_STAT_plca_ok = 1 && s.elapsed s.wall.lastVoid (edgesS 1) then
      (s.setFld WBS_STAT_bound_void 0).raise 123 0 0
    else s

/-- COLLISION_SEEN (R379). -/
def execCollisionSeen (t : Nat) (s : State) : Host.Outcome State Fault Refusal :=
  .next <|
    let s := s.advanceTo t
    if s.wall.up then s.voidBound else s

/-- PLCA status (R358): the sublayer falls back to CSMA/CD while it is not OK. -/
def State.plcaStatus (s : State) (ok : Bool) : State :=
  let s := (s.setFld WBS_STAT_plca_ok (b2n ok)).setFld WBS_STAT_fallback (b2n !ok)
  let s := s.raiseOpen 120 (b2n ok)
  if ok then { s with wall := { s.wall with lastVoid := s.now } } else s.voidBound

/-- PLCA_STATUS_CHANGE. -/
def execPlcaStatusChange (t : Nat) (ok : Bool) (s : State) : Host.Outcome State Fault Refusal :=
  .next <|
    let s := s.advanceTo t
    if !s.wall.up || !s.wall.plca || s.fld WBS_STAT_plca_ok = b2n ok then s else s.plcaStatus ok

/-- Does a frame on the wire break the bound by itself: over the limit of the opportunity's node, not from its address, a
second one? -/
def State.breaksBound (s : State) (f : Frame) : Bool :=
  match f.opNode with
  | none => false
  | some n =>
    f.second ||
      match s.roster.find? fun e => e.node = n.val with
      | none => true
      | some e => decide (e.limit < f.wire) || e.mac != f.src

/-! ### Senders, violations, complaints (R376, R377) -/

/-- The key of a sender: its node, or its address without a roster. -/
def State.senderKey (s : State) (f : Frame) : Nat :=
  match s.roster.find? fun e => e.mac = f.src with
  | some e => e.node
  | none => 64 + f.src.toNat

/-- The node that events name. -/
def State.senderNode (s : State) (f : Frame) : Nat :=
  match s.roster.find? fun e => e.mac = f.src with
  | some e => e.node
  | none => leAt f.payload 2 1 % 32

def State.sender (s : State) (k : Nat) : NodeSt := Sparse.getD s.wall.nodes k {}
def State.setSender (s : State) (k : Nat) (x : NodeSt) : State :=
  { s with wall := { s.wall with nodes := Sparse.set s.wall.nodes k x } }

/-- A COMPLAINT to the offender, at most one per code and sender in 100 ms. -/
def State.wallComplain (s : State) (f : Frame) (code : Nat) : State :=
  let k := s.senderKey f
  let x := s.sender k
  let (n, last) := Sparse.getD x.complaints code (0, none)
  if last.any fun t => !s.elapsed t (edgesMs 100) then
    s.setSender k { x with complaints := Sparse.set x.complaints code (n + 1, last) }
  else
    let s := s.setSender k { x with complaints := Sparse.set x.complaints code (0, some s.now) }
    let body := toLe 1 code ++ toLe 2 (min (n + 1) 0xFFFF) ++ zeros 1 ++ toLe 8 s.timeNs ++ f.payload.take 12
    let (seq, s) := s.nextSeq
    s.queueFrame (s.ownFrame f.src 0x08 0 seq body) fun w fs => { w with txComplaint := w.txComplaint ++ fs }

/-- A counted violation: its event, its answer; more than 64 in 1 s quarantine the sender. -/
def State.wallViolation (s : State) (f : Frame) (code : Nat) : State :=
  let node := s.senderNode f
  let s := s.incFld ⟨WBS_VIOL, 31, 0⟩ 1
  let s := s.raiseOpen (if code = 6 || code = 7 then 124 else 122) (code * 2 ^ 24 + node * 2 ^ 8)
  let s := s.wallComplain f code
  let k := s.senderKey f
  let x := s.sender k
  let recent := (x.violations.filter fun t => decide (s.now < t + edgesS 1)) ++ [s.now]
  if 64 < recent.length then
    (s.setSender k { x with violations := [], quarantine := some (s.now + edgesS 10) }).raiseOpen 125 (node * 2 ^ 8)
  else s.setSender k { x with violations := recent }

def State.inQuarantine (s : State) (k : Nat) : Bool := (s.sender k).quarantine.any fun t => decide (s.now < t)

/-- QUARANTINE_END (R377): 10 s after it began. -/
def execQuarantineEnd (t : Nat) (node : Fin 32) (s : State) : Host.Outcome State Fault Refusal :=
  .next <|
    let s := s.advanceTo t
    let x := s.sender node.val
    if x.quarantine.any fun t => decide (t ≤ s.now) then s.setSender node.val { x with quarantine := none } else s

/-- A stranger's frame (R361). -/
def State.stranger (s : State) : State :=
  let recent := (s.wall.strangers.filter fun t => decide (s.now < t + edgesS 1)) ++ [s.now]
  let s := (s.incFld ⟨WBS_STRANGER, 31, 0⟩ 1)
  let s := { s with wall := { s.wall with strangers := recent } }
  if s.wall.strangerAt.any fun t => !s.elapsed t (edgesS 1) then s
  else ({ s with wall := { s.wall with strangerAt := some s.now } }).raiseOpen 121 recent.length

/-! ### Authentication (R363, R375, R466) -/

/-- The key that authenticates commands and staging. -/
def State.authKey (s : State) : Option Bytes :=
  match s.wallRec with
  | some r => some r.key
  | none => s.boot.otp.safeKey

/-- Is a message without a key accepted (R466)? -/
def State.openHarbour (s : State) : Bool := s.inHarbour && s.fld CFG_STRAPS_boot_safe = 1

/-- The result for a message that ends with its trailer: 0, or the violation 6 or 7. -/
def State.authCheck (s : State) (msg : Bytes) (last : Option Nat) : Nat :=
  let n := msg.length
  let counter := leAt msg (n - 32) 8
  let time := leAt msg (n - 24) 8
  let tagOk := match s.authKey with
    | some k => (hmacSha256 k (msg.take (n - 16))).take 16 == msg.drop (n - 16)
    | none => s.openHarbour
  let timeOk := s.inHarbour || (decide (time ≤ s.timeNs + 1000000000) && decide (s.timeNs ≤ time + 1000000000))
  if !tagOk then 6
  else if last.any (fun c => decide (counter ≤ c)) || !timeOk then 7
  else 0

/-- The counter in a message's trailer. -/
def trailerCounter (msg : Bytes) : Nat := leAt msg (msg.length - 32) 8

/-! ### Receiving (R359–R365, R377) -/

/-- A message that has passed the checks of every message. -/
structure WallMsg where
  type : Nat
  body : Bytes
  frame : Frame
  deriving DecidableEq, Repr

/-- The type with the code of a COMMAND or the op of an NVMSTAGE: which command delivers a frame; 0 for one of no kind. -/
def frameKind (f : Frame) : Nat :=
  let type := leAt f.payload 1 1
  let sub := leAt f.payload 12 1
  if type = 1 || type = 3 || type = 5 then type
  else if type = 7 && 1 ≤ sub && sub ≤ 3 then 0x70 + sub
  else if type = 6 && 1 ≤ sub && sub ≤ 5 then 0x60 + sub
  else 0

/-- May a type come from a sender's roles (R365)? -/
def roleAllows (e : RosterEntry) (type : Nat) : Bool :=
  if type = 1 then e.tracker
  else if type = 3 || type = 5 || type = 6 || type = 7 then e.host
  else e.tile

/-- Header fields against R364. -/
def msgHeaderBad (f : Frame) (e : Option RosterEntry) : Bool :=
  let p := f.payload
  p.length < 12 || leAt p 0 1 != 1 || 1 < leAt p 4 1 || !zeroAt p 5 1 || !zeroAt p 10 2 ||
    e.any fun x => x.node != leAt p 2 1

/-- A staging message with its trailer against the lengths of R470. -/
def stageLengthBad (b : Bytes) : Bool :=
  let op := leAt b 0 1
  let d := leAt b 8 2
  b.length < 44 || b.length != 44 + d || (op == 1 && d != 8) || (op == 2 && (d == 0 || decide (1024 < d))) ||
    (decide (3 ≤ op) && decide (op ≤ 5) && d != 0)

/-- The body's length against the frame and the type. -/
def lengthBad (f : Frame) : Bool :=
  let p := f.payload
  let type := leAt p 1 1
  let n := leAt p 8 2
  let fits := 12 + n = p.length || (p.length = 46 && 12 + n ≤ 46 && zeroAt p (12 + n) (34 - n))
  !fits ||
    (if type = 1 then n < 12 || n != 12 + 16 * leAt p 20 1
     else if type = 2 then n != 144
     else if type = 4 then n < 8 || 12 < leAt p 16 1 || n != 8 + 16 * leAt p 16 1
     else if type = 8 then n != 24
     else if type = 3 || type = 5 then n != 8
     else if type = 7 then n != 40
     else if type = 6 then stageLengthBad (slice p 12 n)
     else false)

/-- What a frame that names no stranger and breaks no MAC rule does: the message, if it is one to act on. -/
def State.wallMessage (s : State) (f : Frame) : State × Option WallMsg :=
  let p := f.payload
  let e := s.roster.find? fun x => x.mac = f.src
  let type := leAt p 1 1
  let dst := leAt p 3 1
  let k := s.senderKey f
  if s.inQuarantine k then (s.setSender k { s.sender k with ignored := (s.sender k).ignored + 1 }, none)
  else if !(dst = s.tileId || dst = 0xFF) then (s, none)
  else if e.any fun x => decide (x.limit < f.wire) then (s.wallViolation f 1, none)
  else if msgHeaderBad f e then (s.wallViolation f 2, none)
  else if type = 0 || 8 < type then (s.wallViolation f 3, none)
  else if lengthBad f then (s.wallViolation f 4, none)
  else if e.any fun x => !roleAllows x type then (s.wallViolation f 5, none)
  else
    let msg := p.take (12 + leAt p 8 2)
    if type = 6 || type = 7 then
      match s.authCheck msg (s.sender k).counter with
      | 0 =>
        let s := s.setSender k { s.sender k with counter := some (trailerCounter msg) }
        let code := leAt p 12 1
        if type = 7 && (code = 0 || 3 < code) then (s.wallViolation f 9, none)
        else (s, some { type, body := msg.drop 12, frame := f })
      | code => (s.wallViolation f code, none)
    else (s, some { type, body := msg.drop 12, frame := f })

/-- A frame received (R359–R361, R379). -/
def State.wallReceive (s : State) (f : Frame) : State × Option WallMsg :=
  if !s.wall.up || s.pd 44 != 2 then (s, none)
  else
    let s := if s.breaksBound f then s.voidBound else s
    if !f.fcsOk || f.wire < 84 || 1538 < f.wire then (s.incFld ⟨WBS_FCS, 31, 0⟩ 1, none)
    else if !(f.dst = s.wall.mac || f.dst = broadcastMac) || f.etype != s.wall.etype then (s, none)
    else if !s.roster.isEmpty && !s.roster.any (fun e => e.mac = f.src) then (s.stranger, none)
    else s.wallMessage f

/-- What every command with a frame of a kind does: a frame of another command's kind is not this event. -/
def State.wallCommand (s : State) (kind : Nat) (f : Frame) (act : State → WallMsg → State) : State :=
  if frameKind f != kind && frameKind f != 0 then s
  else
    match s.wallReceive f with
    | (s, some m) => if frameKind f = kind then act s m else s
    | (s, none) => s

/-! ### TRACK (R368) -/

/-- Eye e of a TRACK body; one that is present with confidence 0 counts as absent (R369). -/
def trackEye (b : Bytes) (e : Nat) : Option Eye :=
  let a := 12 + 8 * e
  if e < 2 * leAt b 8 1 && bit (leAt b (a + 7) 1) 0 && 0 < leAt b (a + 6) 1 then
    some { x := leSigned b a 2, y := leSigned b (a + 2) 2, z := leSigned b (a + 4) 2, conf := leAt b (a + 6) 1 }
  else none

/-- An accepted TRACK is held as a candidate for the position sets. -/
def State.takeTrack (s : State) (m : WallMsg) : State :=
  let meas := leAt m.body 0 8
  if 8 < leAt m.body 8 1 || s.timeNs + 1000000 < meas then s.wallViolation m.frame 8
  else if s.inHarbour then s
  else
    let x : TrackMsg := { meas, receipt := s.timeNs, eyes := (List.range 16).map (trackEye m.body) }
    ({ s with wall := { s.wall with tracks := s.wall.tracks ++ [x] } }).incFld ⟨WBS_TRACK, 31, 0⟩ 1

/-- TRACK. -/
def execTrack (t : Nat) (f : Frame) (s : State) : Host.Outcome State Fault Refusal :=
  .next ((s.advanceTo t).wallCommand 1 f State.takeTrack)

/-! ### LOGREQ and LOGDATA (R372, R482, R483) -/

/-- The number of the oldest entry held. -/
def State.oldestEntry (s : State) : Nat := (s.reg GBK_HEAD).toNat - 8192

/-- An answer to a LOGREQ; one from the same node ends the previous answer. -/
def State.takeLogreq (s : State) (m : WallMsg) : State :=
  let first := leAt m.body 0 4
  let count := leAt m.body 4 2
  if count = 0 || 8192 < count then s.wallViolation m.frame 9
  else
    let head := (s.reg GBK_HEAD).toNat
    let next := max first s.oldestEntry
    let x : LogAnswer :=
      { dest := m.frame.src, seq := BitVec.ofNat 16 (leAt m.frame.payload 6 2), next
        left := min count (head - next), overwritten := decide (first < s.oldestEntry) }
    { s with wall := { s.wall with logs := s.wall.logs.filter (·.dest != m.frame.src) ++ [x] } }

/-- LOGREQ. -/
def execLogreq (t : Nat) (f : Frame) (s : State) : Host.Outcome State Fault Refusal :=
  .next ((s.advanceTo t).wallCommand 3 f State.takeLogreq)

/-- Entries in one LOGDATA frame under the tile's own limit. -/
def State.logEntries (s : State) : Nat := max 1 (min 12 ((s.ownLimit - 58) / 16))

/-- The bytes of a Guestbook entry. -/
def entryBytes (g : GbEntry) : Bytes := [g.w0, g.w1, g.w2, g.w3].flatMap fun (w : Word) => toLe 4 w.toNat

/-- The next LOGDATA frame of the answer that began first goes on the wire. -/
def State.sendLogdata (s : State) (x : LogAnswer) (rest : List LogAnswer) : State :=
  -- entries overwritten since are skipped
  let lost := min x.left (s.oldestEntry - x.next)
  let next := x.next + lost
  let n := min s.logEntries (x.left - lost)
  let left := x.left - lost - n
  let gap := x.overwritten || lost != 0
  let es := (List.range n).flatMap fun i => entryBytes (Sparse.getD s.evt.book ((next + i) % 8192) zeroEntry)
  let body := toLe 4 next ++ toLe 1 n ++ toLe 1 (b2n (left = 0) + 2 * b2n gap) ++ zeros 2 ++ es
  let s := (s.ownFrame x.dest 0x04 1 x.seq body).elim s s.putFrame
  let more : List LogAnswer := if left = 0 then [] else [{ x with next := next + n, left, overwritten := false }]
  { s with wall := { s.wall with logs := more ++ rest } }

/-- LOGDATA (R366, R372): a transmit opportunity takes one frame, that of the highest class with one; a LOGDATA frame goes
when no other class has any. -/
def execLogdata (t : Nat) (s : State) : Host.Outcome State Fault Refusal :=
  .next <|
    let s := s.advanceTo t
    if !s.wall.up || s.pd 44 != 2 then s
    else
      match s.wall.nextFrame, s.wall.logs with
      | some (f, w), _ => ({ s with wall := w }).putFrame f
      | none, x :: rest => s.sendLogdata x rest
      | none, [] => s

/-! ### REGREAD (R373) -/

def State.takeRegread (s : State) (m : WallMsg) : State :=
  let count := leAt m.body 4 1
  if count = 0 || 32 < count then s.wallViolation m.frame 9
  else
    let (ws, s) := s.readWords .wallBus (leAt m.body 0 4) count
    s.reply m.frame 0x05 (m.body.take 8 ++ ws.flatMap (fun (k, _) => toLe 1 k) ++ ws.flatMap fun (_, v) => toLe 4 v.toNat)

/-- REGREAD. -/
def execRegread (t : Nat) (f : Frame) (s : State) : Host.Outcome State Fault Refusal :=
  .next ((s.advanceTo t).wallCommand 5 f State.takeRegread)

/-! ### COMMAND (R374) -/

/-- The reply to a COMMAND, and EV126 if it is accepted. -/
def State.answerCommand (s : State) (m : WallMsg) (result : Nat) : State :=
  let b := m.body
  let s := s.reply m.frame 0x07 (b.take 1 ++ toLe 1 result ++ zeros 2 ++ toLe 8 (trailerCounter b))
  if result = 0 then s.raiseOpen 126 (leAt b 0 1 * 2 ^ 8 + leAt b 1 1) else s

/-- The argument and the output of a COMMAND. -/
def orderOut (m : WallMsg) : Nat := leAt m.body 1 1
def orderArg (m : WallMsg) : Nat := leAt m.body 4 4

/-- RESTART (R374): at once, as RESET_N. -/
def execRestart (t : Nat) (f : Frame) (s : State) : Host.Outcome State Fault Refusal :=
  .next <| (s.advanceTo t).wallCommand 0x71 f fun s m =>
    if orderOut m != 0 || orderArg m != 0 then s.answerCommand m 1
    else (s.answerCommand m 0).resetAfter .resetN

/-- SELECT_PLAYBACK (R213): at the tick that R24 gives. -/
def execSelectPlayback (t : Nat) (f : Frame) (s : State) : Host.Outcome State Fault Refusal :=
  .next <| (s.advanceTo t).wallCommand 0x72 f fun s m =>
    let list := orderArg m % 256
    if s.inHarbour then s.answerCommand m 2
    else if 3 < orderOut m || (15 < list && list != 0xFF) then s.answerCommand m 1
    else
      let o : Output := Fin.ofNat 4 (orderOut m)
      if !s.scanning o || (list != 0xFF && (s.playlistBase list).isNone) then s.answerCommand m 2
      else (s.answerCommand m 0).pend o (.playback (if list = 0xFF then none else some list))

/-- BRIGHTNESS_SCALE (R84): RAY_BRIGHT written, in effect from the next tick. -/
def execBrightnessScale (t : Nat) (f : Frame) (s : State) : Host.Outcome State Fault Refusal :=
  .next <| (s.advanceTo t).wallCommand 0x73 f fun s m =>
    if s.inHarbour then s.answerCommand m 2
    else if 3 < orderOut m && orderOut m != 0xFF then s.answerCommand m 1
    else
      let outs := if orderOut m = 0xFF then allOutputs else [Fin.ofNat 4 (orderOut m)]
      outs.foldl (fun (s : State) o => s.setFld (RAY_BRIGHT_scale o.val) (orderArg m)) (s.answerCommand m 0)

/-- STRANGER_FRAME (R361): a frame whose source is not on the roster. -/
def execStrangerFrame (t : Nat) (f : Frame) (s : State) : Host.Outcome State Fault Refusal :=
  .next <|
    let s := s.advanceTo t
    if s.roster.isEmpty || s.roster.any (fun e => e.mac = f.src) then s else (s.wallReceive f).1

/-! ### STATUS (R367, R371) -/

/-- STATUS flags. -/
def State.statusFlags (s : State) : Nat :=
  bitsNat [s.inHarbour, s.frozen, s.fld TIM_STAT_state = 2, s.fld TIM_STAT_state = 3, s.fld WBS_STAT_bound_void = 1,
    allOutputs.any fun o => s.fld (PTR_OUT_ADM_void o.val) = 1, s.fld PWR_BRACE_alert = 1, s.boot.dramFailed, s.onXtal = 1] +
    (match s.engineClock with | 5 => 0 | 4 => 1 | _ => 2) * 2 ^ 9

/-- The part of output o. -/
def State.statusOut (s : State) (o : Output) : Bytes :=
  let st := s.fld (SCN_OUT_STAT_state o.val)
  toLe 4 (s.fld (SCN_FRAME_counter o.val)) ++ toLe 4 (if st = 0 then 0 else s.periodNs o) ++
    toLe 4 (st + s.fld (PTR_OUT_ADM_cand o.val) * 2 ^ 8 + s.fld (PNL_BAND_band o.val) * 2 ^ 16 +
      s.fld (SCN_OUT_STAT_static o.val) * 2 ^ 24 + b2n (s.playing o) * 2 ^ 25 + s.fld (RAY_TRACK_STAT_stale o.val) * 2 ^ 26 +
      s.fld (PTR_OUT_ADM_void o.val) * 2 ^ 27) ++
    toLe 4 (s.fld (SCN_UNDR_LAST_count o.val))

/-- The STATUS body. -/
def State.statusBody (s : State) (push : Option (BitVec 16)) : Bytes :=
  toLe 8 s.timeNs ++ toLe 1 s.tileId ++ toLe 1 (b2n push.isSome) ++ toLe 2 ((push.map (·.toNat)).getD 0) ++
    toLe 4 s.statusFlags ++ toLe 2 (s.fld THM_MAX_max) ++ toLe 1 s.clusters.length ++ zeros 1 ++
    toLe 4 (s.reg TIM_OFFSET).toNat ++ allOutputs.flatMap s.statusOut ++
    toLe 4 (s.reg PWR_EACC_SERIAL).toNat ++ toLe 4 (s.reg PWR_EACC_RAYS_LO).toNat ++ toLe 4 (s.reg PWR_EACC_RAYS_HI).toNat ++
    toLe 4 (s.reg PWR_EACC_TOTAL).toNat ++ toLe 2 (s.fld PWR_EACC_PER_RAY_pj_per_ray) ++
    toLe 2 (s.fld PWR_EACC_PER_RAY_no_rays) ++ (List.range 9).flatMap fun i => toLe 4 (s.reg (PWR_EACC_BLOCK i)).toNat

/-- A STATUS on each path that is up. -/
def State.sendStatus (s : State) (push : Option (BitVec 16)) : State :=
  let body := s.statusBody push
  let (seq, s) := s.nextSeq
  let f := s.ownFrame broadcastMac 0x02 0 seq body
  let s := s.queueFrame f fun w fs =>
    if push.isSome then { w with txPush := w.txPush ++ fs } else { w with txStatus := w.txStatus ++ fs }
  if s.hopState .up = 2 then s.sendUp 0x43 0 body else s

/-- STATUS_PERIODIC (R367): every status_n ticks of the lowest-numbered active output, or every 100 ms with none. -/
def execStatusPeriodic (t : Nat) (s : State) : Host.Outcome State Fault Refusal :=
  .next <|
    let s := s.advanceTo t
    let due := match s.lowestActive with
      | some _ => max 1 s.wall.statusN ≤ s.wall.ticksSince
      | none => s.elapsed s.wall.lastPeriodic (edgesMs 100)
    if !due then s
    else ({ s with wall := { s.wall with ticksSince := 0, lastPeriodic := s.now } }).sendStatus none

/-- STATUS_PUSH (R367): the latest event routed to a push; at most one push every 10 ms. -/
def execStatusPush (t : Nat) (s : State) : Host.Outcome State Fault Refusal :=
  .next <|
    let s := s.advanceTo t
    match s.evt.push with
    | none => s
    | some code =>
      if s.wall.lastPush.any fun e => !s.elapsed e (edgesMs 10) then s
      else
        let s := { s with evt := { s.evt with push := none }, wall := { s.wall with lastPush := some s.now } }
        s.sendStatus (some code)

end Sys2Proof.Machine
end

