-- ==== Sys2Proof/Machine/Camera.lean ====
section
/-!
DEFINITION. Camera ports (R380–R397): frame windows, packets, sensor scripts, the ISP's line service, capture rows and legs,
taps and statistics.
-/
namespace Sys2Proof.Machine

/-- Is a port enabled and its domain on? -/
def State.camOn (s : State) (p : Port) : Bool := s.fld (CAM_P_STAT_state p.val) != 0 && s.pd 36 = 2

def State.updCam (s : State) (p : Port) (f : Cam → Cam) : State := s.setCam p (f (s.cam p))

def State.updFrame (s : State) (p : Port) (f : CamFrame → CamFrame) : State :=
  s.updCam p fun c => { c with frame := c.frame.map f }

def State.ispRec (s : State) (p : Port) : IspRec := (s.itin.isp[p]).getD {}

/-- The marks of R386. -/
def mkShort : BitVec 10 := 1
def mkLong : BitVec 10 := 2
def mkOverrun : BitVec 10 := 4
def mkCrc : BitVec 10 := 8
def mkEcc : BitVec 10 := 16
def mkMalformed : BitVec 10 := 32
def mkLate : BitVec 10 := 64
def mkMissing : BitVec 10 := 128
def mkRingFull : BitVec 10 := 512

/-- The open frame marked. -/
def State.markFrame (s : State) (p : Port) (m : BitVec 10) : State := s.updFrame p fun f => { f with marks := f.marks ||| m }

/-! ### The frame that the ISP processes -/

/-- A capture frame as the stages see it; before its last line is taken only what the taken lines fix is used. -/
def State.ispFrame (s : State) (p : Port) (f : CamFrame) : IspFrame :=
  { cam := s.camRec p, isp := s.ispRec p, wb := f.wb, rows := f.rows, lines := f.rows.length }

/-- Have all lines of a frame been taken: the image has its full height, or the frame has closed? -/
def State.allTaken (s : State) (p : Port) (f : CamFrame) (closed : Bool) : Bool :=
  f.rows.length = f.lines && (closed || f.imageEnd || (s.camRec p).height ≤ f.lines)

/-- Rows that are complete are written to CAP, and complete legs become capture waybills (R183, R392, R396); not during a freeze
(R246, R397). The formulas of a row reach 7 rows below it: until those have been taken the row holds what the taken ones give,
and it is written again with each line (assumption log 205). What a freeze keeps from CAP is lost: no leg holds those rows, and
the frame is not tapped (assumption log 213). -/
def State.writeRows (s : State) (p : Port) (f : CamFrame) (closed : Bool) : State × CamFrame :=
  let c := s.camRec p
  let img := s.ispFrame p f
  let all := s.allTaken p f closed
  let done := img.complete f.rows.length 2 all
  let fixed := max f.outRows (img.complete f.rows.length 7 all)
  let rows := max 1 c.legRows
  if s.frozen then
    (s, { f with
      outRows := fixed, done, taps := []
      legRow := if f.done < done then max f.legRow (min c.outHeight (ceilDiv done rows * rows)) else f.legRow })
  else
    let s := s.updCam p fun x => { x with
      outRows := ((List.range done).drop f.outRows).foldl (fun m j => Sparse.set m (f.gen.toNat * 65536 + j) (img.outRow j)) x.outRows }
    let f := { f with outRows := fixed, done }
    if !c.encode then (s, f)
    else
      let whole := (done - f.legRow) / rows
      let rest := (done - f.legRow) % rows
      let last := (all || done = c.outHeight) && rest != 0
      let legs : List CapLeg := (List.range whole).map (fun i => { port := p, gen := f.gen, row := f.legRow + i * rows, rows }) ++
        (if last then [{ port := p, gen := f.gen, row := f.legRow + whole * rows, rows := rest }] else [])
      let s := s.updCam p fun x => { x with
        ring := x.ring.map fun r => if r.gen = f.gen && r.writing then { r with legs := r.legs + legs.length } else r }
      (legs.foldl State.readyC s, { f with legRow := f.legRow + whole * rows + (if last then rest else 0) })

/-- A closed frame whose lines are all taken: its last rows and legs, its buffer, its taps and its statistics (R386, R394,
R396). -/
def State.finishFrame (s : State) (p : Port) (f : CamFrame) : State :=
  let (s, f) := s.writeRows p f true
  let img := s.ispFrame p f
  let s := s.updCam p fun x => { x with ring := x.ring.map fun r => if r.gen = f.gen then { r with writing := false } else r }
  let s := s.freeRing p
  if s.frozen || f.discard || f.lines = 0 then s
  else
    let marks := f.marks.toNat
    let taps := f.taps.map fun (k, b) =>
      TapBuf.mk k b f.gen (img.tapBytes k f.gen marks) ((s.ispRec p).taps.getD k {}).send 0
    let s := s.updCam p fun x => { x with
      taps := x.taps.filter (fun y => !f.taps.contains (y.tap, y.buffer)) ++ taps }
    let record := img.statistics s.fresh
    let s := { s with fresh := s.fresh + statisticsFree }
    (s.updCam p fun x => { x with stats := x.stats ++ [(f.gen, record)] }).readyD (.stats p)

/-- The open frame closes with further marks (R386): the registers of the last closed frame, the event, and what is left to
the ISP. -/
def State.closeFrame (s : State) (p : Port) (more : BitVec 10) : State :=
  match (s.cam p).frame with
  | none => s
  | some f =>
    let short := if f.arrived < (s.camRec p).height then mkShort else 0
    let f := { f with marks := f.marks ||| more ||| short }
    let s := (s.setFld (CAM_P_STAT_open p.val) 0).setFld (CAM_P_STAT_marks p.val) f.marks.toNat
    let s := (s.setFld (CAM_P_LINES_processed p.val) f.lines).setFld (CAM_P_LINES_dropped p.val) (min 16383 f.dropped)
    let s := if f.marks = 0 then s else s.raise (152 + p.val) 1 (2 ^ 24 + f.marks.toNat)
    let s := s.updCam p fun c => { c with frame := none }
    if f.rows.length = f.lines then s.finishFrame p f
    else s.updCam p fun c => { c with closing := c.closing ++ [f] }

/-- A line of the port dropped (R386, R388, R396). -/
def State.dropLine (s : State) (p : Port) : State :=
  (s.incFld (CAM_P_DROP_count p.val) 1).updFrame p fun f => { f with dropped := f.dropped + 1 }

/-! ### Frame boundaries (R384, R385) -/

/-- The nominal period of an output. -/
def State.nominalPeriod (s : State) (o : Output) : Nat := max 1 (s.outRec o).period

/-- TIME_NS of the next boundary of a port whose output does not tick, and grid instants to it. -/
def State.freeBoundary (s : State) (p : Port) : Nat × Nat :=
  let div := max 1 (s.camRec p).fsyncDiv
  let k := (div - (s.cam p).gridCount % div) % div
  ((s.cam p).nextGrid + k * s.nominalPeriod (s.camOutput p), k)

/-- Does the output of a port tick? -/
def State.paced (s : State) (p : Port) : Bool :=
  s.scanning (s.camOutput p) && (s.out (s.camOutput p)).cycle.ticked

/-- A frame window ends and the next begins. -/
def State.newWindow (s : State) (p : Port) : State :=
  let c := s.cam p
  let s := s.closeFrame p mkLong
  let s :=
    if c.window && !c.started then
      let s := (s.setFld (CAM_P_STAT_marks p.val) mkMissing.toNat).setReg (CAM_P_LINES p.val) 0
      s.raise (152 + p.val) 2 (2 * 2 ^ 24 + mkMissing.toNat)
    else s
  let s := s.wrapFld (CAM_P_FRAME_counter p.val)
  s.updCam p fun c => { c with
    window := true, started := false, boundaryAt := s.now, due := false
    fsyncAt := if (s.camRec p).fsync = 0 then c.fsyncAt else some s.now }

/-- FRAME_BOUNDARY (R384–R386): CAM_FSYNC pulses, the counter increments and the frame window of the port changes. -/
def execFrameBoundary (t : Nat) (p : Port) (s : State) : Host.Outcome State Fault Refusal :=
  .next <|
    let s := s.advanceTo t
    if !s.camOn p then s
    else if s.paced p then (if (s.cam p).due then s.newWindow p else s)
    else
      let (at_, k) := s.freeBoundary p
      if s.timeNs < at_ then s
      else
        (s.updCam p fun c => { c with
          nextGrid := at_ + s.nominalPeriod (s.camOutput p), gridCount := c.gridCount + k + 1 }).newWindow p

/-- Level of CAM_FSYNC[p]: active while its pulse lasts; low when fsync is off (R382, R384). -/
def State.fsyncPin (s : State) (p : Port) : Bool :=
  let r := s.camRec p
  let active := (s.cam p).fsyncAt.any fun t => s.now < t + edgesUs r.fsyncUs
  if r.fsync = 1 then active else if r.fsync = 2 then !active else false

/-! ### Packets (R380, R381, R386) -/

/-- The checks that every packet's header passes; none where it is discarded. -/
def State.packetHeader (s : State) (p : Port) (h : CsiHdr) (dtype : Nat) : Option State × State :=
  match h.ecc with
  | .bad =>
    let s := s.incFld (CAM_P_ECC_uncorrectable p.val) 1
    let s := s.updFrame p fun f => { f with marks := f.marks ||| mkEcc, imageEnd := true, eccN := f.eccN + 1 }
    (none, s)
  | _ =>
    let s := if h.ecc = .corrected then s.incFld (CAM_P_ECC_corrected p.val) 1 else s
    if h.vc.toNat != (s.camRec p).vc || h.dtype.toNat != dtype then (none, s.incFld (CAM_P_DISC_count p.val) 1)
    else (some s, s)

/-- EV152 + p cause 3: 16 CRC errors, or 16 ECC errors, in the frame. -/
def State.noteThreshold (s : State) (p : Port) : State :=
  match (s.cam p).frame with
  | none => s
  | some f =>
    if f.thresholdRaised || (f.crcN < 16 && f.eccN < 16) then s
    else (s.updFrame p fun f => { f with thresholdRaised := true }).raise (152 + p.val) 3 (3 * 2 ^ 24 + f.marks.toNat)

/-- A packet with the header checks around what it does. -/
def State.onPacket (s : State) (p : Port) (h : CsiHdr) (dtype : Nat) (f : State → State) : State :=
  if !s.camOn p then s
  else
    match s.packetHeader p h dtype with
    | (some s, _) => f s
    | (none, s) => s.noteThreshold p

/-- The gains of a port's ISP registers as R, Gr, Gb, B. -/
def State.gains (s : State) (p : Port) : List Nat :=
  [s.fld (ISP_WB_RG_r p.val), s.fld (ISP_WB_RG_g_r p.val), s.fld (ISP_WB_BG_g_b p.val), s.fld (ISP_WB_BG_b p.val)]

/-- Is a tap buffer still held: awaiting sending, its item not gone, or of a frame that is still processed? -/
def State.tapHeld (s : State) (p : Port) (tap buffer : Nat) : Bool :=
  ((s.cam p).taps.any fun x =>
    (x.waiting || decide (s.link.txUp.ownDone < x.sentAt)) && x.tap = tap && x.buffer = buffer) ||
    (s.cam p).closing.any fun f => f.taps.contains (tap, buffer)

/-- The taps that a frame fills (R394): enabled, selected by the decimation, and their next buffer not held. -/
def State.chooseTaps (s : State) (p : Port) (gen : Word) : List (Nat × Nat) :=
  (List.range 4).filterMap fun k =>
    let r := (s.ispRec p).taps.getD k {}
    let b := (s.cam p).tapNext.get (Fin.ofNat 4 k) % max 1 r.ring
    if r.enable && gen.toNat % max 1 r.decimation = 0 && !s.tapHeld p k b then some (k, b) else none

/-- A frame opens (R386, R395–R397). -/
def State.openFrame (s : State) (p : Port) : State :=
  let s := s.freeRing p
  let c := s.cam p
  let r := s.camRec p
  let gen := s.reg (CAM_P_FRAME p.val)
  let late := c.boundaryAt + edgesUs r.lateUs < s.now
  let full := s.frozen || c.ring.any fun x => x.buffer = c.nextBuf
  let taps := if full then [] else s.chooseTaps p gen
  let f : CamFrame :=
    { gen, discard := full, buffer := c.nextBuf, wb := s.gains p, taps
      marks := (if late then mkLate else 0) ||| (if full then mkRingFull else 0) }
  let s := s.updCam p fun c => { c with
    frame := some f
    started := true
    ring := if full then c.ring else c.ring ++ [{ buffer := c.nextBuf, gen, legs := 0, writing := true }]
    nextBuf := if full then c.nextBuf else (c.nextBuf + 1) % max 1 r.ring
    tapNext := Vector.ofFn fun k => c.tapNext.get k + b2n (taps.any fun x => x.1 = k.val) }
  let s := s.setFld (CAM_P_STAT_open p.val) 1
  if full then s.raiseOpen 162 p.val else s

/-- FRAME_START (R386): the first one of a window opens the capture frame; one while the frame is open closes it. -/
def execFrameStart (t : Nat) (p : Port) (hdr : CsiHdr) (s : State) : Host.Outcome State Fault Refusal :=
  .next <|
    (s.advanceTo t).onPacket p hdr 0 fun s =>
      let c := s.cam p
      if c.frame.isSome then s.closeFrame p mkMalformed
      else if c.window && !c.started then s.openFrame p
      else s

/-- FRAME_END (R381, R386). -/
def execFrameEnd (t : Nat) (p : Port) (hdr : CsiHdr) (s : State) : Host.Outcome State Fault Refusal :=
  .next <|
    (s.advanceTo t).onPacket p hdr 1 fun s =>
      if (s.cam p).frame.isSome then s.closeFrame p 0 else s.incFld (CAM_P_DISC_count p.val) 1

/-- LINE_START (R380): accepted and ignored. -/
def execLineStart (t : Nat) (p : Port) (hdr : CsiHdr) (s : State) : Host.Outcome State Fault Refusal :=
  .next ((s.advanceTo t).onPacket p hdr 2 id)

/-- LINE_END (R380): accepted and ignored. -/
def execLineEnd (t : Nat) (p : Port) (hdr : CsiHdr) (s : State) : Host.Outcome State Fault Refusal :=
  .next ((s.advanceTo t).onPacket p hdr 3 id)

/-- A sound line arrives in the open frame (R386, R388). -/
def State.takeLine (s : State) (p : Port) (f : CamFrame) (codes : List Nat) : State :=
  let c := s.cam p
  let s := s.updFrame p fun f => { f with arrived := f.arrived + 1 }
  if (s.camRec p).height ≤ f.arrived then (s.dropLine p).markFrame p mkLong
  else if f.discard || f.imageEnd then s.dropLine p
  else if 16 ≤ c.buffer.length then
    let s := (s.dropLine p).updFrame p fun f => { f with imageEnd := true, marks := f.marks ||| mkOverrun }
    s.raiseOpen 160 (p.val + min 65535 (f.dropped + 1) * 2 ^ 16)
  else
    (s.updFrame p fun f => { f with lines := f.lines + 1 }).updCam p fun c => { c with buffer := c.buffer ++ [(f.gen, codes)] }

/-- LONG_PACKET (R381, R386, R388): a line of the port's type, checked and stored, or discarded. -/
def execLongPacket (t : Nat) (p : Port) (hdr : CsiHdr) (payload : Bytes) (crc : BitVec 16) (s : State) :
    Host.Outcome State Fault Refusal :=
  .next <|
    let r := s.camRec p
    (s.advanceTo t).onPacket p hdr r.dtype fun s =>
      if hdr.wc.toNat != r.width * codeBits r.dtype / 8 then
        let s := s.incFld (CAM_P_DISC_count p.val) 1
        s.updFrame p fun f => { f with marks := f.marks ||| mkMalformed, imageEnd := true, arrived := f.arrived + 1 }
      else
        let bad := crcCsi payload != crc
        let s := if bad then s.incFld (CAM_P_CRC_count p.val) 1 else s
        let s := if bad then s.updFrame p fun f => { f with marks := f.marks ||| mkCrc, crcN := f.crcN + 1 } else s
        let s := s.noteThreshold p
        match (s.cam p).frame with
        | none => s.incFld (CAM_P_DROP_count p.val) 1
        | some f => s.takeLine p f (unpackRaw (codeBits r.dtype) r.width payload.toArray)

/-! ### The ISP's line service (R388–R390, R192) -/

/-- The port that the ISP serves next: round robin after the one served last. -/
def State.nextPort (s : State) : Option Port :=
  ((List.range 8).map fun i => (Fin.ofNat 8 (s.isp.last + 1 + i) : Port)).find? fun p => !(s.cam p).buffer.isEmpty

/-- The samples of a line whose 64-bit word `word` is unreadable: four of them are free values. -/
def looseWord (base width word : Nat) (codes : List Nat) : List Nat :=
  codes.zipIdx.map fun (c, i) => if i / 4 = word then (Config.free (base + i % 4)).toNat % 2 ^ width else c

/-- A double-bit error that the taking of a line meets (R209): EV244 and the event of the port. -/
def State.lineHit (s : State) (p : Port) (hit : Option IspHit) (codes : List Nat) : State × List Nat :=
  match hit with
  | none => (s, codes)
  | some h =>
    let alcove := if h.store then s.alStore + h.alcove.val else alCamera + 2 * p.val + h.alcove.val % 2
    let s := s.alcoveLost { alcove, owner := some (s.camOutput p), port := some p }
    let (v, s) := s.take
    let cause := v.toNat % 256
    let s := s.raise (152 + p.val) cause (cause * 2 ^ 24)
    ({ s with fresh := s.fresh + 4 }, looseWord s.fresh (codeBits (s.camRec p).dtype) h.word codes)

/-- ISP_LINE_TAKE (R209, R388): the ISP takes one whole line. -/
def execIspLineTake (t : Nat) (hit : Option IspHit) (s : State) : Host.Outcome State Fault Refusal :=
  .next <|
    let s := s.advanceTo t
    if s.isp.line.isSome || s.pd 36 != 2 then s
    else
      match s.nextPort with
      | none => s
      | some p =>
        match (s.cam p).buffer with
        | [] => s
        | (gen, codes) :: rest =>
          let s := s.updCam p fun c => { c with buffer := rest }
          let (s, codes) := s.lineHit p hit codes
          let s := { s with isp := { line := some (p, gen, codes), last := p.val, paid := 0 } }
          (s.setFld ISP_STAT_busy 1).setFld ISP_STAT_port p.val

/-- Bytes that a line makes the ISP write: the output rows that it completes and its part of the taps. -/
def State.lineBytes (s : State) (p : Port) (f : CamFrame) : Nat :=
  let c := s.camRec p
  let per (n : Nat) : Nat := n * c.outHeight / max 1 c.height
  let k := f.rows.length
  let rows := per (k + 1) - per k
  let tap (x : Nat × Nat) : Nat := c.width * (match x.1 with | 0 => 2 | 1 => 2 | 2 => 6 | _ => 4)
  rows * capWidth c * bppOf c.outFormat + (f.taps.map tap).sum

/-- Tokens that the line in hand needs: one a 64-byte write while class A demand exists (R192); none for what a freeze or a
discarded frame does not write. -/
def State.lineTokens (s : State) (p : Port) (f : CamFrame) : Nat :=
  if s.frozen || f.discard || !s.classADemand then 0 else ceilDiv (s.lineBytes p f) 64

/-- The frame of a port with a capture counter, open or closed. -/
def Cam.frameOf (c : Cam) (gen : Word) : Option CamFrame :=
  (c.closing ++ c.frame.toList).find? fun f => f.gen = gen

/-- A line ends in the ISP: its frame's stages advance. -/
def State.lineDone (s : State) (p : Port) (gen : Word) (codes : List Nat) : State :=
  let add (f : CamFrame) : CamFrame := if f.gen = gen then { f with rows := f.rows ++ [codes] } else f
  let s := s.updCam p fun c => { c with frame := c.frame.map add, closing := c.closing.map add }
  match (s.cam p).closing.find? fun f => f.gen = gen with
  | some f =>
    if f.rows.length = f.lines then
      (s.updCam p fun c => { c with closing := c.closing.filter fun x => x.gen != gen }).finishFrame p f
    else
      let (s, f) := s.writeRows p f true
      s.updCam p fun c => { c with closing := c.closing.map fun x => if x.gen = gen then f else x }
  | none =>
    match (s.cam p).frame with
    | none => s
    | some f =>
      if f.gen != gen then s
      else
        let (s, f) := s.writeRows p f false
        s.updCam p fun c => { c with frame := some f }

/-- ISP_LINE_DONE (R389, R390, R192): the line in hand ends; while tokens for its writes are short the ISP stalls. -/
def execIspLineDone (t : Nat) (s : State) : Host.Outcome State Fault Refusal :=
  .next <|
    let s := s.advanceTo t
    match s.isp.line with
    | none => s
    | some (p, gen, codes) =>
      let need := match (s.cam p).frameOf gen with
        | some f => s.lineTokens p f
        | none => 0
      let give := min (need - s.isp.paid) s.porter.tokC
      let s := { s with porter := { s.porter with tokC := s.porter.tokC - give } }
      if s.isp.paid + give < need then
        ({ s with isp := { s.isp with paid := s.isp.paid + give } }).setFld ISP_STAT_stalled 1
      else
        let s := { s with isp := { s.isp with line := none, paid := 0 } }
        ((s.setFld ISP_STAT_stalled 0).setFld ISP_STAT_busy 0).lineDone p gen codes

/-! ### Taps and statistics (R394, R395) -/

/-- TAP_SEND (R192, R394, R334): the oldest buffer of a tap that awaits sending goes up as one TAP item, once the egress can read
it as class C; it is held until the last wagon of the item has been started. -/
def execTapSend (t : Nat) (p : Port) (tap : Fin 4) (s : State) : Host.Outcome State Fault Refusal :=
  .next <|
    let s := s.advanceTo t
    match (s.cam p).taps.find? fun x => x.waiting && x.tap = tap.val with
    | none => s
    | some b =>
      if s.frozen || !s.hopUsed .up then s
      else
        match s.pay 2 rqEgress (ceilDiv b.bytes.length 64) with
        | (false, s) => s
        | (true, s) =>
          let s := s.sendUp 0x46 p.val b.bytes
          let gone := s.link.txUp.ownDone + s.link.txUp.q2own.length
          s.updCam p fun c => { c with
            taps := c.taps.map fun x => if x = b then { x with waiting := false, sentAt := gone } else x }

/-- STATISTICS_WAYBILL (R191, R192, R394): the record is written to TAP as class D; overlay lists of the same output go before. -/
def execStatisticsWaybill (t : Nat) (p : Port) (s : State) : Host.Outcome State Fault Refusal :=
  .next <|
    let s := s.advanceTo t
    let lists := s.porter.qd.any fun w => match w with
      | .list x _ => x == s.camOutput p
      | _ => false
    match (s.cam p).stats with
    | [] => s
    | (gen, record) :: rest =>
      if s.frozen || lists || !s.porter.qd.contains (ClassD.stats p) then s
      else
        match s.pay 3 rqIsp (ceilDiv record.length 64) with
        | (false, s) => s
        | (true, s) =>
          let s := { s with porter := { s.porter with qd := s.porter.qd.erase (ClassD.stats p) } }
          (s.updCam p fun c => { c with stats := rest, record, aeDue := true }).setReg (ISP_STATS_FRAME p.val) gen

/-! ### Sensor scripts (R387) -/

def State.script (s : State) (p : Port) (k : Nat) : List ScriptStep := s.itin.scripts.toList.getD (4 * p.val + k) []

/-- Steps from the present one on that need no transaction: set CAM_RST_N. The rest of the script. -/
def pinSteps : List ScriptStep → Bool → Nat → List ScriptStep × Bool × Nat
  | [], pin, n => ([], pin, n)
  | x :: xs, pin, n => if x.op = 5 then pinSteps xs (x.value != 0) (n + 1) else (x :: xs, pin, n)

/-- A script has come to its end: INIT has succeeded, and START runs (R387). -/
def State.scriptOver (s : State) (p : Port) (k : Nat) : State :=
  if k != 0 then s
  else
    let s := (s.setFld (CAM_P_STAT_state p.val) 2).raise (152 + p.val) 5 (5 * 2 ^ 24 + s.fld (CAM_P_STAT_marks p.val))
    s.updCam p fun c => { c with todo := (1, []) :: c.todo }

/-- A script at a step: pin steps happen at once; at its end the next waiting script begins. Fuel bounds the scripts run. -/
def State.runScript (s : State) (p : Port) : Nat → Nat → Nat → List Nat → State
  | 0, _, _, _ => s
  | fuel + 1, k, step, ae =>
    let (rest, pin, n) := pinSteps ((s.script p k).drop step) (s.cam p).rstHigh 0
    let s := s.updCam p fun c => { c with rstHigh := pin }
    if rest.isEmpty then
      let s := (s.updCam p fun c => { c with script := none }).scriptOver p k
      match (s.cam p).todo with
      | [] => s
      | (k', ae') :: more => (s.updCam p fun c => { c with todo := more }).runScript p fuel k' 0 ae'
    else s.updCam p fun c => { c with script := some { script := k, step := step + n, ae, since := s.now } }

/-- A script of a port runs, after those that run or wait. -/
def State.beginScript (s : State) (p : Port) (k : Nat) (ae : List Nat) : State :=
  if (s.cam p).script.isSome then s.updCam p fun c => { c with todo := c.todo ++ [(k, ae)] }
  else s.runScript p ((s.cam p).todo.length + 3) k 0 ae

/-- INIT runs on a port. -/
def State.beginInit (s : State) (p : Port) : State :=
  let s := s.setFld (CAM_P_STAT_state p.val) 1
  (s.updCam p fun c => { c with script := none, todo := [], cciFails := 0 }).beginScript p 0 []

/-- An accepted port starts: its grid instants count from here until its output ticks, and INIT runs (R383, R384, R387). -/
def State.startPort (s : State) (p : Port) : State :=
  let o := s.camOutput p
  let s := s.updCam p fun c => { c with nextGrid := gridFrom s.timeNs (s.nominalPeriod o) (s.outRec o).phase, gridCount := 0 }
  let s := s.setFld (CAM_P_STAT_cci p.val) (s.camRec p).cciMaster
  s.beginInit p

/-- 3 failed transactions in a row (R387): the port fails. -/
def State.failPort (s : State) (p : Port) : State :=
  let s := s.setFld (CAM_P_STAT_state p.val) 3
  let s := s.updCam p fun c => { c with rstHigh := false, script := none, todo := [], failedAt := s.now }
  s.raise (152 + p.val) 4 (4 * 2 ^ 24 + s.fld (CAM_P_STAT_marks p.val))

/-- A transaction has failed; the script goes on with the next step unless it was the third in a row. -/
def State.transactionFailed (s : State) (p : Port) (run : ScriptRun) : State :=
  let s := s.updCam p fun c => { c with cciFails := c.cciFails + 1 }
  if 3 ≤ (s.cam p).cciFails then s.failPort p
  else s.runScript p ((s.cam p).todo.length + 3) run.script (run.step + 1) run.ae

/-- A step has succeeded. -/
def State.stepDone (s : State) (p : Port) (run : ScriptRun) : State :=
  s.runScript p ((s.cam p).todo.length + 3) run.script (run.step + 1) run.ae

/-- Does a value read match a step's under its mask and width? -/
def ScriptStep.match_ (x : ScriptStep) (value : BitVec 16) : Bool :=
  let m := BitVec.ofNat 16 (if x.bytes = 1 then x.mask % 256 else x.mask)
  value &&& m == BitVec.ofNat 16 x.value &&& m

/-- What an AE write sends (R387): the value of R394's template shifted, under the mask. -/
def ScriptStep.aeWord (x : ScriptStep) (ae : List Nat) : Nat := Nat.land (ae.getD x.value 0 >>> x.shift) x.mask

/-- CCI_TRANSACTION_DONE (R387): a transaction, wait or poll of the script in progress ends. -/
def execCciTransactionDone (t : Nat) (p : Port) (ack : Bool) (value : BitVec 16) (s : State) :
    Host.Outcome State Fault Refusal :=
  .next <|
    let s := s.advanceTo t
    match (s.cam p).script with
    | none => s
    | some run =>
      match (s.script p run.script)[run.step]? with
      | none => s
      | some x =>
        let good (s : State) : State := (s.updCam p fun c => { c with cciFails := 0 }).stepDone p run
        if x.op = 4 then (if s.elapsed run.since (edgesUs x.value) then s.stepDone p run else s)
        else if !ack then
          if run.retried then s.transactionFailed p run
          else s.updCam p fun c => { c with script := some { run with retried := true } }
        else if x.op = 2 then (if x.match_ value then good s else s.transactionFailed p run)
        else if x.op = 3 then
          if x.match_ value then good s
          else if s.elapsed run.since (edgesMs 100) then s.transactionFailed p run
          else s.updCam p fun c => { c with script := some { run with retried := false } }
        else good s

/-- INIT_RETRY (R387): a failed port runs INIT again 1 s after it failed. -/
def execInitRetry (t : Nat) (p : Port) (s : State) : Host.Outcome State Fault Refusal :=
  .next <|
    let s := s.advanceTo t
    if s.camOn p && s.fld (CAM_P_STAT_state p.val) = 3 && s.elapsed (s.cam p).failedAt (edgesS 1) then s.beginInit p else s

/-- AE_AWB_UPDATE (R395): the Concierge acts on the record last written: the gains are written and the AE script runs. -/
def execAeAwbUpdate (t : Nat) (p : Port) (ae : AeAwb) (s : State) : Host.Outcome State Fault Refusal :=
  .next <|
    let s := s.advanceTo t
    if !s.camOn p || !(s.cam p).aeDue then s
    else
      let s := s.updCam p fun c => { c with aeDue := false }
      let s := (s.setReg (ISP_WB_RG p.val) ae.rg).setReg (ISP_WB_BG p.val) ae.bg
      if s.fld (CAM_P_STAT_state p.val) != 2 then s
      else s.beginScript p 3 [ae.exposure.toNat, ae.analog.toNat, ae.digital.toNat]

end Sys2Proof.Machine
end

