-- ==== Sys2Proof/Machine/EngineInstr.lean ====
section
/-!
DEFINITION. The meanings of the engine's instructions (R110): vector, packed, conversion, compare, predicate and scalar
instructions, local memory, control, and the requests to the shared units, whose results SHARED_UNIT_RESULT delivers.
-/
namespace Sys2Proof.Machine

/-- The target of BRA and LOOP: their own word address plus imm (R112). -/
def branchTarget (g : Engine) (f : Form) : Nat := (((g.pc : Int) + (formOffset f).toInt) % (2 ^ 32 : Nat)).toNat

/-- Is a byte address in local memory (R111)? -/
def lmAddrOk (a : Word) : Bool := decide (a.toNat % 4 = 0) && decide (a.toNat ≤ 65532)

/-- The byte address of lane i of LDV or STV. -/
def lmAddr (g : Engine) (f : Form) (i : Nat) : Word := g.opA f i + formOffset f

/-- Are the addresses of all active lanes in local memory? -/
def lmOk (g : Engine) (f : Form) : Bool := lanes.all fun i => !g.lane f i || lmAddrOk (lmAddr g f i)

/-- The words that the active lanes name, each once. -/
def lmWords (g : Engine) (f : Form) : List Nat :=
  ((lanes.filter (g.lane f)).map fun i => (lmAddr g f i).toNat / 4).eraseDups

/-- Clocks that a vector access holds the banks: accesses to its busiest bank, at least 1 (R108). -/
def lmClocks (g : Engine) (f : Form) : Nat :=
  lanes.foldl (fun m b => max m ((lmWords g f).filter (· % 8 = b)).length) 1

/-- The words of STV stored. Where several lanes name one word, one of them stands (Config.laneOrder). -/
def storeLanes (g : Engine) (f : Form) : Engine :=
  (lmWords g f).foldl (fun acc k =>
    let who := lanes.filter fun i => g.lane f i && decide ((lmAddr g f i).toNat / 4 = k)
    let i := match who with
      | [] => 0
      | [i] => i
      | i :: rest => (i :: rest).getD (Config.laneOrder g.token g.now % (i :: rest).length) i
    acc.writeLm k (g.vreg f.d.val i)) g

/-- NOP (R110). -/
def execNop (e : EngineId) (f : Form) (s : State) : Host.Outcome State Fault Refusal :=
  .next (s.issue e .plain f false none fun g => .go g)

/-- MOV (R110): d := b. -/
def execMov (e : EngineId) (f : Form) (s : State) : Host.Outcome State Fault Refusal :=
  .next (s.vec1 e f 1 fun b => b)

/-- IADD (R110): d := a + b. -/
def execIadd (e : EngineId) (f : Form) (s : State) : Host.Outcome State Fault Refusal :=
  .next (s.vec2 e f 1 fun a b => a + b)

/-- ISUB (R110): d := a − b. -/
def execIsub (e : EngineId) (f : Form) (s : State) : Host.Outcome State Fault Refusal :=
  .next (s.vec2 e f 1 fun a b => a - b)

/-- IMUL (R110): d := bits [31:0] of a × b. -/
def execImul (e : EngineId) (f : Form) (s : State) : Host.Outcome State Fault Refusal :=
  .next (s.vec2 e f 2 fun a b => a * b)

/-- IMAD (R110): d := bits [31:0] of a × b + d. -/
def execImad (e : EngineId) (f : Form) (s : State) : Host.Outcome State Fault Refusal :=
  .next (s.vec3 e f 2 fun a b d => a * b + d)

/-- IMIN (R110): signed minimum. -/
def execImin (e : EngineId) (f : Form) (s : State) : Host.Outcome State Fault Refusal :=
  .next (s.vec2 e f 1 fun a b => if a.slt b then a else b)

/-- IMAX (R110): signed maximum. -/
def execImax (e : EngineId) (f : Form) (s : State) : Host.Outcome State Fault Refusal :=
  .next (s.vec2 e f 1 fun a b => if a.slt b then b else a)

/-- UMIN (R110): unsigned minimum. -/
def execUmin (e : EngineId) (f : Form) (s : State) : Host.Outcome State Fault Refusal :=
  .next (s.vec2 e f 1 fun a b => if a.ult b then a else b)

/-- UMAX (R110): unsigned maximum. -/
def execUmax (e : EngineId) (f : Form) (s : State) : Host.Outcome State Fault Refusal :=
  .next (s.vec2 e f 1 fun a b => if a.ult b then b else a)

/-- AND (R110): bitwise. -/
def execVand (e : EngineId) (f : Form) (s : State) : Host.Outcome State Fault Refusal :=
  .next (s.vec2 e f 1 fun a b => a &&& b)

/-- OR (R110): bitwise. -/
def execVor (e : EngineId) (f : Form) (s : State) : Host.Outcome State Fault Refusal :=
  .next (s.vec2 e f 1 fun a b => a ||| b)

/-- XOR (R110): bitwise. -/
def execVxor (e : EngineId) (f : Form) (s : State) : Host.Outcome State Fault Refusal :=
  .next (s.vec2 e f 1 fun a b => a ^^^ b)

/-- SHL (R110): a shifted left by b mod 32. -/
def execShl (e : EngineId) (f : Form) (s : State) : Host.Outcome State Fault Refusal :=
  .next (s.vec2 e f 1 fun a b => a <<< (b.toNat % 32))

/-- SHR (R110): logical right shift by b mod 32. -/
def execShr (e : EngineId) (f : Form) (s : State) : Host.Outcome State Fault Refusal :=
  .next (s.vec2 e f 1 fun a b => a >>> (b.toNat % 32))

/-- SAR (R110): arithmetic right shift by b mod 32. -/
def execSar (e : EngineId) (f : Form) (s : State) : Host.Outcome State Fault Refusal :=
  .next (s.vec2 e f 1 fun a b => a.sshiftRight (b.toNat % 32))

/-- FADD (R110): fp32 a + b (R97). -/
def execFadd (e : EngineId) (f : Form) (s : State) : Host.Outcome State Fault Refusal :=
  .next (s.vec2 e f 4 fun a b => Sys2Proof.Machine.fadd a b)

/-- FSUB (R110): fp32 a − b (R97). -/
def execFsub (e : EngineId) (f : Form) (s : State) : Host.Outcome State Fault Refusal :=
  .next (s.vec2 e f 4 fun a b => Sys2Proof.Machine.fsub a b)

/-- FMUL (R110): fp32 a × b (R97). -/
def execFmul (e : EngineId) (f : Form) (s : State) : Host.Outcome State Fault Refusal :=
  .next (s.vec2 e f 4 fun a b => Sys2Proof.Machine.fmul a b)

/-- FMA (R110): d := a × b + d rounded once (R97). -/
def execFma (e : EngineId) (f : Form) (s : State) : Host.Outcome State Fault Refusal :=
  .next (s.vec3 e f 4 fun a b d => ffma a b d)

/-- FMIN (R110): R100. -/
def execFmin (e : EngineId) (f : Form) (s : State) : Host.Outcome State Fault Refusal :=
  .next (s.vec2 e f 4 fun a b => Sys2Proof.Machine.fmin a b)

/-- FMAX (R110): R100. -/
def execFmax (e : EngineId) (f : Form) (s : State) : Host.Outcome State Fault Refusal :=
  .next (s.vec2 e f 4 fun a b => Sys2Proof.Machine.fmax a b)

/-- FABS (R110): b with bit 31 cleared. -/
def execFabs (e : EngineId) (f : Form) (s : State) : Host.Outcome State Fault Refusal :=
  .next (s.vec1 e f 1 fun b => Sys2Proof.Machine.fabs b)

/-- FNEG (R110): b with bit 31 inverted. -/
def execFneg (e : EngineId) (f : Form) (s : State) : Host.Outcome State Fault Refusal :=
  .next (s.vec1 e f 1 fun b => Sys2Proof.Machine.fneg b)

/-- FFLOOR (R110): floor. -/
def execFfloor (e : EngineId) (f : Form) (s : State) : Host.Outcome State Fault Refusal :=
  .next (s.vec1 e f 4 fun b => Sys2Proof.Machine.ffloor b)

/-- FFRAC (R110): b − floor(b), 1.0 given as 0x3F7F_FFFF. -/
def execFfrac (e : EngineId) (f : Form) (s : State) : Host.Outcome State Fault Refusal :=
  .next (s.vec1 e f 4 fun b => Sys2Proof.Machine.ffrac b)

/-- FSAT (R110): b clamped to 0–1, NaN gives +0. -/
def execFsat (e : EngineId) (f : Form) (s : State) : Host.Outcome State Fault Refusal :=
  .next (s.vec1 e f 4 fun b => Sys2Proof.Machine.fsat b)

/-- HADD2 (R110): per half a + b (R98). -/
def execHadd2 (e : EngineId) (f : Form) (s : State) : Host.Outcome State Fault Refusal :=
  .next (s.vec2 e f 4 fun a b => halves hadd a b)

/-- HSUB2 (R110): per half a − b (R98). -/
def execHsub2 (e : EngineId) (f : Form) (s : State) : Host.Outcome State Fault Refusal :=
  .next (s.vec2 e f 4 fun a b => halves hsub a b)

/-- HMUL2 (R110): per half a × b (R98). -/
def execHmul2 (e : EngineId) (f : Form) (s : State) : Host.Outcome State Fault Refusal :=
  .next (s.vec2 e f 4 fun a b => halves hmul a b)

/-- HFMA2 (R110): per half a × b + d rounded once (R98). -/
def execHfma2 (e : EngineId) (f : Form) (s : State) : Host.Outcome State Fault Refusal :=
  .next (s.vec3 e f 4 fun a b d => halves3 hfma a b d)

/-- HMIN2 (R110): per half, R100. -/
def execHmin2 (e : EngineId) (f : Form) (s : State) : Host.Outcome State Fault Refusal :=
  .next (s.vec2 e f 4 fun a b => halves (hminmax false) a b)

/-- HMAX2 (R110): per half, R100. -/
def execHmax2 (e : EngineId) (f : Form) (s : State) : Host.Outcome State Fault Refusal :=
  .next (s.vec2 e f 4 fun a b => halves (hminmax true) a b)

/-- I2F (R110): fp32 of signed b (R101). -/
def execI2f (e : EngineId) (f : Form) (s : State) : Host.Outcome State Fault Refusal :=
  .next (s.vec1 e f 2 fun b => Sys2Proof.Machine.i2f b)

/-- U2F (R110): fp32 of unsigned b (R101). -/
def execU2f (e : EngineId) (f : Form) (s : State) : Host.Outcome State Fault Refusal :=
  .next (s.vec1 e f 2 fun b => Sys2Proof.Machine.u2f b)

/-- F2I (R110): int32, toward zero (R101). -/
def execF2i (e : EngineId) (f : Form) (s : State) : Host.Outcome State Fault Refusal :=
  .next (s.vec1 e f 2 fun b => Sys2Proof.Machine.f2i b)

/-- F2IF (R110): int32, toward minus infinity (R101). -/
def execF2if (e : EngineId) (f : Form) (s : State) : Host.Outcome State Fault Refusal :=
  .next (s.vec1 e f 2 fun b => Sys2Proof.Machine.f2if b)

/-- F2IR (R110): int32, to nearest even (R101). -/
def execF2ir (e : EngineId) (f : Form) (s : State) : Host.Outcome State Fault Refusal :=
  .next (s.vec1 e f 2 fun b => Sys2Proof.Machine.f2ir b)

/-- H2F (R110): fp32 of b[15:0]. -/
def execH2f (e : EngineId) (f : Form) (s : State) : Host.Outcome State Fault Refusal :=
  .next (s.vec1 e f 2 fun b => Sys2Proof.Machine.h2f (b.setWidth 16))

/-- H2FH (R110): fp32 of b[31:16]. -/
def execH2fh (e : EngineId) (f : Form) (s : State) : Host.Outcome State Fault Refusal :=
  .next (s.vec1 e f 2 fun b => Sys2Proof.Machine.h2f ((b >>> 16).setWidth 16))

/-- F2H2 (R110): d[15:0] := fp16 of a, d[31:16] := fp16 of b. -/
def execF2h2 (e : EngineId) (f : Form) (s : State) : Host.Outcome State Fault Refusal :=
  .next (s.vec2 e f 2 fun a b => (f2h a).setWidth 32 ||| ((f2h b).setWidth 32 <<< 16))

/-- ISEQ (R110): bit of p[d] := a = b. -/
def execIseq (e : EngineId) (f : Form) (s : State) : Host.Outcome State Fault Refusal :=
  .next (s.compareOp e f fun a b => a == b)

/-- ISNE (R110): bit of p[d] := a ≠ b. -/
def execIsne (e : EngineId) (f : Form) (s : State) : Host.Outcome State Fault Refusal :=
  .next (s.compareOp e f fun a b => a != b)

/-- ISLT (R110): bit of p[d] := signed <. -/
def execIslt (e : EngineId) (f : Form) (s : State) : Host.Outcome State Fault Refusal :=
  .next (s.compareOp e f fun a b => a.slt b)

/-- ISLE (R110): bit of p[d] := signed ≤. -/
def execIsle (e : EngineId) (f : Form) (s : State) : Host.Outcome State Fault Refusal :=
  .next (s.compareOp e f fun a b => a.sle b)

/-- IULT (R110): bit of p[d] := unsigned <. -/
def execIult (e : EngineId) (f : Form) (s : State) : Host.Outcome State Fault Refusal :=
  .next (s.compareOp e f fun a b => a.ult b)

/-- IULE (R110): bit of p[d] := unsigned ≤. -/
def execIule (e : EngineId) (f : Form) (s : State) : Host.Outcome State Fault Refusal :=
  .next (s.compareOp e f fun a b => a.ule b)

/-- FSEQ (R110): bit of p[d] := fp32 = (R100). -/
def execFseq (e : EngineId) (f : Form) (s : State) : Host.Outcome State Fault Refusal :=
  .next (s.compareOp e f fun a b => feq a b)

/-- FSNE (R110): bit of p[d] := fp32 ≠ (R100). -/
def execFsne (e : EngineId) (f : Form) (s : State) : Host.Outcome State Fault Refusal :=
  .next (s.compareOp e f fun a b => fne a b)

/-- FSLT (R110): bit of p[d] := fp32 < (R100). -/
def execFslt (e : EngineId) (f : Form) (s : State) : Host.Outcome State Fault Refusal :=
  .next (s.compareOp e f fun a b => flt a b)

/-- FSLE (R110): bit of p[d] := fp32 ≤ (R100). -/
def execFsle (e : EngineId) (f : Form) (s : State) : Host.Outcome State Fault Refusal :=
  .next (s.compareOp e f fun a b => fle a b)

/-- PAND (R110): p[d] := p[a] AND p[b]. -/
def execPand (e : EngineId) (f : Form) (s : State) : Host.Outcome State Fault Refusal :=
  .next (s.predOp e f fun a b => a &&& b)

/-- POR (R110): p[d] := p[a] OR p[b]. -/
def execPor (e : EngineId) (f : Form) (s : State) : Host.Outcome State Fault Refusal :=
  .next (s.predOp e f fun a b => a ||| b)

/-- PXOR (R110): p[d] := p[a] XOR p[b]. -/
def execPxor (e : EngineId) (f : Form) (s : State) : Host.Outcome State Fault Refusal :=
  .next (s.predOp e f fun a b => a ^^^ b)

/-- PANDN (R110): p[d] := p[a] AND NOT p[b]. -/
def execPandn (e : EngineId) (f : Form) (s : State) : Host.Outcome State Fault Refusal :=
  .next (s.predOp e f fun a b => a &&& ~~~b)

/-- SADD (R110): s[d] := a + b. -/
def execSadd (e : EngineId) (f : Form) (s : State) : Host.Outcome State Fault Refusal :=
  .next (s.scalar2 e f 1 fun a b => a + b)

/-- SSUB (R110): s[d] := a − b. -/
def execSsub (e : EngineId) (f : Form) (s : State) : Host.Outcome State Fault Refusal :=
  .next (s.scalar2 e f 1 fun a b => a - b)

/-- SMUL (R110): bits [31:0] of a × b. -/
def execSmul (e : EngineId) (f : Form) (s : State) : Host.Outcome State Fault Refusal :=
  .next (s.scalar2 e f 2 fun a b => a * b)

/-- SAND (R110): bitwise. -/
def execSand (e : EngineId) (f : Form) (s : State) : Host.Outcome State Fault Refusal :=
  .next (s.scalar2 e f 1 fun a b => a &&& b)

/-- SOR (R110): bitwise. -/
def execSor (e : EngineId) (f : Form) (s : State) : Host.Outcome State Fault Refusal :=
  .next (s.scalar2 e f 1 fun a b => a ||| b)

/-- SXOR (R110): bitwise. -/
def execSxor (e : EngineId) (f : Form) (s : State) : Host.Outcome State Fault Refusal :=
  .next (s.scalar2 e f 1 fun a b => a ^^^ b)

/-- SSHL (R110): as SHL. -/
def execSshl (e : EngineId) (f : Form) (s : State) : Host.Outcome State Fault Refusal :=
  .next (s.scalar2 e f 1 fun a b => a <<< (b.toNat % 32))

/-- SSHR (R110): as SHR. -/
def execSshr (e : EngineId) (f : Form) (s : State) : Host.Outcome State Fault Refusal :=
  .next (s.scalar2 e f 1 fun a b => a >>> (b.toNat % 32))

/-- SSAR (R110): as SAR. -/
def execSsar (e : EngineId) (f : Form) (s : State) : Host.Outcome State Fault Refusal :=
  .next (s.scalar2 e f 1 fun a b => a.sshiftRight (b.toNat % 32))

/-- SMIN (R110): signed minimum. -/
def execSmin (e : EngineId) (f : Form) (s : State) : Host.Outcome State Fault Refusal :=
  .next (s.scalar2 e f 1 fun a b => if a.slt b then a else b)

/-- SMAX (R110): signed maximum. -/
def execSmax (e : EngineId) (f : Form) (s : State) : Host.Outcome State Fault Refusal :=
  .next (s.scalar2 e f 1 fun a b => if a.slt b then b else a)

/-- SSEQ (R110): 1 if a = b, else 0. -/
def execSseq (e : EngineId) (f : Form) (s : State) : Host.Outcome State Fault Refusal :=
  .next (s.scalar2 e f 1 fun a b => if a == b then 1 else 0)

/-- SSLT (R110): 1 if a < b signed, else 0. -/
def execSslt (e : EngineId) (f : Form) (s : State) : Host.Outcome State Fault Refusal :=
  .next (s.scalar2 e f 1 fun a b => if a.slt b then 1 else 0)

/-- SSLTU (R110): 1 if a < b unsigned, else 0. -/
def execSsltu (e : EngineId) (f : Form) (s : State) : Host.Outcome State Fault Refusal :=
  .next (s.scalar2 e f 1 fun a b => if a.ult b then 1 else 0)

/-- PSET (R110): p[d] := s[a][7:0]. -/
def execPset (e : EngineId) (f : Form) (s : State) : Host.Outcome State Fault Refusal :=
  .next (s.issue e .pset f false none fun g =>
    .go ((g.writeP f.d.val ((g.sreg f.a.val).setWidth 8)).setBusy (shapeDests .pset f) g.now 1))

/-- PGET (R110): s[d] := p[a], zero-extended. -/
def execPget (e : EngineId) (f : Form) (s : State) : Host.Outcome State Fault Refusal :=
  .next (s.issue e .pget f false none fun g =>
    .go ((g.writeS f.d.val ((g.preg f.a.val).setWidth 32)).setBusy (shapeDests .pget f) g.now 1))

/-- SMOV (R110): s[d] := b. -/
def execSmov (e : EngineId) (f : Form) (s : State) : Host.Outcome State Fault Refusal :=
  .next (s.issue e .sb f false none fun g =>
    .go ((g.writeS f.d.val (g.sopB f)).setBusy (shapeDests .sb f) g.now 1))

/-- VLANE (R110): d := lane number. -/
def execVlane (e : EngineId) (f : Form) (s : State) : Host.Outcome State Fault Refusal :=
  .next (s.vectorOp e .vlane f 1 fun _ i => BitVec.ofNat 32 i)

/-- VEXT (R110): s[d] := lane b of v[a]. -/
def execVext (e : EngineId) (f : Form) (s : State) : Host.Outcome State Fault Refusal :=
  .next (s.issue e .vext f false none fun g =>
    .go ((g.writeS f.d.val (g.vreg f.a.val (f.b.val % 8))).setBusy (shapeDests .vext f) g.now 2))

/-- LDC (R110, R111, R121): s[d] := word s[a] + imm of the output constant table. -/
def execLdc (e : EngineId) (f : Form) (s : State) : Host.Outcome State Fault Refusal :=
  .next (s.issue e .ldc f false none fun g =>
    let k := (g.sreg f.a.val + formOffset f).toNat
    if 128 ≤ k then .trap 3 0
    else .go ((g.writeS f.d.val (Sparse.getD (s.out g.out).render.consts k 0)).setBusy (shapeDests .ldc f) g.now 2))

/-- BRA (R107, R112): branch if condition d holds. -/
def execBra (e : EngineId) (f : Form) (s : State) : Host.Outcome State Fault Refusal :=
  .next (s.issue e .bra f false none fun g =>
    if g.branchTaken f then .jump g (branchTarget g f) else .go g)

/-- LOOP (R107, R112): s[a] := s[a] − 1; branch if s[a] ≠ 0. -/
def execLoop (e : EngineId) (f : Form) (s : State) : Host.Outcome State Fault Refusal :=
  .next (s.issue e .loop f false none fun g =>
    let v := g.sreg f.a.val - 1
    let g := g.writeS f.a.val v
    if v != 0 then .jump g (branchTarget g f) else .go g)

/-- END (R123): the engine stops issuing and waits for its shared units. -/
def execEndSpan (e : EngineId) (f : Form) (s : State) : Host.Outcome State Fault Refusal :=
  .next (s.issue e .plain f false none fun g => .ends g)

/-- TRAP (R110, R124): SOFT trap with code imm[15:0]. -/
def execTrap (e : EngineId) (f : Form) (s : State) : Host.Outcome State Fault Refusal :=
  .next (s.issue e .trap f false none fun _ => .trap 9 ((formOffset f).toNat % 2 ^ 16))

/-- LDV (R108, R110, R111, R124): d := word at a + imm, in each active lane; a word with a double-bit error raises ECC. -/
def execLdv (e : EngineId) (f : Form) (s : State) : Host.Outcome State Fault Refusal :=
  .next (s.issue e .lvec f true none fun g =>
    if !lmOk g f then .trap 2 0
    else if (lmWords g f).any g.lost.contains then .trap 0xA 0
    else
      let g' := g.writeV f.d.val (g.active f) fun i => g.lmWord ((lmAddr g f i).toNat / 4)
      let extra := lmClocks g f - 1
      .go { g'.setBusy (shapeDests .lvec f) g.now (3 + extra) with bankFree := g.now + 1 + extra })

/-- STV (R108, R110, R111): word at a + imm := v[d], in each active lane. -/
def execStv (e : EngineId) (f : Form) (s : State) : Host.Outcome State Fault Refusal :=
  .next (s.issue e .lvec f true none fun g =>
    if !lmOk g f then .trap 2 0
    else .go { storeLanes g f with bankFree := g.now + lmClocks g f })

/-- LDS (R110, R111, R124): s[d] := word at s[a] + imm; a word with a double-bit error raises ECC. -/
def execLds (e : EngineId) (f : Form) (s : State) : Host.Outcome State Fault Refusal :=
  .next (s.issue e .lscal f true none fun g =>
    let addr := g.sreg f.a.val + formOffset f
    if !lmAddrOk addr then .trap 2 0
    else if g.lost.contains (addr.toNat / 4) then .trap 0xA 0
    else .go { (g.writeS f.d.val (g.lmWord (addr.toNat / 4))).setBusy (shapeDests .lscal f) g.now 3 with bankFree := g.now + 1 })

/-- STS (R110, R111): word at s[a] + imm := s[d]. -/
def execSts (e : EngineId) (f : Form) (s : State) : Host.Outcome State Fault Refusal :=
  .next (s.issue e .lscal f true none fun g =>
    let addr := g.sreg f.a.val + formOffset f
    if !lmAddrOk addr then .trap 2 0
    else .go { g.writeLm (addr.toNat / 4) (g.sreg f.d.val) with bankFree := g.now + 1 })

/-- RCP (R112): a request to the SFU. -/
def execRcp (e : EngineId) (f : Form) (s : State) : Host.Outcome State Fault Refusal :=
  .next (s.unitOp e .vb f .sfu 0x68 fun g i => [g.opB f i])

/-- RSQ (R112): a request to the SFU. -/
def execRsq (e : EngineId) (f : Form) (s : State) : Host.Outcome State Fault Refusal :=
  .next (s.unitOp e .vb f .sfu 0x69 fun g i => [g.opB f i])

/-- SQRT (R112): a request to the SFU. -/
def execSqrt (e : EngineId) (f : Form) (s : State) : Host.Outcome State Fault Refusal :=
  .next (s.unitOp e .vb f .sfu 0x6A fun g i => [g.opB f i])

/-- EXP2 (R112): a request to the SFU. -/
def execExp2 (e : EngineId) (f : Form) (s : State) : Host.Outcome State Fault Refusal :=
  .next (s.unitOp e .vb f .sfu 0x6B fun g i => [g.opB f i])

/-- LOG2 (R112): a request to the SFU. -/
def execLog2 (e : EngineId) (f : Form) (s : State) : Host.Outcome State Fault Refusal :=
  .next (s.unitOp e .vb f .sfu 0x6C fun g i => [g.opB f i])

/-- SINP (R112): a request to the SFU. -/
def execSinp (e : EngineId) (f : Form) (s : State) : Host.Outcome State Fault Refusal :=
  .next (s.unitOp e .vb f .sfu 0x6D fun g i => [g.opB f i])

/-- COSP (R112): a request to the SFU. -/
def execCosp (e : EngineId) (f : Form) (s : State) : Host.Outcome State Fault Refusal :=
  .next (s.unitOp e .vb f .sfu 0x6E fun g i => [g.opB f i])

/-- CALQ (R113): a request to the calibration port. -/
def execCalq (e : EngineId) (f : Form) (s : State) : Host.Outcome State Fault Refusal :=
  .next (s.unitOp e .calq f .calib 0x70 fun g i => [g.vreg f.a.val i, g.vreg (f.a.val + 1) i])

/-- OUT (R119): a linear value for a subpixel, to the output unit. -/
def execOut (e : EngineId) (f : Form) (s : State) : Host.Outcome State Fault Refusal :=
  .next (s.unitOp e .outp f .output 0x76 fun g i =>
    [g.opA f i, g.vreg f.b.val i, g.vreg (f.b.val + 1) i])

end Sys2Proof.Machine
end

