-- ==== Sys2Proof/Machine/Power.lean ====
section
/-!
DEFINITION. Sleep requests and domain transitions (R413–R423), supply monitors, braces and RESET crossings (R424–R429), abrupt
loss (R289, R432) and RESET_N (R445).
-/
namespace Sys2Proof.Machine

/-- Do sleep and braces still run: no reset, abrupt loss or shutdown in progress? -/
def State.alive (s : State) : Bool :=
  s.power.lossAt.isNone && s.boot.phase != .inReset && s.boot.phase != .poweredDown

/-! ### Sleep (R418–R422) -/

/-- TIME_NS of the next release of a span row of an output, as far as it is decided (R14, R190, R281). -/
def State.nextRelease (s : State) (o : Output) : Option Nat :=
  let c := (s.out o).cycle
  if c.released * 8 < s.lines o then
    let y := 8 * c.released
    some (if y < 48 then c.tickAt + 2000
      else c.tickAt + ((s.outRec o).blank + y - 40) * s.periodNs o / max 1 (s.frameLines o))
  else if s.ticksNext o || s.fld (SCN_OUT_STAT_m o.val) ≤ (s.out o).scan.gridSince + 1 then some (c.nextTick + 2000)
  else none

/-- The condition of a STATIC group (R419), tried again after a refusal from the next frame on (R421). -/
def State.staticCondition (s : State) (g : SleepGroup) : Bool :=
  let outs := s.activeOutputs
  (outs.all fun o => s.fld (SCN_OUT_STAT_static o.val) = 1 && !(s.nextRelease o).any fun n => n ≤ s.timeNs + 300000) &&
    !s.classADemand &&
    (match (s.power.groups.get g).refusedAt with
      | none => true
      | some t => allOutputs.any fun o => t < (s.out o).cycle.tickEdge)

/-- The condition of an IDLE group (R419). -/
def State.idleCondition (s : State) (g : SleepGroup) (us : Nat) : Bool :=
  s.elapsed (s.power.groups.get g).since (edgesUs us) && !(s.members g).any s.holdsWork

/-- SLEEP_REQUEST (R419, R420): step 1, and step 3 where every reply is there at once. -/
def execSleepRequest (t : Nat) (g : SleepGroup) (s : State) : Host.Outcome State Fault Refusal :=
  .next <|
    let s := s.advanceTo t
    match s.itin.sleep[g] with
    | none => s
    | some r =>
      let due := if r.static then s.staticCondition g else s.idleCondition g r.idleUs
      if !s.alive || s.boot.phase = .thermalShutdown || s.fld (PWR_SG_STAT_state g.val) != 1 || !due then s
      else
        let s := s.setFld (PWR_SG_STAT_state g.val) 2
        (s.updGroup g fun x => { x with since := s.now, refusedAt := none }).prepareReplies g

/-- PREPARE_TIMEOUT (R420): 10 µs into prepare, the lowest member without a reply refuses. -/
def execPrepareTimeout (t : Nat) (g : SleepGroup) (s : State) : Host.Outcome State Fault Refusal :=
  .next <|
    let s := s.advanceTo t
    if s.fld (PWR_SG_STAT_state g.val) != 2 || !s.elapsed (s.power.groups.get g).since (edgesUs 10) then s
    else
      match (List.range 48).find? fun pd => (s.members g).contains pd && (s.holdsWork pd || s.drains pd) with
      | some pd => s.refuseSleep g pd
      | none => s.commitSleep g

/-- A REGWRITE entry applied (R461): the register becomes (old AND NOT mask) OR (value AND mask) in its RW fields. It is a
write of the Concierge: a writable pair follows R8 on its path. -/
def State.applyRegwrite (s : State) (a : Nat) (value mask : Word) : State :=
  let v := (s.reg a &&& ~~~mask) ||| (value &&& mask)
  if a = DRC_THAW_ADDR_LO || a = DRC_THAW_ADDR_HI then s.writeReg .concierge a v else s.storeReg a v

/-- The registers that the CODEC and BLIT_CARD records set. -/
def State.setCodecCfg (s : State) (c : CodecRec) : State :=
  (s.setFld CDC_CFG_chains c.chains).setFld CDC_CFG_enc_mask c.encMask.toNat
def State.setCardPlanes (s : State) : State :=
  allOutputs.foldl (fun (s : State) o =>
    match s.itin.card[o] with
    | some c => s.setFld (BLT_CARD_plane o.val) c.plane
    | none => s) s

/-- The white-balance gains of every ISP record (R395). -/
def State.applyIsp (s : State) : State :=
  allPorts.foldl (fun (s : State) p =>
    match s.itin.isp[p] with
    | some r =>
      let s := (s.setFld (ISP_WB_RG_r p.val) (r.wb.getD 0 0)).setFld (ISP_WB_RG_g_r p.val) (r.wb.getD 1 0)
      (s.setFld (ISP_WB_BG_g_b p.val) (r.wb.getD 2 0)).setFld (ISP_WB_BG_b p.val) (r.wb.getD 3 0)
    | none => s) s

/-- Reload of what a domain lost from the Itinerary (R416): registers that a record or a REGWRITE entry set. -/
def State.reload (s : State) (pd : Nat) : State :=
  let s := match s.itin.codec with
    | some c => if pd = 32 then s.setCodecCfg c else s
    | none => s
  let s := if pd = 37 then s.setCardPlanes else s
  let s := if pd = 36 then s.applyIsp else s
  (s.itin.regwrites.filter fun (a, _, _) => regDomain (blockOf a) (a % 0x10000) = pd).foldl
    (fun (s : State) (a, v, m) => s.applyRegwrite a v m) s

/-- A group one of whose members has ended a transition (R420, R422, R423). -/
def State.groupStep (s : State) (g : SleepGroup) : State :=
  let ms := s.members g
  let moving := ms.any fun pd => (Sparse.get? s.power.target pd).isSome
  if moving then s
  else
    match s.fld (PWR_SG_STAT_state g.val) with
    | 3 =>
      let s := s.setFld (PWR_SG_STAT_state g.val) 4
      (match (s.power.groups.get g).wake with
        | some source => s.startWake g source
        | none => s)
    | 5 => (s.setFld (PWR_SG_STAT_state g.val) 1).updGroup g fun x => { x with since := s.now }
    | _ => s

/-- The body bias of a domain (R415): forward levels positive, reverse ones negative. -/
def State.bodyBias (s : State) (pd : Domain) : Int :=
  match s.pd pd.val with
  | 2 => ((s.itin.power.fbb.getD pd.val 2 : Nat) : Int)
  | 1 => -((s.itin.power.rbb.getD pd.val 2 : Nat) : Int)
  | _ => 0

/-- DOMAIN_TRANSITION_COMPLETE (R416, R422, R429): no earlier than the change may take. -/
def execDomainTransitionComplete (t : Nat) (pd : Domain) (s : State) : Host.Outcome State Fault Refusal :=
  .next <|
    let s := s.advanceTo t
    match Sparse.get? s.power.target pd.val with
    | none => s
    | some k =>
      if s.now < Sparse.getD s.power.due pd.val 0 then s
      else
      let s := { s with power := { s.power with
        target := Sparse.erase s.power.target pd.val, due := Sparse.erase s.power.due pd.val } }
      let s := s.setPd pd.val k
      let s := if k = 0 then s.loseContents pd.val else s
      let s :=
        if k = 2 && s.power.lost.contains pd.val then
          ({ s with power := { s.power with lost := s.power.lost.filter (· != pd.val) } }).reload pd.val
        else s
      let s :=
        if pd.val = 36 && k = 2 then
          (allPorts.filter fun p => s.fld (CAM_P_STAT_state p.val) = 3).foldl State.startPort s
        else s
      allGroups.foldl (fun (s : State) g => if (s.members g).contains pd.val then s.groupStep g else s) s

/-! ### Supply monitors (R424, R425) -/

/-- WARN, RESET and hysteresis of a monitor in mV: PWR_MON_CFG, or the defaults where its values break R424. -/
def State.monitor (s : State) (m : Nat) : Nat × Nat × Nat :=
  let w := s.fld (PWR_MON_CFG_warn_mv m)
  let r := s.fld (PWR_MON_CFG_reset_mv m)
  if r < w && w < monNominal m then (w, r, s.fld (PWR_MON_CFG_hyst_mv m)) else monDefault m

/-- A sample of a dip: 2 mV resolution. -/
def dipSample (mv : Nat) : Nat := mv / 2 * 2

/-- A dip of a monitor with a sample; a monitor's first one in a brace is counted (R425, R426). -/
def State.noteDip (s : State) (m mv : Nat) : State :=
  let v := dipSample mv
  let (d, first) := match Sparse.get? s.power.dips m with
    | some d => (({ d with min := min d.min v } : Dip), false)
    | none => (({ since := s.now, min := v } : Dip), true)
  let s := { s with power := { s.power with dips := Sparse.set s.power.dips m d } }
  let s := s.setFld (PWR_MON_STAT_min_mv m) d.min
  if first then s.incFld (PWR_MON_DIPS_braces m) 1 else s

/-! ### Braces (R426–R428) -/

/-- A brace starts (R426 steps 1 and 2, R428). -/
def State.startBrace (s : State) : State :=
  let starts := (s.power.starts.filter fun t => decide (s.now < t + edgesS 1)) ++ [s.now]
  let many := 16 < starts.length
  let ends := starts.getD (starts.length - 17) 0 + edgesS 1
  let s := { s with power := { s.power with
    starts, braceAt := s.now, braceSnap := false, dips := [], alertAt := if many then ends else s.power.alertAt } }
  let s := (s.setFld PWR_BRACE_active 1).setEngineClock
  if many && s.fld PWR_BRACE_alert = 0 then (s.setFld PWR_BRACE_alert 1).raiseOpen 228 (min 255 starts.length) else s

/-- A brace ends: the base step in effect is restored (R426, R427). -/
def State.stopBrace (s : State) : State :=
  if s.fld PWR_BRACE_active = 0 then s
  else (({ s with power := { s.power with dips := [] } }).setFld PWR_BRACE_active 0).setEngineClock

/-- WARN_CROSSING (R425, R426): a monitor's rail, with reading mv, has been below WARN for 100 ns. -/
def execWarnCrossing (t : Nat) (m : Monitor) (mv : Nat) (s : State) : Host.Outcome State Fault Refusal :=
  .next <|
    let s := s.advanceTo t
    if !s.alive || (s.monitor m.val).1 ≤ mv then s
    else
      let s := if s.fld PWR_BRACE_active = 0 then s.startBrace else s
      let s := s.noteDip m.val mv
      { s with power := { s.power with crossAt := s.now } }

/-- BRACE_SNAPSHOT (R426 step 3). -/
def execBraceSnapshot (t : Nat) (s : State) : Host.Outcome State Fault Refusal :=
  .next <|
    let s := s.advanceTo t
    if s.fld PWR_BRACE_active = 0 || s.power.braceSnap || !s.elapsed s.power.braceAt (edgesUs 50) then s
    else ({ s with power := { s.power with braceSnap := true } }).snapRequest 2 0 none

/-- EV208 + m for each monitor that dipped. With one, its last rise lies 100 µs back; with several the manual fixes only
the latest of them, and each duration is a free value. -/
def State.dipEvents (s : State) : State :=
  let one := s.power.dips.length = 1
  s.power.dips.foldl (fun (s : State) x =>
    let (m, d) := x
    let us := (s.now - edgesUs 100 - d.since) / 500
    if one then s.raise (208 + m) 1 (d.min * 2 ^ 16 + min 65535 us)
    else
      let (v, s) := s.take
      s.raise (208 + m) 1 (d.min * 2 ^ 16 + v.toNat % 65536)) s

/-- BRACE_END (R426 step 4). -/
def execBraceEnd (t : Nat) (s : State) : Host.Outcome State Fault Refusal :=
  .next <|
    let s := s.advanceTo t
    if s.fld PWR_BRACE_active = 0 || !s.elapsed s.power.crossAt (edgesUs 100) then s else s.dipEvents.stopBrace

/-- BRACE_ALERT_CLEAR (R428). -/
def execBraceAlertClear (t : Nat) (s : State) : Host.Outcome State Fault Refusal :=
  .next <|
    let s := s.advanceTo t
    if s.fld PWR_BRACE_alert = 1 && s.elapsed s.power.alertAt (edgesS 10) then s.setFld PWR_BRACE_alert 0 else s

/-! ### Abrupt loss (R289, R431, R432) -/

/-- Domains that an abrupt loss turns off at step 3. -/
def lossDomains : List Nat := List.range 39 ++ [43, 44, 45, 46]

/-- The abrupt loss: both sequences begin; the device resets once they are complete. -/
def State.abruptLoss (s : State) : State :=
  if s.power.lossAt.isSome then s
  else
    let s := { s with power := { s.power with lossAt := some s.now } }
    let s := (s.stopBrace.endRequests).snapRequest 4 0 none
    let s := allOutputs.foldl State.abruptPanel s
    let s := lossDomains.foldl State.offNow s
    ({ s with boot := { s.boot with phase := .poweredDown, waiting := some .afterSnapshot } }).checkReset

/-- ABRUPT_LOSS (R289): PFAIL_N low for 200 ns, or VDD_IO below its RESET threshold. -/
def execAbruptLoss (t : Nat) (_trigger : LossTrigger) (s : State) : Host.Outcome State Fault Refusal :=
  .next (s.advanceTo t).abruptLoss

/-! ### RESET crossings (R429) -/

/-- VDD_LANE or VDDA_LANE: the lanes stop until the rail has recovered. -/
def State.laneRail (s : State) (m : Nat) : State :=
  let s := { s with power := { s.power with recovering := m :: s.power.recovering.filter (· != m) } }
  ({ s with link := { s.link with stopped := true } }).loseLanes

/-- VDD_CSI: PD36 goes off and every port fails. -/
def State.csiRail (s : State) : State :=
  let ports := allPorts.filter fun p => s.fld (CAM_P_STAT_state p.val) != 0
  let s := { s with power := { s.power with recovering := 14 :: s.power.recovering.filter (· != 14) } }
  ports.foldl (fun (s : State) p => s.setFld (CAM_P_STAT_state p.val) 3) (s.offNow 36)

/-- The action of a RESET crossing by rail. -/
def State.railAction (s : State) (m : Nat) : State :=
  if m = 13 then s.abruptLoss
  else if m = 6 then s.afterReset
  else if m = 9 || m = 10 then s.laneRail m
  else if m = 14 then s.csiRail
  else (s.snapRequest 5 0 none).resetAfter .afterSnapshot

/-- RESET_CROSSING (R425, R429, R432): a monitor's rail, with reading mv, has been below RESET for 1 µs. After an abrupt loss
it is logged only. -/
def execResetCrossing (t : Nat) (m : Monitor) (mv : Nat) (s : State) : Host.Outcome State Fault Refusal :=
  .next <|
    let s := s.advanceTo t
    if (s.monitor m.val).2.1 ≤ mv || s.boot.phase = .inReset then s
    else
      let v := match Sparse.get? s.power.dips m.val with
        | some d => min d.min (dipSample mv)
        | none => dipSample mv
      let s := (s.setFld (PWR_MON_STAT_min_mv m.val) v).incFld (PWR_MON_DIPS_resets m.val) 1
      let s := s.raise (208 + m.val) 2 v
      if s.power.lossAt.isSome then s else s.stopBrace.railAction m.val

/-- RAIL_RECOVERY (R429): a lane or CSI rail has read above WARN for 1 ms. -/
def execRailRecovery (t : Nat) (m : Monitor) (s : State) : Host.Outcome State Fault Refusal :=
  .next <|
    let s := s.advanceTo t
    if !s.alive || !s.power.recovering.contains m.val then s
    else
      let rest := s.power.recovering.filter (· != m.val)
      let s := { s with power := { s.power with recovering := rest } }
      if m.val = 14 then s.startTransition 36 2
      else if rest.contains 9 || rest.contains 10 then s
      else
        let s := { s with link := { s.link with stopped := false } }
        if s.fld LNK_STAT_refclk_ok = 1 then (s.restartHop .up).restartHop .dn else s

/-- RESET_N (R288, R291, R445): low for 1 µs. The reset follows the orderly power-off, or the sequence already running. -/
def execResetN (t : Nat) (s : State) : Host.Outcome State Fault Refusal :=
  .next <|
    let s := s.advanceTo t
    if s.boot.waiting.isSome then s else s.resetAfter .resetN

end Sys2Proof.Machine
end

