-- ==== Sys2Proof/Machine/P256.lean ====
section
/-!
DEFINITION. ECDSA P-256 verification (FIPS 186-5), as R454 uses it for signed images. PRESUMED from that standard
(assumption log 9).
-/
namespace Sys2Proof.Machine.P256

def p : Nat := 0xffffffff00000001000000000000000000000000ffffffffffffffffffffffff
def n : Nat := 0xffffffff00000000ffffffffffffffffbce6faada7179e84f3b9cac2fc632551
def cb : Nat := 0x5ac635d8aa3a93e7b3ebbd55769886bc651d06b0cc53b0f63bce3c3e27d2604b
def gx : Nat := 0x6b17d1f2e12c4247f8bce6e563a440f277037d812deb33a0f4a13945d898c296
def gy : Nat := 0x4fe342e2fe1a7f9b8ee7eb4a7c0f9e162bce33576b315ececbb6406837bf51f5

/-- b to the power e modulo m, by the bits of e from the top (fuel = bits). -/
def powMod (m b : Nat) : Nat → Nat → Nat
  | 0, _ => 1
  | k + 1, e =>
    let r := powMod m b k (e / 2)
    if e % 2 = 1 then r * r % m * b % m else r * r % m

def invMod (m a : Nat) : Nat := powMod m (a % m) 256 (m - 2)

/-- Affine points; none is the point at infinity. -/
abbrev Point := Option (Nat × Nat)

def add (a b : Point) : Point :=
  match a, b with
  | none, q => q
  | q, none => q
  | some (x1, y1), some (x2, y2) =>
    if x1 = x2 then
      if (y1 + y2) % p = 0 then none
      else
        let l := (3 * x1 * x1 + (p - 3)) * invMod p (2 * y1) % p
        let x3 := (l * l + 2 * (p - x1)) % p
        some (x3, (l * (x1 + p - x3) + (p - y1)) % p)
    else
      let l := (y2 + p - y1) * invMod p (x2 + p - x1) % p
      let x3 := (l * l + (p - x1) + (p - x2)) % p
      some (x3, (l * (x1 + p - x3) + (p - y1)) % p)

/-- k × q by the bits of k from the top (fuel = bits). -/
def mul (q : Point) : Nat → Nat → Point
  | 0, _ => none
  | f + 1, k =>
    let r := mul q f (k / 2)
    let d := add r r
    if k % 2 = 1 then add d q else d

/-- Does (r, s) sign the digest under the public key (X, Y)? -/
def verify (x y r s : Nat) (digest : Bytes) : Bool :=
  let onCurve := x < p && y < p && (y * y) % p == (x * x * x + (p - 3) * x + cb) % p
  if onCurve && 0 < r && r < n && 0 < s && s < n then
    let e := beNat digest
    let w := invMod n s
    match add (mul (some (gx, gy)) 256 (e * w % n)) (mul (some (x, y)) 256 (r * w % n)) with
    | none => false
    | some (x1, _) => x1 % n == r
  else false

end Sys2Proof.Machine.P256
end

