-- ==== Sys2Proof/Machine/Itinerary.lean ====
section
/-!
DEFINITION. The Itinerary image (R449–R462): the flash, the header, the checks of a slot, the records and their bodies.
-/
namespace Sys2Proof.Machine

/-! ### The flash (R449, R450) -/

/-- First flash address of slot A, slot B and the staging area. -/
def slotBase (slot : Nat) : Nat := if slot = 0 then 0 else 0xC00000
def stagingBase : Nat := 0x1800000

/-- The longest image. -/
def maxImage : Nat := 12582912

/-- A flash byte; an erased one reads 0xFF. -/
def Boot.flashByte (b : Boot) (a : Nat) : Byte := Sparse.getD b.flash a 0xFF

/-- Does a flash answer: ID bytes that are not all 0x00 or all 0xFF (R451)? -/
def Boot.flashPresent (b : Boot) : Bool := b.flashId != 0 && b.flashId != 0xFFFFFF

/-- Commands sent to the flash. -/
def State.sendFlash (s : State) (cs : List FlashCmd) : State :=
  { s with boot := { s.boot with flashCmds := s.boot.flashCmds ++ cs } }

/-- Steps 1 and 2 of the start's reading, and steps 3 and 4 (R451). -/
def flashProbe : List FlashCmd :=
  [{ code := 0x66, mhz := some 25 }, { code := 0x99, mhz := some 25 }, { code := 0x9F, count := 3, mhz := some 25 }]
def flashHeaders : List FlashCmd :=
  [{ code := 0xB7, mhz := some 25 }, { code := 0x03, addr := some (slotBase 0), count := 256, mhz := some 25 },
   { code := 0x03, addr := some (slotBase 1), count := 256, mhz := some 25 }]

/-- Step 5: the whole image that a header announces, with its clock and its dummy clocks. -/
def flashImage (a : Nat) (h : Bytes) : FlashCmd :=
  { code := 0xEB, addr := some a, count := leAt h 0x08 4, mhz := some (leAt h 0x19 1), dummy := leAt h 0x18 1 }

/-- Erasing the sector at an address; programming bytes that lie in one page (R449). -/
def eraseCmds (a : Nat) : List FlashCmd := [{ code := 0x06 }, { code := 0xDC, addr := some a }, { code := 0x05, count := 1 }]
def pageCmds (a n : Nat) : List FlashCmd :=
  [{ code := 0x06 }, { code := 0x12, addr := some a, count := n }, { code := 0x05, count := 1 }]

/-- Programming n bytes from an address on, page by page; a sector is erased before its first byte. -/
def programCmds (a n : Nat) : List FlashCmd :=
  if n = 0 then []
  else (List.range ((a + n - 1) / 256 + 1 - a / 256)).flatMap fun i =>
    let first := max a ((a / 256 + i) * 256)
    (if first % 65536 = 0 then eraseCmds first else []) ++ pageCmds first (min (a + n) ((a / 256 + i + 1) * 256) - first)

/-- n flash bytes from an address on. -/
def Boot.flashBytes (b : Boot) (a n : Nat) : Bytes := (List.range n).map fun i => b.flashByte (a + i)

/-! ### The header (R452–R455) -/

/-- The header's fields that outlast the check: length, seq, crc. -/
def hdrLength (h : Bytes) : Nat := leAt h 0x08 4
def hdrSeq (h : Bytes) : Word := BitVec.ofNat 32 (leAt h 0x0C 4)
def hdrCrc (h : Bytes) : Word := BitVec.ofNat 32 (leAt h 0x10 4)

/-- Is a header free of cause 2 (R452, R455)? -/
def headerGood (h : Bytes) : Bool :=
  slice h 0 4 == [0x49, 0x54, 0x49, 0x4E] && leAt h 4 2 == 1 && leAt h 6 2 == 256 &&
    decide (256 ≤ hdrLength h) && decide (hdrLength h ≤ maxImage) && hdrLength h % 8 == 0 &&
    decide (leAt h 0x14 4 < 2) &&
    decide (4 ≤ leAt h 0x18 1) && decide (leAt h 0x18 1 ≤ 15) && decide (25 ≤ leAt h 0x19 1) && decide (leAt h 0x19 1 ≤ 100) &&
    zeroAt h 0x1A 38 && zeroAt h 0xC0 64

/-- The image with the crc and the signature fields zero, as it is signed (R454). -/
def signedImage (img : Bytes) : Bytes :=
  img.take 0x10 ++ zeros 4 ++ slice img 0x14 (0x80 - 0x14) ++ zeros 64 ++ img.drop 0xC0

/-- The signature rule of R454: 0, or cause 4 or 5. -/
def signatureCause (otp : Otp) (img : Bytes) : Nat :=
  match otp.digest with
  | none => 0
  | some d =>
    if leAt img 0x14 4 % 2 = 0 then (if otp.sigRequired then 4 else 0)
    else if beNat (sha256 (slice img 0x40 64)) = d.toNat &&
        P256.verify (beAt img 0x40 32) (beAt img 0x60 32) (beAt img 0x80 32) (beAt img 0xA0 32) (sha256 (signedImage img)) then 0
    else 5

/-! ### Records (R457–R460) -/

/-- A record: type, instance, body. -/
structure Rec where
  type : Nat
  inst : Nat
  body : Bytes
  deriving DecidableEq, Repr, Inhabited

/-- Instances of a known type; 0 for an unknown one (R460). -/
def instances (type : Nat) : Nat :=
  match type with
  | 0x0001 | 0x0002 | 0x0003 | 0x0004 | 0x0005 | 0x0006 | 0x0007 => 1
  | 0x0010 | 0x0011 | 0x0012 | 0x0013 => 4
  | 0x0020 | 0x0021 => 4
  | 0x0022 | 0x0023 => 1
  | 0x0030 => 8
  | 0x0031 => 32
  | 0x0032 => 8
  | 0x0033 => 4
  | 0x0040 => 1
  | 0x0041 => 8
  | 0x0042 | 0x0043 => 1
  | 0x0050 => 4
  | 0x0060 => 1
  | 0xFFFF => 1
  | _ => 0

/-- The length that a body of a known type must have by its count fields (R462). -/
def bodyLength (type : Nat) (b : Bytes) : Nat :=
  match type with
  | 0x0001 => 56 + leAt b 48 4
  | 0x0002 => 8
  | 0x0003 => 12
  | 0x0004 => 136
  | 0x0005 => 24
  | 0x0006 => 8
  | 0x0007 => 48 + 8 * leAt b 13 1 + 16 * leAt b 14 1
  | 0x0010 => 152
  | 0x0011 => 32
  | 0x0012 => 8 + 32 * leAt b 0 1
  | 0x0013 => 32 + 8 * leAt b 24 2 * leAt b 26 2 + 8192 + 6150 * leAt b 1 1 + 2 * leAt b 2 2
  | 0x0020 => 16 + 4 * leAt b 8 4
  | 0x0021 => 204
  | 0x0022 => 72
  | 0x0023 => 48
  | 0x0030 => 38
  | 0x0031 => 8 + 8 * leAt b 0 2
  | 0x0032 => 96 + 4 * leAt b 10 2 + (if leAt b 12 1 = 1 then 8712 else 0) + 6150 + 1024
  | 0x0033 => 24 + leAt b 4 4 + leAt b 8 4
  | 0x0040 => 320
  | 0x0041 => 16
  | 0x0042 => 8
  | 0x0043 => 264
  | 0x0050 => 8 + 4 * leAt b 0 1
  | 0x0060 => 8 + 16 * leAt b 0 4
  | _ => 0

/-- Records from the first one to END, with the bytes left behind it; none where a body runs past the image. Fuel bounds
their number. -/
def parseRecords : Nat → Bytes → Option (List Rec × Bytes)
  | 0, _ => none
  | fuel + 1, bs =>
    let n := leAt bs 4 4
    if bs.length < 8 then (if bs.isEmpty then some ([], []) else none)
    else if bs.length < 8 + n then none
    else
      let r : Rec := { type := leAt bs 0 2, inst := leAt bs 2 2, body := slice bs 8 n }
      let rest := bs.drop (8 + ceilDiv n 8 * 8)
      if r.type = 0xFFFF then some ([r], rest)
      else (parseRecords fuel rest).map fun (rs, left) => (r :: rs, left)

/-- A record that is applied: known, its instance in range. -/
def Rec.used (r : Rec) : Bool := decide (r.inst < instances r.type)

/-- The first record of a type and instance. -/
def findRec (rs : List Rec) (type inst : Nat) : Option Rec := rs.find? fun r => r.type == type && r.inst == inst

/-- Do a type and an instance occur twice? -/
def repeats : List Rec → Bool
  | [] => false
  | r :: rs => rs.any (fun q => q.type == r.type && q.inst == r.inst) || repeats rs

/-- Cause 7 (R458). -/
def structureBad (rs : List Rec) (left : Bytes) : Bool :=
  !((rs.head?.any fun r => r.type == 1) && (rs.getLast?.any fun r => r.type == 0xFFFF && r.inst == 0) && left.isEmpty) ||
    [1, 2, 3].any (fun t => (findRec rs t 0).isNone) || repeats rs ||
    rs.any (fun r => r.used && r.body.length != bodyLength r.type r.body) ||
    rs.any (fun r => instances r.type == 0 && r.type.testBit 15)

/-- Cause 6: the IDENT record with which the records begin names another product or a later stepping (R455, R462), whatever
stands behind it. -/
def identBad (img : Bytes) : Bool :=
  let b := slice img 0x108 (leAt img 0x104 4)
  leAt img 0x100 2 == 1 && leAt img 0x102 2 == 0 && decide (56 ≤ b.length) &&
    (leAt b 0 4 != 0x5120 || decide (0xC2 < leAt b 4 1))

/-- Records of an image and what is left behind END. -/
def imageRecords (img : Bytes) : Option (List Rec × Bytes) := parseRecords (img.length / 8 + 1) (img.drop 0x100)

/-- The checks of a whole image after its header, in the order of R455: 0, or a cause of 3–7. -/
def imageCause (otp : Otp) (img : Bytes) : Nat :=
  let sig := signatureCause otp img
  if crc32 (img.drop 0x14) != hdrCrc img then 3
  else if sig != 0 then sig
  else if identBad img then 6
  else
    match imageRecords img with
    | none => 7
    | some (rs, left) => if structureBad rs left then 7 else 0

/-- The image that a header at a flash address announces. -/
def Boot.imageAt (b : Boot) (a : Nat) : Bytes := b.flashBytes a (hdrLength (b.flashBytes a 256))

/-- R455 on what lies at a flash address; the read itself may fail (cause 8). -/
def Boot.slotCause (b : Boot) (a : Nat) (readOk : Bool) : Nat :=
  if !headerGood (b.flashBytes a 256) then 2
  else if !readOk then 8
  else imageCause b.otp (b.imageAt a)

/-! ### Record bodies (R462) -/

/-- n numbers of `size` bytes from an offset on. -/
def numsAt (b : Bytes) (pos size n : Nat) : List Nat := (List.range n).map fun i => leAt b (pos + size * i) size
def intsAt (b : Bytes) (pos size n : Nat) : List Int := (List.range n).map fun i => leSigned b (pos + size * i) size

/-- A field whose range excludes 0 and that has a default. -/
def orDefault (n d : Nat) : Nat := if n = 0 then d else n

/-- A value outside its range takes the default (assumption log 30). -/
def ranged (n lo hi d : Nat) : Nat := if lo ≤ n && n ≤ hi then n else d

def parseIdent (b : Bytes) : IdentRec :=
  { buildTime := leAt b 8 8, label := slice b 16 32, patch := slice b 56 (leAt b 48 4) }

def parseDram (b : Bytes) : DramRec :=
  { channels := leAt b 0 1, density := leAt b 1 1, ranks := leAt b 2 1, speed := leAt b 3 1, wcrc := leAt b 4 1 != 0
    modes := numsAt b 5 1 4 }

def parseLanes (b : Bytes) : LanesRec := { rate := leAt b 0 1, fomMin := orDefault (leAt b 1 1) 64 }

/-- The chain list: the TILE_IDs at the positions that the record counts. -/
def parseCaravan (b : Bytes) : CaravanRec :=
  { upUsed := leAt b 0 1 != 0, dnUsed := leAt b 1 1 != 0, chain := numsAt b 8 1 (min 16 (leAt b 2 1)) }

/-- The TIME record; a log outside its range takes its default (assumption log 30). -/
def parseTime (b : Bytes) : TimeRec :=
  let sync := leSigned b 1 1
  let pdelay := leSigned b 2 1
  { domain := leAt b 0 1
    logSync := if -10 ≤ sync && sync ≤ -3 then sync else -7
    logPdelay := if -7 ≤ pdelay && pdelay ≤ 0 then pdelay else -4
    lockWaitMs := if leAt b 4 2 ≤ 1000 then leAt b 4 2 else 200 }

def parseWall (b : Bytes) : WallRec :=
  let w := min 32 (leAt b 13 1)
  let write (i : Nat) : PhyWrite :=
    let a := 48 + 8 * i
    { mmd := leAt b a 1 != 0, regOrDev := leAt b (a + 1) 1, mmdReg := leAt b (a + 4) 2, value := leAt b (a + 6) 2 }
  let entry (i : Nat) : RosterEntry :=
    let a := 48 + 8 * w + 16 * i
    let roles := leAt b (a + 1) 1
    { node := leAt b a 1, tracker := bit roles 0, host := bit roles 1, tile := bit roles 2
      limit := ranged (leAt b (a + 2) 2) 84 1538 256, mac := BitVec.ofNat 48 (beAt b (a + 4) 6) }
  { mac := BitVec.ofNat 48 (beAt b 0 6), etype := BitVec.ofNat 16 (orDefault (leAt b 6 2) 0x88B5), plca := leAt b 8 1 = 1
    nodeId := leAt b 9 1, nodeCount := leAt b 10 1, timeout := orDefault (leAt b 11 1) 32, phyAddr := leAt b 12 1
    writes := (List.range w).map write, roster := (List.range (min 32 (leAt b 14 1))).map entry, key := slice b 16 32 }

def parseRail (b : Bytes) (a : Nat) : RailRec :=
  { ain := leAt b a 1, timeoutMs := orDefault (leAt b (a + 1) 1) 20, gain := leSigned b (a + 2) 2
    offset := leSigned b (a + 4) 2, winMin := leSigned b (a + 6) 2, winMax := leSigned b (a + 8) 2, off := leSigned b (a + 10) 2 }

def parsePanel (b : Bytes) : PanelRec :=
  { pitch := leAt b 0 4, layout := leAt b 4 1 % 4, cdReady := leAt b 6 1 != 0, clearMs := orDefault (leAt b 7 1) 30
    thermAin := numsAt b 8 1 (min 4 (leAt b 5 1))
    table := (List.range 17).map fun i => (leAt b (12 + 4 * i) 2, leSigned b (14 + 4 * i) 2)
    rails := (List.range 4).map fun r => parseRail b (80 + 16 * r)
    tEq := orDefault (leAt b 144 2) 500, tGh := orDefault (leAt b 146 2) 500, tGl := orDefault (leAt b 148 2) 400 }

def parseOutput (b : Bytes) : OutputRec :=
  { width := leAt b 0 2, lines := leAt b 2 2, blank := leAt b 4 2, chCount := leAt b 6 2, period := leAt b 8 4
    phase := leAt b 12 4, chFirst := leAt b 16 1, chRate := leAt b 18 2, bgRed := leAt b 20 2, bgGreen := leAt b 22 2
    bgBlue := leAt b 24 2, staticN := leAt b 26 1, staticM := leAt b 27 1 }

def parseBand (b : Bytes) (a : Nat) : BandRec :=
  { lower := leSigned b a 2, minRefresh := leAt b (a + 2) 2, maxRefresh := leAt b (a + 4) 2, inversion := leAt b (a + 6) 1
    n := leAt b (a + 7) 1, phases := leAt b (a + 8) 1, lutSet := leAt b (a + 9) 1, vcomDuty := leAt b (a + 10) 2
    gckRise := leAt b (a + 12) 4, gckWidth := leAt b (a + 16) 4, stvLead := leAt b (a + 20) 4, stvWidth := leAt b (a + 24) 4 }

def parseBands (b : Bytes) : List BandRec := (List.range (leAt b 0 1)).map fun i => parseBand b (8 + 32 * i)

def parseCalib (b : Bytes) : CalibRec :=
  let sets := leAt b 1 1
  let decode := leAt b 2 2
  let cells := leAt b 24 2 * leAt b 26 2
  let lutAt := 32 + 8 * cells + 8192
  { lensArray := leAt b 0 1 != 0, lutSets := sets, pitchU := leAt b 4 4, pitchV := leAt b 8 4, slantNum := leSigned b 12 2
    slantDen := leAt b 14 2, phaseU0 := leAt b 16 4, phaseV0 := leAt b 20 4, lensCode := leAt b 0 1, decodeCount := decode
    cellsX := leAt b 24 2, cellsY := leAt b 26 2
    warp := (numsAt b 32 8 cells).map (BitVec.ofNat 64)
    amap := (numsAt b (32 + 8 * cells) 8 1024).map (BitVec.ofNat 64)
    luts := (numsAt b lutAt 2 (3075 * sets)).map (BitVec.ofNat 16)
    decode := (numsAt b (lutAt + 6150 * sets) 2 decode).map (BitVec.ofNat 16) }

def parseProg (b : Bytes) : ProgRec :=
  let modes := leAt b 0 1
  { view := bit modes 0, depth := bit modes 1, tracked := bit modes 2, cost := leAt b 1 1, slots := leAt b 2 1, vrf := leAt b 4 2
    code := (numsAt b 16 4 (leAt b 8 4)).map (BitVec.ofNat 32) }

def parseRaymode (b : Bytes) : RaymodeRec :=
  { mode := leAt b 0 1, tracked := leAt b 1 1 != 0, prog := leAt b 2 1, format := leAt b 3 1, nu := leAt b 4 1, nv := leAt b 5 1
    depth := leAt b 6 1 != 0, transfer := leAt b 7 1, vw := leAt b 8 2, vh := leAt b 10 2, xtalk := leAt b 12 2
    depthTol := leAt b 14 2, tanU := BitVec.ofNat 32 (leAt b 16 4), tanV := BitVec.ofNat 32 (leAt b 20 4), confMin := leAt b 24 1
    dither := leAt b 25 1, outBits := leAt b 26 1, refX := leSigned b 28 4, refY := leSigned b 32 4, ovlBytes := leAt b 36 4
    planes := (List.range 4).map fun p =>
      { enable := leAt b (44 + 8 * p) 1 != 0, depthTest := leAt b (45 + 8 * p) 1 != 0, dp := leAt b (46 + 8 * p) 2 }
    user := (numsAt b 76 4 32).map (BitVec.ofNat 32) }

/-- The CODEC record; none where its chain count is out of range (R159). -/
def parseCodec (b : Bytes) : Option CodecRec :=
  if leAt b 0 2 = 0 || 4096 < leAt b 0 2 then none
  else some
    { chains := leAt b 0 2, encMask := BitVec.ofNat 16 (leAt b 2 2), legPool := max 8 (min 4096 (leAt b 4 2))
      outs := (List.range 4).map fun o => (leAt b (8 + 16 * o) 4, leAt b (12 + 16 * o) 4) }

def parseStock (b : Bytes) : StockRec :=
  { rooms := leAt b 0 4, lists := min 16 (leAt b 4 1), auto := numsAt b 8 1 4, playlists := numsAt b 16 2 16 }

def parseCamera (b : Bytes) : CameraRec :=
  { lanes := leAt b 0 1, dtype := leAt b 1 1, vc := leAt b 2 1, cfa := leAt b 3 1, width := leAt b 4 2, height := leAt b 6 2
    output := leAt b 8 1, fsyncDiv := leAt b 9 1, fsync := leAt b 10 1, fsyncUs := leAt b 11 1
    lateUs := orDefault (leAt b 12 2) 1000, cciMaster := leAt b 14 1, cciAddr := leAt b 15 1, cciSpeed := leAt b 16 1
    ring := leAt b 17 1, encode := leAt b 18 1 != 0, level := leAt b 19 1, chain := leAt b 20 2, legRows := leAt b 22 2
    alloc := leAt b 26 4, outFormat := leAt b 30 1, space := leAt b 31 1, outWidth := leAt b 32 2, outHeight := leAt b 34 2 }

def parseScript (b : Bytes) : List ScriptStep :=
  (List.range (leAt b 0 2)).map fun i =>
    let a := 8 + 8 * i
    { op := leAt b a 1, bytes := leAt b (a + 1) 1 % 4, shift := leAt b (a + 1) 1 / 16, reg := leAt b (a + 2) 2
      value := leAt b (a + 4) 2, mask := leAt b (a + 6) 2 }

def parseIsp (b : Bytes) : IspRec :=
  let n := leAt b 10 2
  let shading := leAt b 12 1 = 1
  let shadeAt := 96 + 4 * n
  let toneAt := shadeAt + (if shading then 8712 else 0)
  { black := numsAt b 0 2 4, dpcThr := leAt b 8 2, wb := numsAt b 16 2 4, ccm := intsAt b 24 2 9, ccmOff := intsAt b 42 2 3
    csc := intsAt b 48 2 9, cscOff := (numsAt b 66 2 3).map fun (x : Nat) => (x : Int)
    taps := (List.range 4).map fun i =>
      { enable := leAt b (72 + 4 * i) 1 != 0, decimation := leAt b (73 + 4 * i) 1, ring := leAt b (74 + 4 * i) 1
        send := leAt b (75 + 4 * i) 1 != 0 }
    tapBytes := leAt b 88 4
    defects := (List.range n).map fun i => (leAt b (96 + 4 * i) 2, leAt b (98 + 4 * i) 2)
    shading
    shade := if shading then (numsAt b shadeAt 2 4356).map (BitVec.ofNat 16) else []
    tone := (numsAt b toneAt 2 3075).map (BitVec.ofNat 16)
    coefs := intsAt b (toneAt + 6150) 2 512 }

def parseCard (b : Bytes) : CardRec :=
  { plane := leAt b 0 1, cardAfter := orDefault (leAt b 2 2) 120, list := slice b 24 (leAt b 4 4)
    image := slice b (24 + leAt b 4 4) (leAt b 8 4), imageOffset := leAt b 12 8 }

def parsePower (b : Bytes) : PowerRec :=
  { fbb := (List.range 48).map fun k => leAt b k 1 % 4
    rbb := (List.range 48).map fun k => leAt b k 1 / 4 % 4
    coreAin := if leAt b 176 1 = 0xFF then none else some (leAt b 176 1)
    coreGain := leAt b 178 2
    blocks := (List.range 8).map fun i => (leAt b (184 + 16 * i) 4, leAt b (188 + 16 * i) 4, leAt b (192 + 16 * i) 4)
    leak25 := leAt b 312 4, leakDouble := leAt b 316 2 }

def parseSleep (b : Bytes) : SleepRec :=
  { off := leAt b 0 1 = 2, static := leAt b 1 1 = 1, idleUs := leAt b 2 2
    members := (List.range 64).filter fun n => bit (leAt b 8 8) n }

/-- Does a SLEEP_GROUP record keep R418, beside domains that lower groups already hold? -/
def sleepOk (b : Bytes) (taken : List Nat) : Bool :=
  let r := parseSleep b
  (leAt b 0 1 == 1 || leAt b 0 1 == 2) && decide (leAt b 1 1 < 2) && (r.static || r.idleUs != 0) &&
    r.members.all fun n => (decide (n < 36) || n == 37) && !taken.contains n

/-- Does a THERMAL record keep R441? -/
def thermalOk (b : Bytes) : Bool :=
  decide (leAt b 0 1 < leAt b 1 1) && decide (leAt b 1 1 < leAt b 2 1) && decide (leAt b 2 1 < leAt b 3 1) &&
    decide (leAt b 3 1 ≤ 160)

/-- A REGWRITE record's entries: address, value, mask. -/
def parseRegwrites (b : Bytes) : List (Nat × Word × Word) :=
  (List.range (leAt b 0 4)).map fun i =>
    let a := 8 + 16 * i
    (leAt b a 4, BitVec.ofNat 32 (leAt b (a + 4) 4), BitVec.ofNat 32 (leAt b (a + 8) 4))

end Sys2Proof.Machine
end

