-- ==== Sys2Proof/Machine/Start.lean ====
section
/-!
DEFINITION. The start (R445–R469): reset release, slot choice, safe harbour, application of the records, DRAM training, the
room plan, program and calibration loading, and admission.
-/
namespace Sys2Proof.Machine

/-! ### Problems of records (R458, R459, R461) -/

/-- EV250 and CFG_REC_ERR. -/
def State.recordProblem (s : State) (type inst cause : Nat) : State :=
  let arg := type * 2 ^ 16 + inst % 256 * 2 ^ 8 + cause
  (s.raise 250 cause arg).setReg CFG_REC_ERR (BitVec.ofNat 32 arg)

/-- Records skipped or ignored, in image order. -/
def State.noteSkipped (s : State) (rs : List Rec) : State :=
  rs.foldl (fun (s : State) r =>
    if r.used then s else s.recordProblem r.type r.inst (if instances r.type = 0 then 1 else 4)) s

/-! ### Parsed records (R460, R461) -/

/-- The body of a record, parsed. -/
def recOf {α : Type} (rs : List Rec) (type inst : Nat) (f : Bytes → α) : Option α := (findRec rs type inst).map fun r => f r.body

/-- The chain position of the own tile. -/
def ownPosition (c : CaravanRec) (tile : Nat) : Option Nat := c.chain.findIdx? fun t => t == tile

/-- The CARAVAN record as it acts: both hops stay unused without the own tile in the list or without a LANES record. -/
def usedCaravan (rs : List Rec) (tile : Nat) : Option CaravanRec :=
  (recOf rs 0x05 0 parseCaravan).map fun c =>
    if (ownPosition c tile).isSome && (findRec rs 0x04 0).isSome then c else { c with upUsed := false, dnUsed := false }

/-- The sleep groups that keep R418, each beside the domains of the lower ones. -/
def sleepGroups (rs : List Rec) : List (Nat × SleepRec) :=
  ((List.range 8).foldl (fun (acc : List (Nat × SleepRec) × List Nat) g =>
    match findRec rs 0x41 g with
    | none => acc
    | some r =>
      if sleepOk r.body acc.2 then (acc.1 ++ [(g, parseSleep r.body)], acc.2 ++ (parseSleep r.body).members) else acc)
    ([], [])).1

/-- The records as applied. Ray programs follow with the loader. -/
def itinOf (rs : List Rec) (tile : Nat) : Itin :=
  let groups := sleepGroups rs
  { ident := (recOf rs 0x01 0 parseIdent).getD {}
    engineCap := min 2 ((recOf rs 0x02 0 fun b => leAt b 0 1).getD 0)
    dram := recOf rs 0x03 0 parseDram
    lanes := recOf rs 0x04 0 parseLanes
    caravan := usedCaravan rs tile
    time := (recOf rs 0x06 0 parseTime).getD {}
    wall := recOf rs 0x07 0 parseWall
    panel := Vector.ofFn fun (o : Fin 4) => recOf rs 0x10 o.val parsePanel
    output := Vector.ofFn fun (o : Fin 4) => recOf rs 0x11 o.val parseOutput
    bands := Vector.ofFn fun (o : Fin 4) => (recOf rs 0x12 o.val parseBands).getD []
    calib := Vector.ofFn fun (o : Fin 4) => recOf rs 0x13 o.val parseCalib
    prog := Vector.ofFn fun (k : Fin 4) => recOf rs 0x20 k.val parseProg
    raymode := Vector.ofFn fun (o : Fin 4) => recOf rs 0x21 o.val parseRaymode
    codec := (recOf rs 0x22 0 parseCodec).bind id
    stock := recOf rs 0x23 0 parseStock
    camera := Vector.ofFn fun (p : Fin 8) => recOf rs 0x30 p.val parseCamera
    scripts := Vector.ofFn fun (k : Fin 32) => (recOf rs 0x31 k.val parseScript).getD []
    isp := Vector.ofFn fun (p : Fin 8) => recOf rs 0x32 p.val parseIsp
    card := Vector.ofFn fun (o : Fin 4) => recOf rs 0x33 o.val parseCard
    power := (recOf rs 0x40 0 parsePower).getD {}
    sleep := Vector.ofFn fun (g : Fin 8) => (groups.find? fun x => x.1 == g.val).map (·.2)
    logBytes := (recOf rs 0x43 0 fun b => leAt b 0 4).getD 0
    fallback := Vector.ofFn fun (o : Fin 4) => (recOf rs 0x50 o.val fun b => numsAt b 8 4 (leAt b 0 1)).getD [] }

/-! ### Registers set from records, in the order of the type table (R461) -/

def State.applyDram (s : State) : State :=
  match s.itin.dram with
  | none => s
  | some d =>
    let s := ((s.setFld DRC_CFG_channels d.channels).setFld DRC_CFG_d16 d.density).setFld DRC_CFG_ranks2 (d.ranks - 1)
    (s.setFld DRC_CFG_speed d.speed).setFld DRC_CFG_wcrc (b2n d.wcrc)

/-- LANES: the FFE taps, within the ranges of R298, and inversion of each lane. -/
def State.applyLanes (s : State) (rs : List Rec) : State :=
  match findRec rs 0x04 0 with
  | none => s
  | some r => (List.range 32).foldl (fun (s : State) n =>
      let a := 8 + 4 * n
      ((s.setFld (LPH_CFG_pre n) (min 10 (leAt r.body a 1))).setFld (LPH_CFG_post n) (min 20 (leAt r.body (a + 1) 1))).setFld
        (LPH_CFG_invert n) (leAt r.body (a + 2) 1)) s

/-- CARAVAN: hops, position and rate. -/
def State.applyCaravan (s : State) (rs : List Rec) : State :=
  let s := s.setFld LNK_STAT_rate ((s.itin.lanes.map (·.rate)).getD 0)
  match recOf rs 0x05 0 parseCaravan, s.itin.caravan with
  | some declared, some c =>
    let s := if (ownPosition declared s.tileId).isNone then s.recordProblem 0x05 0 3 else s
    let s := s.setFld LNK_STAT_pos ((ownPosition declared s.tileId).getD 0)
    let s := (s.setFld LNK_STAT_up_state (b2n c.upUsed)).setFld LNK_STAT_dn_state (b2n c.dnUsed)
    (s.setHop .up { s.hop .up with since := s.now }).setHop .dn { s.hop .dn with since := s.now }
  | _, _ => s

/-- The MAC is enabled: PLCA is not OK yet, so that the bound is void (R358, R379). -/
def State.enableMac (s : State) : State :=
  ({ s with wall := { s.wall with up := true } }.setFld WBS_STAT_fallback 1).voidBound

/-- The wall bus starts (R357, R362, R469): settings of the WALLBUS record, its PHY writes in order, and the MAC enabled after
the last of them. A write that fails is the last one sent: EV127 with its index, and the wall bus stays down. -/
def State.startWall (s : State) (fail : Option (Fin 32)) : State :=
  match s.wallRec with
  | some w =>
    let s := { s with wall := { s.wall with plca := w.plca, mac := w.mac, etype := w.etype } }
    let s := (s.setFld WBS_STAT_node_id w.nodeId).setFld WBS_STAT_node_count w.nodeCount
    match fail.filter fun i => decide (i.val < w.writes.length) with
    | some i => (s.sendMdio w.phyAddr (w.writes.take (i.val + 1))).raiseOpen 127 i.val
    | none => (s.sendMdio w.phyAddr w.writes).enableMac
  | none => ({ s with wall := { s.wall with mac := s.dieMac } }.setFld WBS_STAT_safe 1).enableMac

/-- PANEL, OUTPUT, CALIB and RAYMODE of an output: RAY_OUT_CFG, RAY_OVL_CTRL, SCN_BG. -/
def State.applyOutput (s : State) (o : Output) : State :=
  let i := o.val
  let s := match s.itin.panel[o] with
    | some p => s.setFld (RAY_OUT_CFG_layout i) p.layout
    | none => s
  let s := match s.itin.output[o] with
    | some r => ((s.setFld (SCN_BG_red i) r.bgRed).setFld (SCN_BG_green i) r.bgGreen).setFld (SCN_BG_blue i) r.bgBlue
    | none => s
  let s := match s.itin.calib[o] with
    | some c => s.setFld (RAY_OUT_CFG_lens_array i) (b2n c.lensArray)
    | none => s
  match s.itin.raymode[o] with
  | some r =>
    let s := ((s.setFld (RAY_OUT_CFG_mode i) r.mode).setFld (RAY_OUT_CFG_tracked i) (b2n r.tracked)).setFld
      (RAY_OUT_CFG_prog i) r.prog
    let s := (s.setFld (RAY_OUT_CFG_dither i) r.dither).setFld (RAY_OUT_CFG_out8 i) (b2n (r.outBits = 8))
    (s.setFld (RAY_OVL_CTRL_enable i) (bitsNat (r.planes.map (·.enable)))).setFld (RAY_OVL_CTRL_depth_test i)
      (bitsNat (r.planes.map (·.depthTest)))
  | none => s

/-- POWER: the monitor thresholds, 0 for the default (R424). -/
def State.applyMonitors (s : State) (rs : List Rec) : State :=
  match findRec rs 0x40 0 with
  | none => s
  | some r => (List.range 16).foldl (fun (s : State) m =>
      let v (k : Nat) : Nat := leAt r.body (48 + 8 * m + 2 * k) 2
      let put (s : State) (f : RegField) (x : Nat) : State := if x = 0 then s else s.setFld f x
      put (put (put s (PWR_MON_CFG_warn_mv m) (v 0)) (PWR_MON_CFG_reset_mv m) (v 1)) (PWR_MON_CFG_hyst_mv m) (v 2)) s

/-- SLEEP_GROUP: a group with a record that keeps R418 is awake; EV224 for one that does not. -/
def State.applySleep (s : State) (rs : List Rec) : State :=
  allGroups.foldl (fun (s : State) g =>
    if (s.itin.sleep[g]).isSome then s.setFld (PWR_SG_STAT_state g.val) 1
    else if (findRec rs 0x41 g.val).isSome then s.raise 224 3 (g.val * 2 ^ 8)
    else s) s

/-- THERMAL (R441). -/
def State.applyThermal (s : State) (rs : List Rec) : State :=
  match findRec rs 0x42 0 with
  | none => s
  | some r =>
    if !thermalOk r.body then s.raiseOpen 205 0
    else
      ((s.setFld THM_CFG_warning (leAt r.body 0 1)).setFld THM_CFG_throttle (leAt r.body 1 1)).setFld THM_CFG_throttle2
        (leAt r.body 2 1) |>.setFld THM_CFG_shutdown (leAt r.body 3 1)

/-- EVENTS: the routing bytes; bit 1 is the firmware's (R477, R515). -/
def State.applyRoutes (s : State) (rs : List Rec) : State :=
  match findRec rs 0x43 0 with
  | none => s
  | some r => (List.range 64).foldl (fun (s : State) i =>
      s.setReg (EVT_ROUTE i) (BitVec.ofNat 32 (leAt r.body (8 + 4 * i) 4) &&& 0x1D1D1D1D)) s

/-- Has a register an RW field? -/
def hasRw (a : Nat) : Bool := (regAt a).any fun x => accMask x.1 .rw != 0

/-- REGWRITE entries in image order (R12, R461). -/
def State.applyRegwrites (s : State) (rs : List Rec) : State :=
  match findRec rs 0x60 0 with
  | none => s
  | some r => (parseRegwrites r.body).foldl (fun (s : State) (a, v, m) =>
      if hasRw a then
        ({ s with itin := { s.itin with regwrites := s.itin.regwrites ++ [(a, v, m)] } }).applyRegwrite a v m
      else s.recordProblem 0x60 0 2) s

/-- A domain stays off until the next start (R414). -/
def State.offFrom (s : State) (pd : Nat) : State :=
  let s := s.offNow pd
  { s with power := { s.power with offFromStart := s.power.offFromStart ++ [pd] } }

/-- Outputs that keep R251: each beside the channels of the lower ones that keep it. -/
def State.channelOwners (s : State) : List (Output × Nat × Nat) :=
  allOutputs.foldl (fun (acc : List (Output × Nat × Nat)) o =>
    match s.itin.output[o] with
    | none => acc
    | some r =>
      let n := r.chCount
      let a := r.chFirst
      let free := acc.all fun (_, a', n') => decide (a + n ≤ a') || decide (a' + n' ≤ a)
      if n != 0 && decide (a + n ≤ 256) && free && 3 * r.width % n == 0 && decide (3 * r.width / n ≤ 4095) then acc ++ [(o, a, n)]
      else acc) []

/-- Domains that are off from start (R414). -/
def State.startDomains (s : State) : State :=
  let s := if allPorts.any fun p => (s.itin.camera[p]).isSome then s else s.offFrom 36
  let s := if s.itin.caravan.any fun c => c.upUsed || c.dnUsed then s else s.offFrom 38
  let owners := s.channelOwners
  (List.range 4).foldl (fun (s : State) g =>
    if owners.any fun (_, a, n) => decide (a < 64 * g + 64) && decide (64 * g < a + n) then s else s.offFrom (39 + g)) s

/-! ### Camera ports at the start (R382, R383, R391) -/

/-- Do a port's values keep R380, R382, R390, R391 and R393? -/
def portValuesOk (c : CameraRec) (isp : IspRec) (hasOutput : Bool) : Bool :=
  hasOutput && decide (1 ≤ c.lanes) && decide (c.lanes ≤ 4) && decide (0x2A ≤ c.dtype) && decide (c.dtype ≤ 0x2C) &&
    decide (c.vc ≤ 3) && decide (c.cfa ≤ 3) && decide (64 ≤ c.width) && decide (c.width ≤ 4096) && c.width % 4 == 0 &&
    decide (16 ≤ c.height) && decide (c.height ≤ 8192) && c.height % 2 == 0 && decide (1 ≤ c.fsyncDiv) && decide (c.fsyncDiv ≤ 16) &&
    decide (c.fsync ≤ 2) && (c.fsync == 0 || c.fsyncUs != 0) && decide (c.cciMaster ≤ 3) && decide (c.cciAddr < 128) &&
    decide (c.cciSpeed ≤ 2) && decide (2 ≤ c.ring) && decide (c.ring ≤ 4) &&
    (!c.encode || (decide (c.level ≤ 9) && decide (8 ≤ c.legRows) && decide (c.legRows ≤ 256) && c.legRows % 8 == 0)) &&
    decide (c.outFormat ≤ 1) && decide (c.space ≤ 2) && (c.space != 2 || c.outWidth % 2 == 0) && decide (c.width ≤ 16 * c.outWidth) && decide (c.outWidth ≤ c.width) &&
    decide (c.height ≤ 16 * c.outHeight) && decide (c.outHeight ≤ c.height) && isp.black.all fun x => decide (x ≤ 32767)

/-- A port's load as clocks over nanoseconds (R383). -/
def portLoad (c : CameraRec) (period : Nat) : Nat × Nat :=
  ((ceilDiv c.width 4 + 32) * c.height, max 1 (period * c.fsyncDiv))

/-- Does a load exceed 0.85 × 1.25 clocks per nanosecond? -/
def overLoad (l : List (Nat × Nat)) : Bool :=
  let (n, d) := sumFrac l
  decide (17 * d < 16 * n)

/-- The reason to reject a port beside the loads accepted so far: 0 none. -/
def State.portReject (s : State) (p : Port) (c : CameraRec) (taken : List (Nat × Nat)) : Nat :=
  let o : Output := Fin.ofNat 4 c.output
  let ok := match s.itin.isp[p] with
    | some isp => portValuesOk c isp (decide (c.output ≤ 3) && (s.itin.output[o]).isSome)
    | none => false
  if !ok then 1
  else if c.encode && decide (1048576 < c.legRows * c.outWidth * (if c.outFormat = 0 then 3 else 4)) then 2
  else if overLoad (taken ++ [portLoad c (s.outRec o).period]) then 3
  else 0

/-- Ports accepted or rejected in increasing number; accepted ones run INIT. -/
def State.startPorts (s : State) : State :=
  let (s, loads) := allPorts.foldl (fun (acc : State × List (Nat × Nat)) p =>
    match acc.1.itin.camera[p] with
    | none => acc
    | some c =>
      match acc.1.portReject p c acc.2 with
      | 0 => (acc.1.startPort p, acc.2 ++ [portLoad c (acc.1.outRec (Fin.ofNat 4 c.output)).period])
      | k => (acc.1.raise 163 k (k * 2 ^ 24 + p.val), acc.2)) (s, [])
  let (n, d) := sumFrac loads
  s.setFld ISP_STAT_load (1000 * n / d)

/-- Every port is off (R214, R238). -/
def State.portsOff (s : State) : State :=
  allPorts.foldl (fun (s : State) p => (s.setCam p {}).setFld (CAM_P_STAT_state p.val) 0) s

/-- The ports that were accepted. -/
def State.portsOn (s : State) : List Port := allPorts.filter fun p => s.fld (CAM_P_STAT_state p.val) != 0

/-! ### Admission before the first tick: what is checked once -/

/-- The periods that an output can run at (R41): nominal, fallback rates, each band's maximum refresh. -/
def State.runPeriods (s : State) (o : Output) : List Nat :=
  ((s.outRec o).period :: (s.itin.fallback[o]).take 8) ++ (s.bands o).map maxRefreshPeriod

/-- The CALIB ranges of R57, R63 and R64. -/
def calibOk (c : CalibRec) (wsub lines : Nat) : Bool :=
  decide (c.lensCode ≤ 1) && decide (1 ≤ c.lutSets) && decide (c.lutSets ≤ 8) &&
    (c.decodeCount == 0 || c.decodeCount == 256 || c.decodeCount == 1024) &&
    decide (2 * 65536 ≤ c.pitchU) && decide (c.pitchU ≤ 4096 * 65536) && decide (1 ≤ c.slantDen) && decide (c.slantDen ≤ 4096) &&
    (c.lensCode == 0 || (decide (65536 ≤ c.pitchV) && decide (c.pitchV ≤ 4096 * 65536))) &&
    c.cellsX == ceilDiv wsub 32 && c.cellsY == ceilDiv lines 32

/-- Is an fp32 word finite and not zero? -/
def finiteNonzero (w : Word) : Bool := bits w.toNat 30 23 != 255 && bits w.toNat 30 0 != 0

/-- The RAYMODE ranges of R53 and R69. -/
def raymodeOk (r : RaymodeRec) (c : CalibRec) : Bool :=
  decide (r.mode ≤ 1) && decide (1 ≤ r.nu) && decide (r.nu ≤ 16) && decide (1 ≤ r.nv) && decide (r.nv ≤ 16) &&
    decide (8 ≤ r.vw) && decide (r.vw ≤ 4096) && r.vw % 8 == 0 && decide (8 ≤ r.vh) && decide (r.vh ≤ 4096) && r.vh % 8 == 0 &&
    decide (r.format ≤ 1) && decide (r.transfer ≤ 2) && (r.transfer != 2 || c.decodeCount != 0) && decide (r.xtalk ≤ 16384) &&
    decide (r.depthTol ≤ 4095) && finiteNonzero r.tanU && finiteNonzero r.tanV && (r.outBits == 8 || r.outBits == 10)

/-- The OUTPUT ranges of R13, R87 and R250. -/
def outputOk (r : OutputRec) : Bool :=
  decide (8 ≤ r.width) && decide (r.width ≤ 15360) && decide (8 ≤ r.lines) && decide (r.lines ≤ 8640) && r.lines % 8 == 0 &&
    decide (56 ≤ r.blank) && decide (r.blank ≤ 4095) && decide (r.phase < r.period) && r.chFirst % 8 == 0 &&
    decide (8 ≤ r.chCount) && decide (r.chCount ≤ 256) && r.chCount % 8 == 0 && decide (120 ≤ r.chRate) && decide (r.chRate ≤ 320) &&
    (r.staticN == 0 || (decide (2 ≤ r.staticM) && decide (r.staticM ≤ 16)))

/-- The PANEL ranges of R277, R285 and R290. -/
def panelOk (p : PanelRec) : Bool :=
  decide (1 ≤ p.thermAin.length) && decide (p.clearMs ≤ 100) && p.rails.all (fun r => decide (r.timeoutMs ≤ 50)) &&
    decide (500 ≤ p.tEq) && decide (200 ≤ p.tGh) && decide (200 ≤ p.tGl) && decide (p.tEq + p.tGh + p.tGl ≤ 1500)

/-- Do the bands' lower bounds ascend (R278)? -/
def ascending : List BandRec → Bool
  | [] => true
  | [_] => true
  | a :: b :: rest => decide (a.lower < b.lower) && ascending (b :: rest)

/-- A band by R68, R270 and R278; the line period is p over `total` lines. -/
def bandOk (b : BandRec) (lutSets p total : Nat) : Bool :=
  let pulse := (b.gckRise + b.gckWidth) * total
  decide (1 ≤ b.minRefresh) && decide (b.minRefresh ≤ b.maxRefresh) && decide (b.inversion ≤ 3) && (b.inversion != 2 || b.n != 0) &&
    decide (2 ≤ b.phases) && decide (b.phases ≤ 8) && decide (b.lutSet < lutSets) && decide (pulse ≤ b.phases * p) &&
    decide (pulse ≤ 8 * p) && decide (b.stvLead * total ≤ p)

/-- Bytes of D for S codes (R260). -/
def rowDataBytes (s out8 : Nat) : Nat := if out8 = 1 then s else ceilDiv (10 * s) 8

/-- The ray program of an output by R70 and R129. -/
def State.programOk (s : State) (o : Output) (mode : Nat) : Bool :=
  let cfg := (s.out o).render.cfg
  match s.itin.prog.get (Fin.ofNat 4 (bits cfg.toNat 17 16)) with
  | none => false
  | some p => s.cfgOk cfg && (if mode = 0 then p.view && decide (p.cost ≤ 96) else p.depth && decide (p.cost ≤ 192))

/-- Are the spaces that an output needs mapped (R214)? -/
def State.spacesOk (s : State) (o : Output) : Bool :=
  s.spaceRooms o.val != 0 && s.spaceRooms spCTX != 0 && s.spaceRooms spOVL != 0 && s.spaceRooms spLEG != 0

/-- The configuration checks of an output before the first tick: R13, R53, R63, R64, R67–R70, R87, R129, R159, R214, R250, R251,
R263, R270, R278, R290, R460. -/
def State.configOk (s : State) (o : Output) : Bool :=
  match s.itin.output[o], s.itin.panel[o], s.itin.calib[o], s.itin.raymode[o], s.itin.codec with
  | some r, some pan, some cal, some rm, some _ =>
    let bands := s.bands o
    let periods := s.runPeriods o
    let p := periods.foldl min r.period
    let total := r.lines + r.blank
    let out8 := b2n (s.startsOut8 o)
    outputOk r && panelOk pan && calibOk cal (s.wsub o) r.lines && raymodeOk rm cal && s.programOk o rm.mode &&
      s.calibFit.1.contains o && s.channelOwners.any (fun x => x.1 == o) && s.spacesOk o &&
      decide (1 ≤ bands.length) && decide (bands.length ≤ 8) && ascending bands && periods.all (fun q => q != 0) &&
      decide ((19 + rowDataBytes (s.perChannel o) out8) * 1000 * total ≤ r.chRate * p) &&
      bands.all fun b => bandOk b cal.lutSets p total
  | _, _, _, _, _ => false

/-- The configured outputs (R460). -/
def State.configured (s : State) : List Output := allOutputs.filter fun o => (s.itin.output[o]).isSome

/-- An output fails admission for its configuration. -/
def State.failOutput (s : State) (o : Output) : State := s.raise 233 5 (o.val * 2 ^ 30 + 5)

/-- Admission of every output and power-on of each admitted one (R36, R278, R287). -/
def State.startOutputs (s : State) : State :=
  let (good, bad) := s.configured.partition s.configOk
  let s := bad.foldl State.failOutput s
  let s := good.foldl State.takeBand s
  let res := s.admission good true
  let s := res.foldl State.applyAdmitted (s.noteTargets res)
  let s := if good.isEmpty then s else s.setBuckets res
  good.foldl State.powerOn s

/-! ### Ray programs (R127–R129) -/

/-- Word offsets of a program's instructions; none where a word does not decode. Fuel bounds their number. -/
def programStarts : Nat → Nat → List Word → Option (List (Nat × Instr))
  | _, _, [] => some []
  | 0, _, _ => none
  | fuel + 1, k, ws =>
    match decodeEngine 0 ws with
    | none => none
    | some (i, n) => (programStarts fuel (k + n) (ws.drop n)).map fun rest => (k, i) :: rest

/-- The offset that a branch names. -/
def branchOffset (i : Instr) (k : Nat) : Option Int :=
  match i with
  | .bra _ f => some ((k : Int) + (formOffset f).toInt)
  | .loop _ f => some ((k : Int) + (formOffset f).toInt)
  | _ => none

/-- Does the loader accept a program at a base (R128, R129)? -/
def loadable (p : ProgRec) (base : Nat) : Bool :=
  match programStarts (p.code.length + 1) 0 p.code with
  | none => false
  | some is =>
    let starts := is.map fun x => (x.1 : Int)
    decide (1 ≤ p.cost) && decide (p.slots ≤ 15) && decide (32 * p.slots ≤ p.cost) && decide (base + p.code.length ≤ 8192) &&
      is.all fun (k, i) => (branchOffset i k).all starts.contains

/-- The programs loaded in slot order, each at a multiple of 16 words. -/
def State.loadPrograms (s : State) : State :=
  ((List.finRange 4).foldl (fun (acc : State × Nat) k =>
    match acc.1.itin.prog.get k with
    | none => acc
    | some p =>
      let (s, base) := acc
      if !loadable p base then ({ s with itin := { s.itin with prog := s.itin.prog.set k none } }, base)
      else
        let next := ceilDiv (base + p.code.length) 16 * 16
        let imem := s.imem ++ List.replicate (base - s.imem.length) 0 ++ p.code
        let s := { s with imem }
        let s := s.setReg (ENG_PROG_INFO k.val) (BitVec.ofNat 32 (2 ^ 31 + b2n p.view * 2 ^ 30 + b2n p.depth * 2 ^ 29 +
          b2n p.tracked * 2 ^ 28 + p.slots * 2 ^ 24 + p.cost * 2 ^ 16 + p.code.length))
        (s.setReg (ENG_PROG_LOC k.val) (BitVec.ofNat 32 (p.vrf * 2 ^ 16 + base)), next)) (s, 0)).1

/-! ### The room plan and the alcoves (R200, R208, R214) -/

/-- Rooms that the spaces ask for, in the order of R200, where `left` are the rooms still free. -/
def State.spaceDemand (s : State) (sp left : Nat) : Nat :=
  if sp = spFW then 64
  else if sp < 4 then
    let o : Output := Fin.ofNat 4 sp
    if s.hasOvl o then 2 * halfRooms (s.raymode o) else 0
  else if sp = spCTX then ceilDiv (12288 * s.fld CDC_CFG_chains) roomBytes
  else if sp = spOVL then (allOutputs.map s.ovlRooms).sum
  else if sp = spCAP then (s.portsOn.map fun p => Config.capRooms p.val).sum
  else if sp = spTAP then (s.portsOn.map fun p => Config.tapRooms p.val).sum
  else if sp = spBLIT then
    let ends := allOutputs.map fun o => match s.itin.card[o] with
      | some c => c.imageOffset + c.image.length
      | none => 0
    max 16 (ceilDiv (ends.foldl max 0) roomBytes)
  else if sp = spLEG then (s.itin.codec.map (·.legPool)).getD 0
  else if sp = spSTOCK then
    match s.itin.stock with
    | some k => if k.rooms = 0xFFFFFFFF then min 65536 left else min 65536 k.rooms
    | none => 0
  else 0

/-- The order of the room plan. -/
def planOrder : List Nat := [spFW, 0, 1, 2, 3, spCTX, spOVL, spCAP, spTAP, spBLIT, spLEG, spSTOCK]

/-- One space mapped from the lowest free room on, or EV241. -/
def State.mapSpace (acc : State × Nat) (sp : Nat) : State × Nat :=
  let (s, next) := acc
  let fitted := s.fld INK_ROOMS_fitted
  let n := s.spaceDemand sp (fitted - next)
  if n = 0 then (s, next)
  else if fitted < next + n then (s.raiseOpen 241 sp, next)
  else
    let s := { s with rooms := { s.rooms with first := s.rooms.first.set (Fin.ofNat 16 sp) (some next) } }
    ((s.setFld (INK_SPACE_BASE_base sp) next).setFld (INK_SPACE_SIZE_rooms sp) n, next + n)

/-- Spare alcoves after the allocation of R208. -/
def State.spareAlcoves (s : State) : Nat := 1024 - (s.alBlit + 8)

/-- The room plan (R200), the alcoves (R208) and what R214 says where a space does not fit. -/
def State.roomPlan (s : State) : State :=
  let (s, next) := planOrder.foldl State.mapSpace (s, 0)
  let s := s.setFld INK_FREE_free (s.fld INK_ROOMS_fitted - next)
  let s := (s.setFld INK_LEG_pool ((s.itin.codec.map (·.legPool)).getD 0)).setFld INK_LEG_free (s.spaceRooms spLEG)
  let s := s.setFld INK_ALCOVE_spare s.spareAlcoves
  if s.portsOn.isEmpty || (s.spaceRooms spCAP != 0 && s.spaceRooms spTAP != 0) then s else s.portsOff

/-- The Concierge's copy of the image moves to the FW rooms (R463), from byte 0 of the space on. Reloads read it back: it is what
the parsed records hold, as nobody else may write there (R197). -/
def State.copyImage (s : State) : State :=
  if s.spaceRooms spFW = 0 then s else s.spaceWrite spFW 0 s.boot.image

/-- Cards copied into BLIT and drawn (R411). -/
def State.startCards (s : State) : State :=
  allOutputs.foldl (fun (s : State) o =>
    match s.itin.card[o] with
    | none => s
    | some c =>
      if s.spaceRooms spBLIT = 0 || s.spaceRooms spOVL = 0 || !s.hasOvl o then s
      else (s.spaceWrite spBLIT c.imageOffset c.image).drawCard o) s

/-! ### DRAM training (R215, R216, R235–R239) -/

/-- A DRAM configuration of R215 and R216. -/
def dramSupported (d : DramRec) : Bool :=
  (d.channels == 2 || d.channels == 4 || d.channels == 8) && decide (d.density ≤ 1) && (d.ranks == 1 || d.ranks == 2) &&
    decide (d.speed ≤ 3) && !(d.channels == 8 && d.density == 1 && d.ranks == 2)

/-- Rooms of all populated channels. -/
def State.fittedRooms (s : State) : Nat := s.fld DRC_CFG_channels * (s.chanUnits * 64 / roomBytes)

/-- The consequences of R238: every configured output fails admission, every port is off. -/
def State.dramFails (s : State) : State :=
  let s := { s with boot := { s.boot with dramFailed := true, phase := .running } }
  s.configured.foldl State.failOutput s.portsOff

/-- A configuration that is not trained (R239). -/
def State.dramRejected (s : State) : State :=
  let s := allChannels.foldl (fun (s : State) c =>
    (s.setFld (DRC_CH_STAT_state c.val) 4).setFld (DRC_CH_TRAIN_fail_step c.val) 15) s
  (s.raiseOpen 57 (15 * 2 ^ 25)).loadPrograms.dramFails

/-- The step of R235 at which an attempt failed, 0 for a pass (R237): the one that the sender names, or that of a margin which the
limits do not allow, or step 8 with an error in its pattern. -/
def trainFailedAt (r : ChannelTrain) : Nat :=
  if r.failStep != 0 then r.failStep.toNat
  else if r.ca.toNat < 24 then 3
  else if r.read.toNat < 16 then 6
  else if r.write.toNat < 16 then 7
  else if r.errors.any (· != 0) then 8
  else 0

/-- Is ECC checking on in a step of training (R235)? -/
def eccInStep (step : Nat) : Bool := !(decide (3 ≤ step) && decide (step ≤ 7))

/-- What training found on one channel, its steps over (R235–R238): bank sweep ends, the helpers keep the settings and the errors
of the last pattern, the history shows commands of training, which nobody names. -/
def State.putTraining (s : State) (c : Channel) (r : ChannelTrain) : State :=
  let i := c.val
  let step := trainFailedAt r
  let s := (s.setFld (DRC_CH_TRAIN_attempts i) r.attempts).setFld (DRC_CH_TRAIN_fail_step i) step
  let s := (s.setFld (DRC_CH_MARGIN_ca i) r.ca.toNat).setFld (DRC_CH_MARGIN_vrefdq i) r.vrefdq.toNat
  let s := (s.setFld (DRC_CH_MARGIN_write i) r.write.toNat).setFld (DRC_CH_MARGIN_read i) r.read.toNat
  let s := s.endSweep c
  let h := { (s.dch c).helpers with errors := r.errors, delays := r.delays }
  let n := s.fresh
  let s := { s with fresh := n + 1 }
  let issued : List HistEntry := (List.range 64).map fun k =>
    { hi := (Config.trainCommand n k).extractLsb' 32 32, lo := (Config.trainCommand n k).extractLsb' 0 32 }
  let s := s.setDch c { s.dch c with helpers := h, issued, rows := [] }
  if step = 0 then
    (s.setFld (DRC_CH_STAT_state i) 2).setDch c { s.dch c with
      lastReq := s.now, lastRef := Vector.replicate 2 s.now, passAt := s.now }
  else (s.setFld (DRC_CH_STAT_state i) 4).raiseOpen 57 (i * 2 ^ 29 + step * 2 ^ 25 + r.attempts * 2 ^ 23)

/-- DRAM_TRAINING_COMPLETE (R235–R238, R467 steps 5–7): what training found on each populated channel, in order. A channel
fails only after 3 attempts. -/
def execDramTrainingComplete (t : Nat) (res : List ChannelTrain) (s : State) : Host.Outcome State Fault Refusal :=
  .next <|
    let s := s.advanceTo t
    let chans := s.populated
    let res := res.take chans.length
    let possible := res.all fun r => decide (1 ≤ r.attempts) && decide (r.attempts ≤ 3) && decide (r.failStep.toNat ≤ 8) &&
      (trainFailedAt r == 0 || r.attempts == 3)
    if s.boot.phase != .training || res.length != chans.length || !possible then s
    else
      let s := (chans.zip res).foldl (fun (s : State) x => s.putTraining x.1 x.2) s
      let s := s.loadPrograms
      if res.any fun r => trainFailedAt r != 0 then s.dramFails
      else
        let s := { s with boot := { s.boot with phase := .running }, dram := { s.dram with bounceAt := s.now } }
        let s := (s.setFld INK_ROOMS_fitted s.fittedRooms).roomPlan.copyImage
        let s := (s.setFld RAY_CAL_USED_bytes s.calibFit.2).startCards
        s.startOutputs

/-! ### Reset release (R445, R446, R451, R456, R464–R467) -/

/-- Safe harbour (R464, R465). -/
def State.enterHarbour (s : State) (cause : Nat) : State :=
  let s := { s with boot := { s.boot with phase := .safeHarbour } }
  let s := ((s.setFld CFG_BOOT_harbour 1).setFld CFG_BOOT_harbour_cause cause).raise 248 cause (cause * 2 ^ 24 + 3)
  ((List.range 44 ++ [45]).foldl State.offFrom s).startWall none

/-- The candidates in the order in which they are tried (R456). -/
def Boot.candidates (b : Boot) : List Nat :=
  let good := [0, 1].filter fun k => headerGood (b.flashBytes (slotBase k) 256)
  let seq (k : Nat) : Word := hdrSeq (b.flashBytes (slotBase k) 256)
  if good == [0, 1] && serialAbove (seq 1) (seq 0) then [1, 0] else good

/-- A slot found invalid: CFG_BOOT and EV249. -/
def State.slotInvalid (s : State) (k cause : Nat) : State :=
  (s.setFld (if k = 0 then CFG_BOOT_cause_a else CFG_BOOT_cause_b) cause).raise 249 cause (cause * 2 ^ 24 + k)

/-- The first valid candidate. -/
def State.chooseSlot (readOk : Nat → Bool) : List Nat → State → Option Nat × State
  | [], s => (none, s)
  | k :: ks, s =>
    let s := s.sendFlash [flashImage (slotBase k) (s.boot.flashBytes (slotBase k) 256)]
    match s.boot.slotCause (slotBase k) (readOk k) with
    | 0 => (some k, s.setFld (if k = 0 then CFG_BOOT_cause_a else CFG_BOOT_cause_b) 0)
    | c => State.chooseSlot readOk ks (s.slotInvalid k c)

/-- Training of a channel begins (R230, R235, R236): ECC checking is off but in its last step, bank sweep runs from the first ACT
on, step 5 reads the MPR pattern. -/
def State.beginTraining (s : State) (c : Channel) : State :=
  let s := (s.setFld (DRC_CH_STAT_state c.val) 1).startSweep c
  s.setDch c { s.dch c with helpers := { stored := (s.dch c).helpers.stored } }

/-- The valid slot's records applied (R461), and the parts that start with it (R467 steps 3 and 4). -/
def State.applyImage (s : State) (rs : List Rec) (mdioFail : Option (Fin 32)) : State :=
  let s := { s with itin := itinOf rs s.tileId }
  let s := s.noteSkipped rs
  let s := ((s.setEngineClock.applyDram).applyLanes rs).applyCaravan rs
  let s := allOutputs.foldl State.applyOutput s
  let s := match s.itin.codec with
    | some c => s.setCodecCfg c
    | none => s
  let s := s.setCardPlanes.applyIsp
  let s := (((s.applyMonitors rs).applySleep rs).applyThermal rs).applyRoutes rs
  let s := (s.applyRegwrites rs).startDomains
  -- the Itinerary's values are in effect from now on (R89)
  let s := allOutputs.foldl State.takeWrites s
  let s := allChannels.foldl (fun (s : State) c => s.setFld (DRC_CH_SR_idle_us c.val) (s.fld DRC_SR_CFG_idle_us)) s
  let s := (s.startWall mdioFail).startPorts
  let s := if s.itin.caravan.any (·.upUsed) then s else s.tickUnlocked
  if s.itin.dram.any dramSupported then
    s.populated.foldl State.beginTraining s
  else s.dramRejected

/-- The start from a valid slot. -/
def State.startFrom (s : State) (k : Nat) (mdioFail : Option (Fin 32)) : State :=
  let img := s.boot.imageAt (slotBase k)
  let s := { s with boot := { s.boot with phase := .training, image := img } }
  let s := (((s.setFld CFG_BOOT_slot k).setReg CFG_SEQ (hdrSeq img)).setReg CFG_CRC (hdrCrc img)).setReg CFG_LEN
    (BitVec.ofNat 32 (hdrLength img))
  let s := s.raise 248 0 k
  match imageRecords img with
  | some (rs, _) => s.applyImage rs mdioFail
  | none => s

/-- POWER_ON_RESET (R429, R445–R448, R504): reset is released. Edges and TIME_NS count from here. -/
def execPowerOnReset (_t : Nat) (por : PorInput) (s : State) : Host.Outcome State Fault Refusal :=
  .next <|
    if s.boot.phase != .inReset then s
    else
      let s := s.afterReset
      let s := s.setReg CFG_STRAPS (BitVec.ofNat 32 (b2n por.bootSafe * 16 + por.tileId.toNat))
      let s := (s.setFld LNK_STAT_tile por.tileId.toNat).setFld LNK_STAT_refclk_ok 1
      let s := { s with boot := { s.boot with romDone := true } }
      if por.bootSafe then s.enterHarbour 1
      else if !s.boot.flashPresent then (s.sendFlash flashProbe).enterHarbour 3
      else
        let s := s.sendFlash (flashProbe ++ flashHeaders)
        let cands := s.boot.candidates
        let s := [0, 1].foldl (fun (s : State) k => if cands.contains k then s else s.slotInvalid k 2) s
        match State.chooseSlot (fun k => if k = 0 then por.readOkA else por.readOkB) cands s with
        | (none, s) => s.enterHarbour 2
        | (some k, s) => if por.pllOk then s.startFrom k por.mdioFail else s.enterHarbour 4

end Sys2Proof.Machine
end

