-- ==== Sys2Proof/Machine/Stage.lean ====
section
/-!
DEFINITION. Staging a new Itinerary over the wall bus or Caravan (R470–R473).
-/
namespace Sys2Proof.Machine

/-! ### Flash writes (R449, R472) -/

/-- n erased bytes at a flash address. -/
def Boot.erase (b : Boot) (a n : Nat) : Boot :=
  { b with flash := b.flash.filter fun (k, _) => decide (k < a) || decide (a + n ≤ k) }

/-- Bytes programmed from a flash address on; a 64 KiB sector is erased before its first byte. Erased bytes are not listed. -/
def Boot.program (b : Boot) (a : Nat) : Bytes → Boot
  | [] => b
  | x :: xs =>
    let b := if a % 65536 = 0 then b.erase a 65536 else b
    let b := if x = 0xFF then { b with flash := Sparse.erase b.flash a } else { b with flash := Sparse.set b.flash a x }
    b.program (a + 1) xs

/-- Bytes programmed, and one sector erased, by the commands of R449. -/
def State.programFlash (s : State) (a : Nat) (bs : Bytes) : State :=
  { s with boot := s.boot.program a bs }.sendFlash (programCmds a bs.length)
def State.eraseFlash (s : State) (a : Nat) : State := { s with boot := s.boot.erase a 65536 }.sendFlash (eraseCmds a)

/-- The header of an image programmed last, its first byte at the very end (R472). -/
def State.programHeader (s : State) (a : Nat) (h : Bytes) : State :=
  let b := s.boot.program (a + 1) (slice h 1 255)
  { s with boot := { b with flash := Sparse.set b.flash a (h.headD 0xFF) } }.sendFlash (pageCmds a 256)

/-! ### Messages (R470, R471) -/

/-- A staging message that its path has accepted: its body (R470), and the frame it came in on the wall bus. -/
structure StageIn where
  body : Bytes
  frame : Option Frame
  deriving DecidableEq, Repr

def StageIn.op (m : StageIn) : Nat := leAt m.body 0 1
def StageIn.session (m : StageIn) : BitVec 16 := BitVec.ofNat 16 (leAt m.body 2 2)
def StageIn.offset (m : StageIn) : Nat := leAt m.body 4 4
def StageIn.data (m : StageIn) : Bytes := slice m.body 12 (leAt m.body 8 2)
def StageIn.caravan (m : StageIn) : Bool := m.frame.isNone

/-- Bytes received in the open or last session. -/
def State.stageReceived (s : State) : Nat := s.fld CFG_STAGE_RX_bytes

/-- The answer to a message (R471): status, EV251 where it is not OK or ends a COMMIT. -/
def State.stageAnswer (s : State) (m : StageIn) (status : Nat) (target : Nat) (done : Bool) : State :=
  let body := toLe 1 m.op ++ toLe 1 status ++ toLe 2 m.session.toNat ++ toLe 4 s.stageReceived ++ toLe 1 target ++ zeros 3
  let s := s.setFld CFG_STAGE_status status
  let s := match m.frame with
    | some f => s.reply f 0x06 body
    | none => s.sendUp 0x45 0 body
  if status != 0 || done then s.raiseOpen 251 (status * 2 ^ 24 + m.op * 2 ^ 16 + m.session.toNat) else s

/-- The slot byte of an answer. -/
def State.stageSlot (s : State) : Nat := (s.stage.session.map (·.target)).getD 0xFF

/-- An answer that names the open session's slot. -/
def State.answerStage (s : State) (m : StageIn) (status : Nat) : State := s.stageAnswer m status s.stageSlot false

def State.setSession (s : State) (x : Session) : State := { s with stage := { s.stage with session := some x } }

/-- The session ends. -/
def State.endSession (s : State) : State := ({ s with stage := { s.stage with session := none } }).setFld CFG_STAGE_state 0

/-- The slot that a staged image goes to (R472). -/
def State.stageTarget (s : State) : Nat :=
  let run := s.fld CFG_BOOT_slot
  if run < 2 then 1 - run
  else if (List.range 2).all fun k => s.boot.slotCause (slotBase k) true != 0 then 0
  else if s.boot.slotCause (slotBase 0) true != 0 then 0
  else 1

/-- The sender of a message. -/
def State.stageSender (s : State) (m : StageIn) : Nat :=
  match m.frame with
  | some f => s.senderKey f
  | none => 0

/-- Is a message of the open session's sender? -/
def State.ownsSession (s : State) (m : StageIn) (x : Session) : Bool := x.caravan == m.caravan && x.sender == s.stageSender m

/-- BEGIN. -/
def State.takeBegin (s : State) (m : StageIn) : State :=
  let length := leAt m.data 0 4
  let seq := BitVec.ofNat 32 (leAt m.data 4 4)
  if s.stage.session.any fun x => x.commit.isSome || !s.ownsSession m x then s.answerStage m 1
  else if maxImage < length then s.answerStage m 4
  else if !s.inHarbour && !serialAbove seq (s.reg CFG_SEQ) then s.answerStage m 5
  else
    let direct := decide (8388608 < length)
    let target := s.stageTarget
    let s := if direct then s.eraseFlash (slotBase target) else s
    let s := s.setSession
      { caravan := m.caravan, sender := s.stageSender m, number := m.session, length, seq, target, direct, lastAt := s.now }
    let s := ((s.setFld CFG_STAGE_state 1).setFld CFG_STAGE_path (b2n m.caravan)).setFld CFG_STAGE_session m.session.toNat
    (s.setFld CFG_STAGE_RX_bytes 0).answerStage m 0

/-- A message of the open session, by its number; NO_SESSION without one, BUSY while a COMMIT runs. -/
def State.inSession (s : State) (m : StageIn) (act : State → Session → State) : State :=
  match s.stage.session with
  | none => s.answerStage m 2
  | some x =>
    if x.number != m.session then s.answerStage m 2
    else
      let x := { x with lastAt := s.now }
      let s := s.setSession x
      if x.commit.isSome then s.answerStage m 1 else act s x

/-- DATA: programmed as it arrives, in order; the header of an image that goes straight into the target is kept back. -/
def State.takeData (s : State) (m : StageIn) (flashOk : Bool) : State :=
  s.inSession m fun s x =>
    let data := m.data
    let at_ := s.stageReceived
    if m.offset != at_ then s.answerStage m 3
    else if x.length < at_ + data.length then s.answerStage m 4
    else if !flashOk then s.answerStage m 7
    else
      let s := s.setSession { x with header := x.header ++ data.take (256 - at_) }
      let s :=
        if x.direct then
          let late := 256 - at_
          (if at_ = 0 then s.eraseFlash (slotBase x.target) else s).programFlash (slotBase x.target + at_ + min late data.length)
            (data.drop late)
        else s.programFlash (stagingBase + at_) data
      (s.setFld CFG_STAGE_RX_bytes (at_ + data.length)).answerStage m 0

/-- The staged image: its header as received, and what the flash holds behind it. -/
def State.stagedImage (s : State) (x : Session) : Bytes :=
  let base := if x.direct then slotBase x.target else stagingBase
  x.header ++ s.boot.flashBytes (base + 256) (x.length - 256)

/-- Is the staged image whole and valid under R455? -/
def State.stagedOk (s : State) (x : Session) : Bool :=
  let img := s.stagedImage x
  s.stageReceived == x.length && headerGood img && hdrLength img == x.length && imageCause s.boot.otp img == 0

/-- COMMIT: the check; the copy ends with COMMIT_COMPLETE. -/
def State.takeCommit (s : State) (m : StageIn) (msg : StageMsg) : State :=
  s.inSession m fun s x =>
    if s.stagedOk x then (s.setSession { x with commit := some msg }).setFld CFG_STAGE_state 2 else s.answerStage m 6

/-- ABORT. -/
def State.takeAbort (s : State) (m : StageIn) : State :=
  s.inSession m fun s _ => (s.stageAnswer m 0 s.stageSlot false).endSession

/-- QUERY: IN_PROGRESS while a COMMIT runs. -/
def State.takeQuery (s : State) (m : StageIn) : State :=
  match s.stage.session with
  | some x =>
    if x.number != m.session then s.answerStage m 2
    else (s.setSession { x with lastAt := s.now }).answerStage m (if x.commit.isSome then 8 else 0)
  | none => s.answerStage m 2

/-! ### The two paths (R375, R466, R470) -/

/-- A STAGE item, whole: its length and its trailer; the counter of the head (R375). -/
def State.takeStageItem (s : State) (x : RxWagon) (b : Bytes) (act : State → StageIn → State) : State :=
  if stageLengthBad b then s.violation .up 5 x.bytes
  else
    match s.authCheck b s.stage.headCounter with
    | 0 =>
      let s := { s with stage := { s.stage with headCounter := some (trailerCounter b) } }
      act s { body := b.take (b.length - 32), frame := none }
    | code => s.raiseOpen 124 (code * 2 ^ 24)

/-- The op of the item that a STAGE fragment belongs to; 0 where none of R470's is known. -/
def State.itemOp (s : State) (w : Wagon) : Nat :=
  let h := parseWagon w.bytes
  let first := joined (s.link.rxUp.opens.find? (sameItem h)) (slice w.bytes 16 h.length)
  let op := leAt first 0 1
  if op ≤ 5 then op else 0

/-- A STAGE wagon of an item with a given op: relayed, extracted, and acted on once the item is whole. -/
def State.stageWagon (s : State) (op : Nat) (w : Wagon) (act : State → StageIn → State) : State :=
  let mine := s.itemOp w
  if !carries .up [0x61] w || s.hopState .up != 2 || (mine != op && mine != 0) then s
  else
    match s.linkReceive .up w with
    | (s, none) => s
    | (s, some x) =>
      match s.route_ x.hdr with
      | (false, false) => s.violation .up 7 x.bytes
      | (own, rel) =>
        let s := if rel then s.relay .up x else s
        if !own || x.hdr.type != 0x61 then s
        else
          s.collect x fun s x b => if leAt b 0 1 = op then s.takeStageItem x b act else s

/-- A session with no message for 10 s has been aborted, but for one whose COMMIT runs (R472). -/
def State.expireSession (s : State) : State :=
  match s.stage.session with
  | some x => if x.commit.isNone && s.elapsed x.lastAt (edgesS 10) then s.endSession else s
  | none => s

/-- A staging message on either path; a session that is over by then is not open any longer. -/
def State.stageMsg (s : State) (op : Nat) (msg : StageMsg) (act : State → StageIn → State) : State :=
  let s := s.expireSession
  match msg with
  | .wallBus f => s.wallCommand (0x60 + op) f fun s m => act s { body := m.body.take (m.body.length - 32), frame := some f }
  | .caravan w => s.stageWagon op w act

/-- BEGIN (R472). -/
def execStageBegin (t : Nat) (m : StageMsg) (s : State) : Host.Outcome State Fault Refusal :=
  .next ((s.advanceTo t).stageMsg 1 m State.takeBegin)

/-- DATA (R472): `flashOk` says whether erase and program succeeded. -/
def execStageData (t : Nat) (m : StageMsg) (flashOk : Bool) (s : State) : Host.Outcome State Fault Refusal :=
  .next ((s.advanceTo t).stageMsg 2 m fun s x => s.takeData x flashOk)

/-- COMMIT (R472). -/
def execStageCommit (t : Nat) (m : StageMsg) (s : State) : Host.Outcome State Fault Refusal :=
  .next ((s.advanceTo t).stageMsg 3 m fun s x => s.takeCommit x m)

/-- ABORT (R470). -/
def execStageAbort (t : Nat) (m : StageMsg) (s : State) : Host.Outcome State Fault Refusal :=
  .next ((s.advanceTo t).stageMsg 4 m State.takeAbort)

/-- QUERY (R471). -/
def execStageQuery (t : Nat) (m : StageMsg) (s : State) : Host.Outcome State Fault Refusal :=
  .next ((s.advanceTo t).stageMsg 5 m State.takeQuery)

/-- The message that a COMMIT came in, for its answer. -/
def Session.commitIn (x : Session) (m : StageMsg) : StageIn :=
  { body := toLe 1 3 ++ zeros 1 ++ toLe 2 x.number.toNat ++ zeros 8
    frame := match m with
      | .wallBus f => some f
      | .caravan _ => none }

/-- COMMIT_COMPLETE (R472): the copy has ended, the header has been read back; or an erase or a program failed. After an abrupt
loss the flash writes have stopped (R473). -/
def execCommitComplete (t : Nat) (flashOk : Bool) (s : State) : Host.Outcome State Fault Refusal :=
  .next <|
    let s := s.advanceTo t
    match s.stage.session with
    | none => s
    | some x =>
      match x.commit with
      | none => s
      | some msg =>
        let m := x.commitIn msg
        if s.power.lossAt.isSome then s
        else if flashOk then
          let img := s.stagedImage x
          let base := slotBase x.target
          let s := if x.direct then s else (s.eraseFlash base).programFlash (base + 256) (img.drop 256)
          let s := s.programHeader base img
          (s.stageAnswer m 0 x.target true).endSession
        else
          let s := if x.direct then s else s.eraseFlash (slotBase x.target)
          ((s.setSession { x with commit := none }).setFld CFG_STAGE_state 1).stageAnswer m 7 x.target true

/-- SESSION_TIMEOUT (R472): 10 s without a message. -/
def execSessionTimeout (t : Nat) (s : State) : Host.Outcome State Fault Refusal := .next (s.advanceTo t).expireSession

end Sys2Proof.Machine
end

