-- ==== Sys2Proof/Machine/Tick.lean ====
section
/-!
DEFINITION. TICK (R18): the tick service whole, with the spares that replace failed alcoves at a tick (R209).
-/
namespace Sys2Proof.Machine

/-- A camera port stops: it is off until the next start. -/
def State.portStop (s : State) (p : Port) : State := (s.setCam p {}).setFld (CAM_P_STAT_state p.val) 0

/-- A failed alcove at the tick that its spare waits for (R209): the spare replaces it; without one, its owner stops with
EV233, whose code the manual does not give for this case. The flag says that the output stops. -/
def State.replaceAlcove (acc : State × Bool) (d : DeadAlcove) : State × Bool :=
  let (s, stops) := acc
  let retire (s : State) : State :=
    ({ s with rooms := { s.rooms with dead := s.rooms.dead.filter (· != d) } }).incFld INK_ALCOVE_retired 1
  let spare := s.fld INK_ALCOVE_spare
  if 0 < spare then ((retire s).setFld INK_ALCOVE_spare (spare - 1), stops)
  else if !d.stops then acc
  else
    let (v, s) := (retire s).take
    let code := v.toNat % 256
    let s := s.raise 233 code ((d.owner.getD 0).val * 2 ^ 30 + code)
    match d.port with
    | some p => (s.portStop p, stops)
    | none => (s, true)

/-- The failed alcoves whose spares an output's tick brings. -/
def State.tickAlcoves (s : State) (o : Output) : State × Bool :=
  (s.rooms.dead.filter fun d => d.owner.isNone || d.owner == some o).foldl State.replaceAlcove (s, false)

/-- The elements of a list at some positions, and the others. -/
def pick {α : Type} (l : List α) (at1 : List Nat) : List α × List α :=
  let (a, b) := (l.zipIdx).partition fun x => at1.contains x.2
  (a.map (·.1), b.map (·.1))

/-- A double-bit error in an alcove of the Porter queue (R209): the entries that stand in it are aborted with EV234. -/
def State.queueHit (s : State) (hit : Option QueueHit) : State :=
  match hit with
  | none => s
  | some h =>
    let s := s.alcoveLost { alcove := alQueue + h.alcove.val, owner := none, stops := false }
    let (a, qa) := pick s.porter.qa h.a
    let (b, qb) := pick s.porter.qb h.b
    let (c, qc) := pick s.porter.qc h.c
    let (d, qd) := pick s.porter.qd h.d
    let s := { s with porter := { s.porter with qa, qb, qc, qd } }
    let s := a.foldl (fun (s : State) (x : SpanRow) => s.abortSpans x.out x.cols.length) s
    let s := b.foldl (fun (s : State) (n : Nat) =>
      match s.item? n with
      | none => s
      | some x => (s.updLeg x.out n fun l => { l with outcome := some 3 }).noteAbort x.out 1) s
    let s := c.foldl (fun (s : State) (x : CapLeg) =>
      (s.noteAbort (s.camOutput x.port) 2).capLegEnded x.port x.gen) s
    d.foldl State.dropD s

/-- TICK (R18, R209): the tick service of an output in the order of its steps. An output whose alcove has failed and has no
spare stops instead. `hit` is a double-bit error in the Porter queue. -/
def execTick (t : Nat) (o : Output) (hit : Option QueueHit) (s : State) : Host.Outcome State Fault Refusal :=
  .next <|
    let s := s.advanceTo t
    match if s.scanning o then s.tickInstant o else none with
    | none => s
    | some n =>
      let (s, stops) := s.tickAlcoves o
      if stops then s.powerOff o
      else
        let s := s.queueHit hit
        let first := !(s.out o).cycle.ticked
        let playback := (s.out o).play.taken.isSome
        -- step 1
        let s := s.tickAborts o
        let swap := (s.out o).cycle.ready && !first && !s.frozen
        let s := (s.updCycle o fun c => { c with tickAt := n, tickEdge := s.now }).updScan o fun x => { x with line := 0 }
        -- steps 2 and 3
        let s := (s.tickSwap o swap).tickChains o swap
        let s := s.tickFaults o
        let s := if first then s else s.tickWithheld o swap
        let (s, planes) := (s.markIncomplete o).tickPlanes o
        let s := s.tickCard o first swap
        -- step 4
        let s := s.wrapFld (SCN_FRAME_counter o.val)
        let s := s.setFld (SCN_OUT_STAT_f o.val) (s.fld (SCN_FRAME_counter o.val))
        let s := if swap then s.setPair (SCN_FLIP_TIME_LO o.val) (SCN_FLIP_TIME_HI o.val) s.timeNs else s
        let s := s.tickEnergy o
        -- step 7's item is taken before the frame's legs are freed
        let item := s.commitItem o swap playback
        -- step 5
        let s := s.tickRooms o
        let s := s.updCycle o fun c =>
          let decided := c.decode.or c.decided
          let keep (x : Word) : Bool := match c.decode with
            | some d => serialAbove x d
            | none => true
          { c with
            decided, decode := none, ticked := true, service := true, cutB := false, cutCD := false, ready := false
            withheld := none, claims := [], planes := Vector.replicate 4 none, released := 0
            markers := c.markers.filter fun m => keep m.serial
            legs := c.legs.filter fun l => keep l.serial }
        let s := { s with servo := { s.servo with anyTick := true } }
        let s := { s with porter := { s.porter with filled := s.porter.filled.filter fun x => x.1 != o } }
        let s := { s with rooms := { s.rooms with stallRaised := false } }
        -- step 6
        let live := (s.out o).play.liveMarker
        let s := (s.playTick o swap).updPlay o fun p => { p with
          noMarker := if live then 0 else p.noMarker + 1, liveMarker := false }
        let s := if live then s.stopPlay o else s
        let s := s.tickWrites o
        let s := if first then s.restartGrid o else s
        let (s, changed) := s.tickChanges o
        let s := s.applyBuckets.tickTracks o
        let s := s.updRender o fun r => { r with consts := s.constTable o }
        let s := { s with fresh := s.fresh + 48 }
        let s := s.updCycle o fun c => { c with
          stripes := s.clusters
          nextTick := gridFrom (n + s.periodNs o) (s.periodNs o) (s.outRec o).phase }
        let fresh := bits (s.out o).render.cfg.toNat 2 2 = 1 && !s.positionsStale o
        let s := s.tickStatic o (!swap && !planes && !changed && !fresh)
        let s := s.gridInstant o
        let s := if s.lowestActive = some o then
            { s with wall := { s.wall with
              ticksSince := s.wall.ticksSince + 1, statusN := s.fld WBS_STATUS_CFG_status_n } } else s
        -- step 7
        s.sendUp 0x42 o.val item

end Sys2Proof.Machine
end

