-- ==== Sys2Proof/Machine/Dispatch.lean ====
section
/-!
DEFINITION. One arm per command: its meaning.
-/
namespace Sys2Proof.Machine

/-- The effect of a command on everything but the queue. -/
def exec (i : Instr) (s : State) : Host.Outcome State Fault Refusal :=
  match i with
  | .tick t o hit => Sys2Proof.Machine.execTick t o hit s
  | .tickServiceEnd t o => Sys2Proof.Machine.execTickServiceEnd t o s
  | .spanRowRelease t o row => Sys2Proof.Machine.execSpanRowRelease t o row s
  | .trackingCutoff t o => Sys2Proof.Machine.execTrackingCutoff t o s
  | .decodeCutoff t o => Sys2Proof.Machine.execDecodeCutoff t o s
  | .classCDCutoff t o => Sys2Proof.Machine.execClassCDCutoff t o s
  | .spanDispatch t e => Sys2Proof.Machine.execSpanDispatch t e s
  | .clusterLeaveService t cl cause => Sys2Proof.Machine.execClusterLeaveService t cl cause s
  | .nop e f => Sys2Proof.Machine.execNop e f s
  | .mov e f => Sys2Proof.Machine.execMov e f s
  | .iadd e f => Sys2Proof.Machine.execIadd e f s
  | .isub e f => Sys2Proof.Machine.execIsub e f s
  | .imul e f => Sys2Proof.Machine.execImul e f s
  | .imad e f => Sys2Proof.Machine.execImad e f s
  | .imin e f => Sys2Proof.Machine.execImin e f s
  | .imax e f => Sys2Proof.Machine.execImax e f s
  | .umin e f => Sys2Proof.Machine.execUmin e f s
  | .umax e f => Sys2Proof.Machine.execUmax e f s
  | .vand e f => Sys2Proof.Machine.execVand e f s
  | .vor e f => Sys2Proof.Machine.execVor e f s
  | .vxor e f => Sys2Proof.Machine.execVxor e f s
  | .shl e f => Sys2Proof.Machine.execShl e f s
  | .shr e f => Sys2Proof.Machine.execShr e f s
  | .sar e f => Sys2Proof.Machine.execSar e f s
  | .fadd e f => Sys2Proof.Machine.execFadd e f s
  | .fsub e f => Sys2Proof.Machine.execFsub e f s
  | .fmul e f => Sys2Proof.Machine.execFmul e f s
  | .fma e f => Sys2Proof.Machine.execFma e f s
  | .fmin e f => Sys2Proof.Machine.execFmin e f s
  | .fmax e f => Sys2Proof.Machine.execFmax e f s
  | .fabs e f => Sys2Proof.Machine.execFabs e f s
  | .fneg e f => Sys2Proof.Machine.execFneg e f s
  | .ffloor e f => Sys2Proof.Machine.execFfloor e f s
  | .ffrac e f => Sys2Proof.Machine.execFfrac e f s
  | .fsat e f => Sys2Proof.Machine.execFsat e f s
  | .hadd2 e f => Sys2Proof.Machine.execHadd2 e f s
  | .hsub2 e f => Sys2Proof.Machine.execHsub2 e f s
  | .hmul2 e f => Sys2Proof.Machine.execHmul2 e f s
  | .hfma2 e f => Sys2Proof.Machine.execHfma2 e f s
  | .hmin2 e f => Sys2Proof.Machine.execHmin2 e f s
  | .hmax2 e f => Sys2Proof.Machine.execHmax2 e f s
  | .i2f e f => Sys2Proof.Machine.execI2f e f s
  | .u2f e f => Sys2Proof.Machine.execU2f e f s
  | .f2i e f => Sys2Proof.Machine.execF2i e f s
  | .f2if e f => Sys2Proof.Machine.execF2if e f s
  | .f2ir e f => Sys2Proof.Machine.execF2ir e f s
  | .h2f e f => Sys2Proof.Machine.execH2f e f s
  | .h2fh e f => Sys2Proof.Machine.execH2fh e f s
  | .f2h2 e f => Sys2Proof.Machine.execF2h2 e f s
  | .iseq e f => Sys2Proof.Machine.execIseq e f s
  | .isne e f => Sys2Proof.Machine.execIsne e f s
  | .islt e f => Sys2Proof.Machine.execIslt e f s
  | .isle e f => Sys2Proof.Machine.execIsle e f s
  | .iult e f => Sys2Proof.Machine.execIult e f s
  | .iule e f => Sys2Proof.Machine.execIule e f s
  | .fseq e f => Sys2Proof.Machine.execFseq e f s
  | .fsne e f => Sys2Proof.Machine.execFsne e f s
  | .fslt e f => Sys2Proof.Machine.execFslt e f s
  | .fsle e f => Sys2Proof.Machine.execFsle e f s
  | .pand e f => Sys2Proof.Machine.execPand e f s
  | .por e f => Sys2Proof.Machine.execPor e f s
  | .pxor e f => Sys2Proof.Machine.execPxor e f s
  | .pandn e f => Sys2Proof.Machine.execPandn e f s
  | .pset e f => Sys2Proof.Machine.execPset e f s
  | .pget e f => Sys2Proof.Machine.execPget e f s
  | .smov e f => Sys2Proof.Machine.execSmov e f s
  | .sadd e f => Sys2Proof.Machine.execSadd e f s
  | .ssub e f => Sys2Proof.Machine.execSsub e f s
  | .smul e f => Sys2Proof.Machine.execSmul e f s
  | .sand e f => Sys2Proof.Machine.execSand e f s
  | .sor e f => Sys2Proof.Machine.execSor e f s
  | .sxor e f => Sys2Proof.Machine.execSxor e f s
  | .sshl e f => Sys2Proof.Machine.execSshl e f s
  | .sshr e f => Sys2Proof.Machine.execSshr e f s
  | .ssar e f => Sys2Proof.Machine.execSsar e f s
  | .smin e f => Sys2Proof.Machine.execSmin e f s
  | .smax e f => Sys2Proof.Machine.execSmax e f s
  | .sseq e f => Sys2Proof.Machine.execSseq e f s
  | .sslt e f => Sys2Proof.Machine.execSslt e f s
  | .ssltu e f => Sys2Proof.Machine.execSsltu e f s
  | .vlane e f => Sys2Proof.Machine.execVlane e f s
  | .vext e f => Sys2Proof.Machine.execVext e f s
  | .ldc e f => Sys2Proof.Machine.execLdc e f s
  | .bra e f => Sys2Proof.Machine.execBra e f s
  | .loop e f => Sys2Proof.Machine.execLoop e f s
  | .endSpan e f => Sys2Proof.Machine.execEndSpan e f s
  | .trap e f => Sys2Proof.Machine.execTrap e f s
  | .ldv e f => Sys2Proof.Machine.execLdv e f s
  | .stv e f => Sys2Proof.Machine.execStv e f s
  | .lds e f => Sys2Proof.Machine.execLds e f s
  | .sts e f => Sys2Proof.Machine.execSts e f s
  | .rcp e f => Sys2Proof.Machine.execRcp e f s
  | .rsq e f => Sys2Proof.Machine.execRsq e f s
  | .sqrt e f => Sys2Proof.Machine.execSqrt e f s
  | .exp2 e f => Sys2Proof.Machine.execExp2 e f s
  | .log2 e f => Sys2Proof.Machine.execLog2 e f s
  | .sinp e f => Sys2Proof.Machine.execSinp e f s
  | .cosp e f => Sys2Proof.Machine.execCosp e f s
  | .calq e f => Sys2Proof.Machine.execCalq e f s
  | .smpa e f => Sys2Proof.Machine.execSmpa e f s
  | .smps e f => Sys2Proof.Machine.execSmps e f s
  | .smpcd e f => Sys2Proof.Machine.execSmpcd e f s
  | .smpd e f => Sys2Proof.Machine.execSmpd e f s
  | .ovl e f => Sys2Proof.Machine.execOvl e f s
  | .out e f => Sys2Proof.Machine.execOut e f s
  | .sharedUnitResult t e unit clk stall hit => Sys2Proof.Machine.execSharedUnitResult t e unit clk stall hit s
  | .spanWatchdog t e clk hits => Sys2Proof.Machine.execSpanWatchdog t e clk hits s
  | .viewCacheFill t cl line errs evict tbl => Sys2Proof.Machine.execViewCacheFill t cl line errs evict tbl s
  | .legDispatch t u lim => Sys2Proof.Machine.execLegDispatch t u lim s
  | .codecStallResume t u lim => Sys2Proof.Machine.execCodecStallResume t u lim s
  | .legComplete t u hit => Sys2Proof.Machine.execLegComplete t u hit s
  | .captureEncodeStart t u => Sys2Proof.Machine.execCaptureEncodeStart t u s
  | .captureLegComplete t u blocks blockCount => Sys2Proof.Machine.execCaptureLegComplete t u blocks blockCount s
  | .unitFreeAfterAbort t unit => Sys2Proof.Machine.execUnitFreeAfterAbort t unit s
  | .queueEntryAdmit t cls => Sys2Proof.Machine.execQueueEntryAdmit t cls s
  | .overlayListDispatch t o hit => Sys2Proof.Machine.execOverlayListDispatch t o hit s
  | .staticCardRender t o hit => Sys2Proof.Machine.execStaticCardRender t o hit s
  | .cardShow t o => Sys2Proof.Machine.execCardShow t o s
  | .statisticsWaybill t p => Sys2Proof.Machine.execStatisticsWaybill t p s
  | .tokenBucketRefill t => Sys2Proof.Machine.execTokenBucketRefill t s
  | .autoPlaylistStart t o => Sys2Proof.Machine.execAutoPlaylistStart t o s
  | .legIntakeStallResume t => Sys2Proof.Machine.execLegIntakeStallResume t s
  | .dramRead t req unit errs merge tbl => Sys2Proof.Machine.execDramRead t req unit errs merge tbl s
  | .refresh t c rank => Sys2Proof.Machine.execRefresh t c rank s
  | .dramTemperatureRead t c readings => Sys2Proof.Machine.execDramTemperatureRead t c readings s
  | .scrub t c errs => Sys2Proof.Machine.execScrub t c errs s
  | .secInterval t => Sys2Proof.Machine.execSecInterval t s
  | .selfRefreshEntry t c => Sys2Proof.Machine.execSelfRefreshEntry t c s
  | .selfRefreshExit t c => Sys2Proof.Machine.execSelfRefreshExit t c s
  | .bounceInterval t => Sys2Proof.Machine.execBounceInterval t s
  | .alertNPulse t c width cmd => Sys2Proof.Machine.execAlertNPulse t c width cmd s
  | .retryComplete t c => Sys2Proof.Machine.execRetryComplete t c s
  | .freezePanelHoldExpiry t => Sys2Proof.Machine.execFreezePanelHoldExpiry t s
  | .thawStart t path v => Sys2Proof.Machine.execThawStart t path v s
  | .thawGo t path v => Sys2Proof.Machine.execThawGo t path v s
  | .thawReadComplete t flips => Sys2Proof.Machine.execThawReadComplete t flips s
  | .lineSlotStart t o line echo hit => Sys2Proof.Machine.execLineSlotStart t o line echo hit s
  | .staticDecision t o => Sys2Proof.Machine.execStaticDecision t o s
  | .gridInstantSkip t o => Sys2Proof.Machine.execGridInstantSkip t o s
  | .railWaitDone t o mv => Sys2Proof.Machine.execRailWaitDone t o mv s
  | .railTimeout t o mv => Sys2Proof.Machine.execRailTimeout t o mv s
  | .cdReadyTimeout t o => Sys2Proof.Machine.execCdReadyTimeout t o s
  | .abruptLoss t trig => Sys2Proof.Machine.execAbruptLoss t trig s
  | .hopBringUp t h res => Sys2Proof.Machine.execHopBringUp t h res s
  | .laneFomUpdate t lane fom ctle => Sys2Proof.Machine.execLaneFomUpdate t lane fom ctle s
  | .blockLockLoss t lane => Sys2Proof.Machine.execBlockLockLoss t lane s
  | .cdrLockLoss t lane => Sys2Proof.Machine.execCdrLockLoss t lane s
  | .warmRetrain t h res => Sys2Proof.Machine.execWarmRetrain t h res s
  | .coldBringUpRetry t h res => Sys2Proof.Machine.execColdBringUpRetry t h res s
  | .refclkLoss t ratio => Sys2Proof.Machine.execRefclkLoss t ratio s
  | .refclkRestore t => Sys2Proof.Machine.execRefclkRestore t s
  | .hello t h w => Sys2Proof.Machine.execHello t h w s
  | .helloSend t h => Sys2Proof.Machine.execHelloSend t h s
  | .linkState t h w => Sys2Proof.Machine.execLinkState t h w s
  | .linkStateSend t h => Sys2Proof.Machine.execLinkStateSend t h s
  | .replayTimeout t h => Sys2Proof.Machine.execReplayTimeout t h s
  | .nakRepeat t h => Sys2Proof.Machine.execNakRepeat t h s
  | .wagonTxEnd t h => Sys2Proof.Machine.execWagonTxEnd t h s
  | .sync t w t2 te => Sys2Proof.Machine.execSync t w t2 te s
  | .pdelayReq t w t2 t3 => Sys2Proof.Machine.execPdelayReq t w t2 t3 s
  | .pdelayResp t w t4 => Sys2Proof.Machine.execPdelayResp t w t4 s
  | .pdelayInterval t t1 => Sys2Proof.Machine.execPdelayInterval t t1 s
  | .pdelayMiss t => Sys2Proof.Machine.execPdelayMiss t s
  | .holdoverEntry t => Sys2Proof.Machine.execHoldoverEntry t s
  | .lockWaitExpiry t => Sys2Proof.Machine.execLockWaitExpiry t s
  | .legWagon t w => Sys2Proof.Machine.execLegWagon t w s
  | .flipWagon t w => Sys2Proof.Machine.execFlipWagon t w s
  | .overlayWagon t w => Sys2Proof.Machine.execOverlayWagon t w s
  | .stockWagon t w => Sys2Proof.Machine.execStockWagon t w s
  | .complaintWagon t w => Sys2Proof.Machine.execComplaintWagon t w s
  | .relayUp t w => Sys2Proof.Machine.execRelayUp t w s
  | .crcDn t path => Sys2Proof.Machine.execCrcDn t path s
  | .crcUp t path => Sys2Proof.Machine.execCrcUp t path s
  | .injectOne t path lane => Sys2Proof.Machine.execInjectOne t path lane s
  | .slip t path lane => Sys2Proof.Machine.execSlip t path lane s
  | .prbsErrorSecond t lane n => Sys2Proof.Machine.execPrbsErrorSecond t lane n s
  | .peakClear t path o => Sys2Proof.Machine.execPeakClear t path o s
  | .track t f => Sys2Proof.Machine.execTrack t f s
  | .logreq t f => Sys2Proof.Machine.execLogreq t f s
  | .logdata t => Sys2Proof.Machine.execLogdata t s
  | .regread t f => Sys2Proof.Machine.execRegread t f s
  | .restart t f => Sys2Proof.Machine.execRestart t f s
  | .selectPlayback t f => Sys2Proof.Machine.execSelectPlayback t f s
  | .brightnessScale t f => Sys2Proof.Machine.execBrightnessScale t f s
  | .strangerFrame t f => Sys2Proof.Machine.execStrangerFrame t f s
  | .quarantineEnd t node => Sys2Proof.Machine.execQuarantineEnd t node s
  | .statusPeriodic t => Sys2Proof.Machine.execStatusPeriodic t s
  | .statusPush t => Sys2Proof.Machine.execStatusPush t s
  | .plcaStatusChange t ok => Sys2Proof.Machine.execPlcaStatusChange t ok s
  | .boundRestore t => Sys2Proof.Machine.execBoundRestore t s
  | .stageBegin t m => Sys2Proof.Machine.execStageBegin t m s
  | .stageData t m flashOk => Sys2Proof.Machine.execStageData t m flashOk s
  | .stageCommit t m => Sys2Proof.Machine.execStageCommit t m s
  | .commitComplete t flashOk => Sys2Proof.Machine.execCommitComplete t flashOk s
  | .stageAbort t m => Sys2Proof.Machine.execStageAbort t m s
  | .stageQuery t m => Sys2Proof.Machine.execStageQuery t m s
  | .sessionTimeout t => Sys2Proof.Machine.execSessionTimeout t s
  | .frameBoundary t p => Sys2Proof.Machine.execFrameBoundary t p s
  | .frameStart t p hdr => Sys2Proof.Machine.execFrameStart t p hdr s
  | .frameEnd t p hdr => Sys2Proof.Machine.execFrameEnd t p hdr s
  | .lineStart t p hdr => Sys2Proof.Machine.execLineStart t p hdr s
  | .lineEnd t p hdr => Sys2Proof.Machine.execLineEnd t p hdr s
  | .longPacket t p hdr payload crc => Sys2Proof.Machine.execLongPacket t p hdr payload crc s
  | .ispLineTake t hit => Sys2Proof.Machine.execIspLineTake t hit s
  | .ispLineDone t => Sys2Proof.Machine.execIspLineDone t s
  | .tapSend t p tap => Sys2Proof.Machine.execTapSend t p tap s
  | .aeAwbUpdate t p ae => Sys2Proof.Machine.execAeAwbUpdate t p ae s
  | .initRetry t p => Sys2Proof.Machine.execInitRetry t p s
  | .copy t => Sys2Proof.Machine.execCopy t s
  | .fill t => Sys2Proof.Machine.execFill t s
  | .blend t => Sys2Proof.Machine.execBlend t s
  | .key t => Sys2Proof.Machine.execKey t s
  | .glyph t => Sys2Proof.Machine.execGlyph t s
  | .sleepRequest t g => Sys2Proof.Machine.execSleepRequest t g s
  | .prepareTimeout t g => Sys2Proof.Machine.execPrepareTimeout t g s
  | .domainTransitionComplete t pd => Sys2Proof.Machine.execDomainTransitionComplete t pd s
  | .warnCrossing t m mv => Sys2Proof.Machine.execWarnCrossing t m mv s
  | .braceSnapshot t => Sys2Proof.Machine.execBraceSnapshot t s
  | .braceEnd t => Sys2Proof.Machine.execBraceEnd t s
  | .braceAlertClear t => Sys2Proof.Machine.execBraceAlertClear t s
  | .resetCrossing t m mv => Sys2Proof.Machine.execResetCrossing t m mv s
  | .railRecovery t m => Sys2Proof.Machine.execRailRecovery t m s
  | .housekeepingRound t ch => Sys2Proof.Machine.execHousekeepingRound t ch s
  | .holdoffExpiry t => Sys2Proof.Machine.execHoldoffExpiry t s
  | .powerOnReset t por => Sys2Proof.Machine.execPowerOnReset t por s
  | .resetN t => Sys2Proof.Machine.execResetN t s
  | .eventWrite t => Sys2Proof.Machine.execEventWrite t s
  | .snapshotWrite t => Sys2Proof.Machine.execSnapshotWrite t s
  | .snapshotComplete t ok => Sys2Proof.Machine.execSnapshotComplete t ok s
  | .snap t path v => Sys2Proof.Machine.execSnap t path v s
  | .clearKeep t path v => Sys2Proof.Machine.execClearKeep t path v s
  | .svcId t => Sys2Proof.Machine.execSvcId t s
  | .svcRead t addr n => Sys2Proof.Machine.execSvcRead t addr n s
  | .svcWrite t addr data => Sys2Proof.Machine.execSvcWrite t addr data s
  | .svcWstat t => Sys2Proof.Machine.execSvcWstat t s
  | .svcUnlock t v => Sys2Proof.Machine.execSvcUnlock t v s
  | .servicePortRelock t => Sys2Proof.Machine.execServicePortRelock t s
  | .evtInject t path v => Sys2Proof.Machine.execEvtInject t path v s
  | .evtFaultClear t path idx v => Sys2Proof.Machine.execEvtFaultClear t path idx v s
  | .lowWordRead t path addr => Sys2Proof.Machine.execLowWordRead t path addr s
  | .highWordWrite t path addr v => Sys2Proof.Machine.execHighWordWrite t path addr v s
  | .registerWrite t path addr width v => Sys2Proof.Machine.execRegisterWrite t path addr width v s
  | .conciergeWatchdog t pc => Sys2Proof.Machine.execConciergeWatchdog t pc s
  | .cdReadyRise t o => Sys2Proof.Machine.execCdReadyRise t o s
  | .panelSequenceTimeExpiry t o => Sys2Proof.Machine.execPanelSequenceTimeExpiry t o s
  | .dramTrainingComplete t res => Sys2Proof.Machine.execDramTrainingComplete t res s
  | .collisionSeen t => Sys2Proof.Machine.execCollisionSeen t s
  | .cciTransactionDone t p ack value => Sys2Proof.Machine.execCciTransactionDone t p ack value s
  | .unknownCommandByte t b => Sys2Proof.Machine.execUnknownCommandByte t b s
  | .prbsTestEnable t path lane v => Sys2Proof.Machine.execPrbsTestEnable t path lane v s

end Sys2Proof.Machine
end

