-- ==== Sys2Proof/Safety.lean ====
section
/-!
DEFINITION. What the statements speak of: a command that takes effect, what it leaves as it was, what it puts into the log,
what an engine needs to issue an instruction, and the shape that every reachable state keeps.
-/
namespace Sys2Proof.Machine

/-! ### Completion and frame -/

/-- Command c on s answers a next state, of which P holds. -/
def Completes (c : Instr) (s : State) (P : State → Prop) : Prop := ∃ t, exec c s = .next t ∧ P t

/-- The parts of State beside the registers. -/
inductive Part where
  | queue | fresh | clock | shadow | lowWords | boot | itin | evt | sbx | svc | dram | rooms | porter | outs | engines
  | caches | imem | codecs | chains | link | servo | wall | cams | isp | blt | power | therm | stage | energy
  deriving DecidableEq, Repr

/-- A part of t is what it is in s. -/
def Part.same (s t : State) : Part → Prop
  | .queue => t.pending = s.pending
  | .fresh => t.fresh = s.fresh
  | .clock => t.clock = s.clock
  | .shadow => t.shadow = s.shadow
  | .lowWords => t.lowWords = s.lowWords
  | .boot => t.boot = s.boot
  | .itin => t.itin = s.itin
  | .evt => t.evt = s.evt
  | .sbx => t.sbx = s.sbx
  | .svc => t.svc = s.svc
  | .dram => t.dram = s.dram
  | .rooms => t.rooms = s.rooms
  | .porter => t.porter = s.porter
  | .outs => t.outs = s.outs
  | .engines => t.engines = s.engines
  | .caches => t.caches = s.caches
  | .imem => t.imem = s.imem
  | .codecs => t.codecs = s.codecs
  | .chains => t.chains = s.chains
  | .link => t.link = s.link
  | .servo => t.servo = s.servo
  | .wall => t.wall = s.wall
  | .cams => t.cams = s.cams
  | .isp => t.isp = s.isp
  | .blt => t.blt = s.blt
  | .power => t.power = s.power
  | .therm => t.therm = s.therm
  | .stage => t.stage = s.stage
  | .energy => t.energy = s.energy

/-- t differs from s in nothing but the named parts and the registers at the named addresses. -/
def Keeps (parts : List Part) (addrs : List Nat) (s t : State) : Prop :=
  (∀ p, p ∉ parts → p.same s t) ∧ ∀ a, a ∉ addrs → t.reg a = s.reg a

/-- The same with whole register blocks (R2), each named by one of its registers. -/
def KeepsBlocks (parts : List Part) (within : List Nat) (s t : State) : Prop :=
  (∀ p, p ∉ parts → p.same s t) ∧ ∀ a, (∀ b ∈ within, blockOf b ≠ blockOf a) → t.reg a = s.reg a

/-- Every byte of DRAM outside n bytes from a on reads as before. -/
def MemoryKept (a n : Nat) (s t : State) : Prop := ∀ x, x < a ∨ a + n ≤ x → t.memByte x = s.memByte x

/-! ### Events -/

/-- Event n is pending in t with a cause and an argument, stamped with TIME_NS of s, unless a raise of n was pending in s
(which then stays and is marked coalesced, R475). -/
def Logs (s t : State) (n : Nat) (cause : Nat) (arg : Nat) : Prop :=
  (∀ r ∈ s.evt.pend, r.src ≠ n) →
    ∃ r ∈ t.evt.pend, r.src = n ∧ r.cause = BitVec.ofNat 8 cause ∧ r.arg = BitVec.ofNat 32 arg ∧ r.stamp = s.timeNs ∧
      r.coalesced = false ∧ r.injected = false

/-- The same for an event whose cause byte no chapter numbers (assumption log 7). -/
def LogsOpen (s t : State) (n : Nat) (arg : Nat) : Prop :=
  (∀ r ∈ s.evt.pend, r.src ≠ n) →
    ∃ r ∈ t.evt.pend, r.src = n ∧ r.arg = BitVec.ofNat 32 arg ∧ r.stamp = s.timeNs ∧ r.coalesced = false ∧
      r.injected = false

/-- The events pending in t are those pending in s. -/
def NoEvent (s t : State) : Prop := t.evt.pend = s.evt.pend

/-! ### Access to registers -/

/-- The paths that write registers: the Concierge, and the service port while it is unlocked; the wall bus only reads
(R478, R492). -/
abbrev State.writesOn (s : State) (p : Path) : Prop := p = .concierge ∨ p = .service ∧ s.unlocked = true

/-- An aligned address within a block window whose power domain is on (R3, R5, R6). -/
abbrev State.grants (s : State) (a : Nat) : Prop :=
  a % 4 = 0 ∧ inRegSpace a = true ∧ s.pd (regDomain (blockOf a) (a % 0x10000)) = 2

/-- A register whose write does nothing but set its RW bits and clear its W1C bits. -/
def plainRegister (a : Nat) : Bool :=
  !([SVC_UNLOCK, EVT_INJECT, SBX_CTRL, DRC_THAW_CTRL, LNK_INJECT, DRC_THAW_ADDR_LO, DRC_THAW_ADDR_HI].contains a) &&
    (inArray a (LPH_PRBS 0) 0x400 32).isNone && (inArray a (LPH_SLIP 0) 0x400 32).isNone &&
    (inArray a (ENG_SPAN_PEAK 0) 4 4).isNone && (inArray a (EVT_ROUTE 0) 4 64).isNone

/-- A register's new value after a write of v (R9): RW bits take v's, W1C bits written as 1 become 0, all others stay. -/
def WrittenBits (d : RegDesc) (old v new : Word) : Prop :=
  ∀ b, b < 32 → new.getLsbD b =
    ((if (accMask d .rw).testBit b then v.getLsbD b else old.getLsbD b) && !(v.getLsbD b && (accMask d .w1c).testBit b))

/-- What a command on a path touches for the path's own sake: the service port's frame counter and its status. -/
def pathParts (p : Path) : List Part := if p = .service then [.svc] else []
def pathAddrs (p : Path) : List Nat := if p = .service then [SVC_STAT] else []

/-- A service-port frame started in s: counted in SVC_STAT and noted for the relock, which 1 s without one has brought (R491,
R492). -/
def FrameNoted (s t : State) : Prop :=
  t.svc.lastFrame = s.now ∧ t.fld SVC_STAT_frames = (s.fld SVC_STAT_frames + 1) % 2 ^ 16 ∧
    t.fld SVC_STAT_unlocked = b2n s.unlocked

/-! ### The freeze -/

/-- t is s after a trigger has frozen the DRAM (R244, R245): EV056 names the trigger and the channel, the record is latched with
each channel's commands, every populated channel stands in state 5 with SRE as its last command and nothing queued, DRAM keeps its
bytes where no write was queued, and a kept snapshot is requested. -/
structure Frozen (s : State) (trigger channel word req syndrome addr : Nat) (t : State) : Prop where
  event : Logs s t 56 trigger (trigger * 2 ^ 28 + channel * 2 ^ 25)
  info : t.reg DRC_FREEZE_INFO = BitVec.ofNat 32
    (2 ^ 31 + trigger * 2 ^ 28 + channel * 2 ^ 25 + word * 2 ^ 22 + req * 2 ^ 16 + syndrome * 2 ^ 8)
  address : t.reg DRC_FREEZE_ADDR_LO = BitVec.ofNat 32 addr ∧ t.reg DRC_FREEZE_ADDR_HI = BitVec.ofNat 32 (addr / 2 ^ 32)
  since : t.dram.frozenAt = some s.now
  channels : ∀ c ∈ s.populated, t.chState c = 5 ∧ (t.dch c).retry = [] ∧ (t.dch c).reads = [] ∧ (t.dch c).writes = [] ∧
    ∃ e, (t.dch c).issued.getLast? = some e ∧ e.lo.toNat / 2 ^ 28 = 9
  history : ∀ c : Channel, c.val ≠ channel → t.dram.hist[c] = (s.dch c).issued
  memory : (∀ c ∈ s.populated, (s.dch c).writes = []) → t.dram.mem = s.dram.mem
  snapshot : s.sbx.queued = none → t.sbx.queued = some { kind := 3 }

/-- The registers that a freeze writes. -/
def freezeAddrs : List Nat :=
  [DRC_FREEZE_INFO, DRC_FREEZE_ADDR_LO, DRC_FREEZE_ADDR_HI, SBX_STAT, EVT_LOST] ++ (List.range 8).map DRC_CH_STAT

/-- A channel in normal service on which nothing waits: no read, no write, no granularity for the next REF, and no word of DRAM is
stored wrong. -/
structure State.Quiet (s : State) (c : Channel) : Prop where
  state : s.chState c = 2
  reads : (s.dch c).reads = []
  writes : (s.dch c).writes = []
  classA : s.classAReads c = []
  gran : (s.dch c).gran = none
  words : s.dram.bad = []

/-- A class's requests go without a token, or two are there (R192). -/
abbrev State.mayPay (s : State) (cls : Nat) : Prop := s.mustPay cls = false ∨ 2 ≤ s.tokens cls

/-! ### Issuing on an engine -/

/-- Engine g in the clock in which it issues the form f of a shape: what R125 leaves out of its wait is left out. -/
def Engine.issuing (g : Engine) (sh : Shape) (f : Form) (u : Option SharedUnit) (c : Nat) : Engine :=
  g.stallTo (Served.awaited (shapeWaits sh f) u) c

/-- Engine e holds span g and issues the form f of a shape now, at clock c: its words lie within the program, the encoding
is legal, no register that it waits for is outstanding in a shared unit, its unit's queue has room, and the watchdog's
count stays within the budget (R103, R104, R106, R112, R125). -/
structure Issues (s : State) (e : EngineId) (sh : Shape) (f : Form) (lm : Bool) (u : Option SharedUnit) (g : Engine)
    (c : Nat) : Prop where
  here : s.engine? e = some g
  notEnding : g.ending = false
  inProgram : s.fetchOk g (if f.imm.isSome then 2 else 1) = true
  legal : sh.ok f = true
  noWait : g.unitWaits (shapeWaits sh f) = false
  room : u.any g.queueFull = false
  clock : c = g.issueClock (shapeWaits sh f) lm u
  inBudget : c + 1 - (g.issuing sh f u c).excluded ≤ s.budget g.slot g.w

/-- The pc behind an instruction's words. -/
def Engine.after (g : Engine) (f : Form) : Nat := g.pc + if f.imm.isSome then 2 else 1

/-- Engine h is g with an instruction of a shape issued at clock c that neither jumps nor ends: the pc stands behind its words,
the next clock follows, and the span in hand, its marks and the results that are served are as before. -/
structure Engine.Moved (sh : Shape) (f : Form) (u : Option SharedUnit) (c : Nat) (g h : Engine) : Prop where
  pc : h.pc = g.after f
  clk : h.clk = c + 1
  span : h.out = g.out ∧ h.slot = g.slot ∧ h.span = g.span ∧ h.xs0 = g.xs0 ∧ h.y0 = g.y0 ∧ h.w = g.w
  count : h.excluded = (g.issuing sh f u c).excluded ∧ h.served = g.served ∧ h.written = g.written ∧ h.ending = g.ending ∧
    h.token = g.token

/-- Registers of h are those of g but for the named vector, scalar and predicate ones; local memory but for words, and with
it which words are unreadable. -/
structure Engine.RegsBut (vs ss ps lms : List Nat) (g h : Engine) : Prop where
  vec : ∀ r i, i < 8 → r ∉ vs → h.vreg r i = g.vreg r i
  scal : ∀ r, r ∉ ss → h.sreg r = g.sreg r
  pred : ∀ r, r ∉ ps → h.preg r = g.preg r
  loc : ∀ k, k ∉ lms → h.lmWord k = g.lmWord k
  lost : ∀ k, k ∉ lms → h.lost.contains k = g.lost.contains k

/-- The registers named by keys become readable at a clock, every other one as before (R104, R106). -/
def Engine.BusyUntil (keys : List Nat) (at_ : Nat) (g h : Engine) : Prop :=
  ∀ k, Sparse.getD h.busy k 0 = if k ∈ keys then at_ else Sparse.getD g.busy k 0

/-- t is s after a trap of engine e, whose span was g (R88, R124): the engine is free, the span is counted as failed and the
trap as the cluster's, which holds the trap's record and the trapping pc, and EV000 + cluster is raised; every other engine and
register is as before, and so is everything else but the idle times of sleep groups. -/
structure Trapped (e : EngineId) (g : Engine) (code soft pc : Nat) (s t : State) : Prop where
  freed : t.engine? e = none
  others : ∀ k, k ≠ e → t.engine? k = s.engine? k
  failed : t.fld (RAY_SPAN_FAIL_count g.out.val) = min (s.fld (RAY_SPAN_FAIL_count g.out.val) + 1) (2 ^ 32 - 1)
  counted : t.fld (ENG_CL_TRAPS_count (clusterOf e)) = min (s.fld (ENG_CL_TRAPS_count (clusterOf e)) + 1) (2 ^ 32 - 1)
  last : t.reg (ENG_CL_LAST (clusterOf e)) =
    BitVec.ofNat 32 (code * 2 ^ 28 + e.val % 16 * 2 ^ 24 + g.out.val * 2 ^ 22 + g.slot * 2 ^ 20 + g.span)
  lastPc : t.reg (ENG_CL_LASTPC (clusterOf e)) = BitVec.ofNat 32 (soft * 2 ^ 16 + pc % 2 ^ 13)
  event : Logs s t (clusterOf e) code (e.val % 16 * 2 ^ 28 + g.out.val * 2 ^ 26 + g.span)
  rest : Keeps [.engines, .evt, .power]
    [RAY_SPAN_FAIL g.out.val, ENG_CL_TRAPS (clusterOf e), ENG_CL_LAST (clusterOf e), ENG_CL_LASTPC (clusterOf e), EVT_LOST] s t

/-! ### Accesses to DRAM -/

/-- What a requester's accesses through the Innkeeper may touch: the channels, the tokens of its class, its TLB, the commands'
free clock counts, and the events and the freeze that an error brings. -/
def accessParts : List Part := [.dram, .porter, .rooms, .fresh, .evt, .sbx]

/-- The register blocks that such accesses may touch, each by one of its registers. -/
def accessBlocks : List Nat := [DRC_CFG, INK_FAULT_INFO, EVT_LOST, SBX_STAT]

/-! ### Decoding -/

/-- The decoder's run over what has arrived of item x, from where the leg stands. -/
def State.decodeResult (s : State) (u : CodecUnit) (x : LegItem) (run : LegRun) (lim : Option DecodeLimit) :
    Ran × DecState × State :=
  decodeRun (s.legCtx u x run.hdr) (s.legBody x) (lim.map limitStop) (16 * run.hdr.compressed + 2 * run.hdr.blocks + 4) run.dec s

/-- Does a leg's k-th pixel, the last of its 8 × 8 tile in the order of R134, complete the tile? -/
def completesTile (c : LegCtx) (k : Nat) : Bool :=
  (pixelPlace c k).2 % c.hdr.width % 8 = 7 && (pixelPlace c k).2 / c.hdr.width % 8 = 7

/-- The offset in the output's VIEW space of the tile that a leg's k-th pixel completes (R55, R134). -/
def tileOffset (c : LegCtx) (k : Nat) : Nat :=
  c.decode + pixelOffset c (pixelPlace c k).1 ((pixelPlace c k).2 - 7 * c.hdr.width - 7)

/-- v is s after codec unit u has gone on with the leg of a run, whose item is x, as far as it can: the decoder's result, its
pixels in the unit's 64-bit count, the run's progress or its failing code with EV032 + u, and, where no freeze has come, no byte
of DRAM changed but those of the tiles that it has completed (R55, R134, R172, R173, R176). -/
structure Decoded (u : CodecUnit) (x : LegItem) (run : LegRun) (lim : Option DecodeLimit) (s v : State) : Prop where
  memory : v.dram.mem = (s.decodeResult u x run lim).2.2.dram.mem
  kept : v.frozen = false → ∀ a, (∀ p k i, run.dec.produced ≤ k → k < (s.decodeResult u x run lim).2.1.produced →
      completesTile (s.legCtx u x run.hdr) k = true → s.phys? x.out.val (tileOffset (s.legCtx u x run.hdr) k) = some p → i < 64 * bppOf run.hdr.format → a ≠ p + i) →
    v.memByte a = s.memByte a
  pixels : (v.reg (CDC_U_PIX_LO u.val)).toNat + (v.reg (CDC_U_PIX_HI u.val)).toNat * 2 ^ 32 =
    ((s.reg (CDC_U_PIX_LO u.val)).toNat + (s.reg (CDC_U_PIX_HI u.val)).toNat * 2 ^ 32 +
      ((s.decodeResult u x run lim).2.1.produced - run.dec.produced)) % 2 ^ 64
  ends : match s.decodeResult u x run lim with
    | (.finished, d, _) =>
      (v.codec u).leg = some { run with dec := d, finished := true } ∧ v.fld (CDC_U_STAT_stall u.val) = 0
    | (.input, d, _) =>
      (v.codec u).leg = some { run with dec := d, finished := false } ∧ v.fld (CDC_U_STAT_stall u.val) = 1
    | (.write, d, _) =>
      (v.codec u).leg = some { run with dec := d, finished := false } ∧ v.fld (CDC_U_STAT_stall u.val) = 2
    | (.source, d, _) =>
      (v.codec u).leg = some { run with dec := d, finished := false } ∧ v.fld (CDC_U_STAT_stall u.val) = 3
    | (.failed code, _, _) =>
      (v.codec u).leg = none ∧ v.fld (CDC_U_STAT_busy u.val) = 0 ∧
        v.fld (CDC_U_STAT_last_outcome u.val) = code % 2 ^ 8 ∧ Logs s v (32 + u.val) code run.hdr.legId.toNat ∧
        ∀ l ∈ (v.out x.out).cycle.legs, l.item = run.item → l.outcome = some code

/-! ### Blitting -/

/-- v is s after a list has been abandoned at a command (R408): the blitter is free, the failure counted and named, the
list's plane marked as not drawn, and the event of its cause raised, for a card EV173. -/
structure Abandoned (o : Output) (plane : Nat) (card : Bool) (cause index : Nat) (s v : State) : Prop where
  free : v.blt.run = none ∧ v.fld BLT_STAT_busy = 0
  counted : v.fld BLT_FAIL_count = min (s.fld BLT_FAIL_count + 1) (2 ^ 32 - 1)
  named : v.reg BLT_LAST_ERR =
    BitVec.ofNat 32 (o.val * 2 ^ 30 + (if card then 6 else cause + 1) * 2 ^ 24 + index % 4096)
  plane : (v.out o).cycle.planes.get (Fin.ofNat 4 plane) = some false
  event : LogsOpen s v (if card then 173 else 168 + cause) (o.val * 2 ^ 30 + index % 4096)

/-- v is s with list r standing before its next command (R398–R400, R407): it ends completed, goes on with a command that
passes its checks, or is abandoned at one that does not. -/
structure ListStands (r : ListRun) (s v : State) : Prop where
  ends : r.cmds[r.index]? = none → v.blt.run = none ∧ v.fld BLT_STAT_busy = 0 ∧
    v.fld BLT_DONE_count = min (s.fld BLT_DONE_count + 1) (2 ^ 32 - 1) ∧
    (v.out r.out).cycle.planes.get (Fin.ofNat 4 r.plane) =
      some (((s.out r.out).cycle.planes.get (Fin.ofNat 4 r.plane)).getD true)
  goesOn : ∀ c, r.cmds[r.index]? = some c → s.checkBlit r.out r.card c = none →
    v.blt.run = some { r with since := s.now } ∧ v.fld BLT_STAT_cmd = r.index % 4096
  refused : ∀ c cause, r.cmds[r.index]? = some c → s.checkBlit r.out r.card c = some cause →
    Abandoned r.out r.plane r.card cause r.index s v

/-! ### Panels -/

/-- What an output's column channel k sends. -/
def State.sends (s : State) (o : Output) (k : Nat) : ColumnSend := Sparse.getD (s.out o).scan.slots k .electricalIdle

/-- u is s after the orderly power-off of an output has begun (R288): it scans no more, and without a line to end first its
channels send DISCHARGE packets with XON high. -/
structure OffBegins (o : Output) (s u : State) : Prop where
  seq : u.panelSeq o = 2 ∧ u.panelState o = 3 ∧ u.fld (SCN_OUT_STAT_static o.val) = 0
  waits : s.lineComing o = true → u.panelStep o = 0
  starts : s.lineComing o = false → u.panelStep o = 1 ∧ u.fld (PNL_OUT_STAT_xon o.val) = 1 ∧
    ∀ k ∈ s.channelsOf o, u.sends o k = .discharge (dischargePacket (s.startsOut8 o))

/-- u is s with an output unpowered (R284, R292): every rail disabled, XON low, the channels in electrical idle, and EV148 with
a code. -/
structure Unpowered (o : Output) (code : Nat) (s u : State) : Prop where
  state : u.panelState o = 0 ∧ u.panelSeq o = 0 ∧ u.panelStep o = 0
  pins : u.fld (PNL_OUT_STAT_en o.val) = 0 ∧ u.fld (PNL_OUT_STAT_dis o.val) = 15 ∧ u.fld (PNL_OUT_STAT_xon o.val) = 0
  channels : ∀ k ∈ s.channelsOf o, u.sends o k = .electricalIdle
  event : LogsOpen s u 148 (o.val * 2 ^ 30 + code)

/-- Rail r of an output is enabled or disabled by its two pins (R284). -/
abbrev State.railIs (s : State) (o : Output) (r : Nat) (on : Bool) : Prop :=
  s.fld ⟨PNL_OUT_STAT o.val, r, r⟩ = b2n on ∧ s.fld ⟨PNL_OUT_STAT o.val, r + 4, r + 4⟩ = b2n !on

/-- The rail readings of an output are those of a command. -/
abbrev State.readsRails (s : State) (o : Output) (mv : RailMv) : Prop :=
  s.fld (PNL_RAIL_A_avdd_mv o.val) = patternOf 16 mv.avdd ∧ s.fld (PNL_RAIL_A_vgh_mv o.val) = patternOf 16 mv.vgh ∧
    s.fld (PNL_RAIL_B_vgl_mv o.val) = patternOf 16 mv.vgl ∧ s.fld (PNL_RAIL_B_vcom_mv o.val) = patternOf 16 mv.vcom

/-! ### The Caravan link -/

/-- Wagons that wait to be relayed on a hop. -/
def State.waitingRelays (s : State) (h : Hop) : List RelayWagon := (s.tx h).q1 ++ (s.tx h).q2relay ++ (s.tx h).q3

/-- u is s with hop h, which was up, down for warm retrains (R310, R325): the event is raised; credits, numbers, replay buffer and
own wagons stay; the wagons that waited to be relayed on it are dropped and counted, and their space is freed. -/
structure HopFalls (h : Hop) (s u : State) : Prop where
  state : u.hopState h = 3 ∧ u.hopState (otherHop h) = s.hopState (otherHop h)
  event : Logs s u (96 + hopIx h) 2 (2 * 2 ^ 24 + (s.hop h).partner)
  hop : u.hop h = { s.hop h with
    tries := 0, peerSeen := false, sentSeen := false, gotSeen := none, warm := true, lanesReady := false, since := s.now }
  rx : u.rx h = { s.rx h with waiting := false, violations := [] }
  tx : u.tx h = { s.tx h with q0 := [], q1 := [], q2relay := [], q3 := [], wire := none, leaving := none }
  other : u.hop (otherHop h) = s.hop (otherHop h) ∧ u.tx (otherHop h) = s.tx (otherHop h) ∧
    u.rx (otherHop h) = { s.rx (otherHop h) with held := (u.rx (otherHop h)).held }
  dropped : u.fld (LNK_RELAY_DROP_count (hopIx (otherHop h))) =
    min (s.fld (LNK_RELAY_DROP_count (hopIx (otherHop h))) + (s.waitingRelays h).length) (2 ^ 32 - 1)
  freed : ∀ w ∈ s.waitingRelays h, s.rooms.heldOwn.any (fun x => x.id = w.id) = false →
    Sparse.get? (u.rx (otherHop h)).held w.id = none
  lanes : ∀ n ∈ rxLanes h, u.fld (LPH_STAT_deskewed n) = 0

/-- u is s with hop h up with partner p (R309): where both ends have kept their link state, the transmitter resends what the
partner has not received; else the link layer starts anew. -/
structure HopRises (h : Hop) (p : PeerHello) (s u : State) : Prop where
  state : u.hopState h = 2
  event : h = .up ∨ s.wrongPartner p = false → Logs s u (96 + hopIx h) 1 (2 ^ 24 + p.tile)
  wrong : h = .dn → s.wrongPartner p = true → (∀ r ∈ s.evt.pend, r.src ≠ 97) →
    ∃ r ∈ u.evt.pend, r.src = 97 ∧ r.cause = 3 ∧ r.arg = BitVec.ofNat 32 (3 * 2 ^ 24 + p.tile)
  warm : (s.hop h).warm = true → p.warm = true → u.rx h = s.rx h ∧ (u.tx h).next = (s.tx h).next ∧
    (u.tx h).replay = (s.tx h).replay.filter (fun x => !seqBefore x.1 p.rxNext) ∧
    (u.tx h).resend = (u.tx h).replay.map (·.1) ∧ (u.tx h).consumed = (s.tx h).consumed ∧
    (u.tx h).limit = (s.tx h).limit
  cold : (s.hop h).warm = false ∨ p.warm = false → (u.rx h).expected = 0 ∧ (u.tx h).next = 0 ∧ (u.tx h).replay = [] ∧
    (u.tx h).resend = [] ∧ ∀ i : Fin 3, (u.rx h).received.get i = 0 ∧ (u.rx h).limits.get i = 0 ∧
      (u.tx h).consumed.get i = 0 ∧ (u.tx h).limit.get i = 0
  since : h = .up → u.servo.upAt = some s.now

/-- The receive lanes of a hop pass steps 1 and 2 of a bring-up with the results of a command (R301, R306, R308). -/
abbrev State.lanesPass (s : State) (h : Hop) (res : List LaneTrain) : Prop :=
  s.prbsTest h = false ∧ ∀ i, i < 8 → laneFailure (upbound h false) res i = 0

/-- What such an attempt leaves on the lanes: deskew on all of them if it has passed, an event for each that has failed. -/
def LanesTrained (h : Hop) (res : List LaneTrain) (s u : State) : Prop :=
  (s.lanesPass h res → ∀ n ∈ rxLanes h, u.fld (LPH_STAT_deskewed n) = 1 ∧ u.fld (LPH_STAT_block_lock n) = 1) ∧
    (s.prbsTest h = false → ∀ i, i < 8 → ∀ n, (rxLanes h)[i]? = some n →
      u.fld (LPH_STAT_fom n) = (res.getD i default).fom.toNat ∧
      (laneFailure (upbound h false) res i ≠ 0 → Logs s u (64 + n) (laneFailure (upbound h false) res i)
        (laneFailure (upbound h false) res i * 2 ^ 24 + (res.getD i default).fom.toNat)))

/-- Hop h of u has started a new wagon of a VC with bytes bs (R317, R326). -/
def Started (h : Hop) (vc : Nat) (bs : Bytes) (s u : State) : Prop :=
  let a := s.tx h
  let b := u.tx h
  b.wire = some (stampWagon bs a.next.toNat a.corrupt false) ∧ b.corrupt = false ∧ b.next = a.next + 1 ∧
    b.replay = a.replay ++ [(a.next, bs)] ∧
    ∀ i : Fin 3, b.consumed.get i =
      if i.val + 1 = vc then a.consumed.get i + BitVec.ofNat 32 (wagonCharge (bs.length - 16)) else a.consumed.get i

/-- The payload of the LINK_STATE that a hop sends now (R318). -/
def State.linkStateBody (s : State) (h : Hop) (nak : Nat) : Bytes :=
  toLe 2 (s.rx h).expected.toNat ++ toLe 1 nak ++ [0] ++
    ((s.newLimits h).toList.flatMap fun (l : Word) => toLe 4 l.toNat) ++ zeros 8

/-- u is s with a LINK_STATE queued, its limits advertised (R316, R318). -/
structure StateQueued (h : Hop) (nak : Nat) (s u : State) : Prop where
  queued : (u.tx h).q0 = (s.tx h).q0 ++ [wagonBytes 0x02 0 (15 + 16 * s.tileId) 3 24 0 0 (s.linkStateBody h nak)]
  limits : (u.rx h).limits = s.newLimits h
  monotone : ∀ i : Fin 3, atOrPast ((s.newLimits h).get i) ((s.rx h).limits.get i) = true
  sent : (u.hop h).lastState = some s.now

/-- Received wagon bytes b are the next sequenced wagon of a group, undamaged, of a known type and length and within its VC's
limit (R312, R313, R315, R317, R326). -/
structure InSequence (h : Hop) (w : Wagon) (vc : Nat) (s : State) : Prop where
  sound : wagonCheck h w = 0
  channel : (parseWagon w.bytes).vc = vc
  known : typeVc h (parseWagon w.bytes).type = some vc
  length : (parseWagon w.bytes).length ≤ 9216
  next : (parseWagon w.bytes).seq = (s.rx h).expected
  credit : atOrPast ((s.newLimits h).get (Fin.ofNat 3 (vc - 1)))
    ((s.rx h).received.get (Fin.ofNat 3 (vc - 1)) + BitVec.ofNat 32 (wagonCharge (parseWagon w.bytes).length)) = true

/-! ### The wall bus -/

/-- The body of a frame's message (R364). -/
def frameBody (f : Frame) : Bytes := (f.payload.take (12 + leAt f.payload 8 2)).drop 12

/-- The first rule of R377 that a frame of an open sender breaks, by its code; none where its message is taken. -/
def State.wallCode (s : State) (f : Frame) : Option Nat :=
  let e := s.roster.find? fun x => x.mac = f.src
  let type := leAt f.payload 1 1
  if e.any (fun x => decide (x.limit < f.wire)) then some 1
  else if msgHeaderBad f e then some 2
  else if type = 0 || 8 < type then some 3
  else if lengthBad f then some 4
  else if e.any (fun x => !roleAllows x type) then some 5
  else if type = 6 || type = 7 then
    match s.authCheck (f.payload.take (12 + leAt f.payload 8 2)) (s.sender (s.senderKey f)).counter with
    | 0 => if type = 7 && (leAt f.payload 12 1 = 0 || 3 < leAt f.payload 12 1) then some 9 else none
    | c => some c
  else none

/-- u is s after a counted violation by the sender of a frame (R377): its count and event, a COMPLAINT to the offender unless one
of the code went within 100 ms, and quarantine for 10 s at the 65th within 1 s. -/
structure WallViolates (f : Frame) (code : Nat) (s u : State) : Prop where
  counted : u.fld ⟨WBS_VIOL, 31, 0⟩ = min (s.fld ⟨WBS_VIOL, 31, 0⟩ + 1) (2 ^ 32 - 1)
  event : LogsOpen s u (if code = 6 ∨ code = 7 then 124 else 122) (code * 2 ^ 24 + s.senderNode f * 2 ^ 8)
  complaint : s.wall.up = true → ∀ n last, Sparse.getD (s.sender (s.senderKey f)).complaints code (0, none) = (n, last) →
    last.any (fun e => !s.elapsed e (edgesMs 100)) = false →
    u.wall.txComplaint = s.wall.txComplaint ++ (s.ownFrame f.src 0x08 0 s.wall.seq
      (toLe 1 code ++ toLe 2 (min (n + 1) 0xFFFF) ++ [0] ++ toLe 8 s.timeNs ++ f.payload.take 12)).toList
  silent : ∀ n last, Sparse.getD (s.sender (s.senderKey f)).complaints code (0, none) = (n, last) →
    last.any (fun e => !s.elapsed e (edgesMs 100)) = true → u.wall.txComplaint = s.wall.txComplaint
  quarantine : ∀ recent, (s.sender (s.senderKey f)).violations.filter (fun e => decide (s.now < e + edgesS 1)) = recent →
    (64 ≤ recent.length → (u.sender (s.senderKey f)).quarantine = some (s.now + edgesS 10) ∧
      LogsOpen s u 125 (s.senderNode f * 2 ^ 8)) ∧
    (recent.length < 64 → (u.sender (s.senderKey f)).violations = recent ++ [s.now] ∧
      (u.sender (s.senderKey f)).quarantine = (s.sender (s.senderKey f)).quarantine)
  others : ∀ k, k ≠ s.senderKey f → u.sender k = s.sender k
  rest : Keeps [.evt, .wall] [WBS_VIOL, EVT_LOST] s u

/-- A frame delivers message m to what its command does, leaving s1. -/
def Delivers (kind : Nat) (f : Frame) (s s1 : State) (m : WallMsg) : Prop :=
  m.frame = f ∧ ∀ act : State → WallMsg → State, s.wallCommand kind f act = act s1 m

/-- A staging message arrives as m on its path, leaving s1. -/
def Arrives (op : Nat) (msg : StageMsg) (s s1 : State) (m : StageIn) : Prop :=
  ∀ act : State → StageIn → State, s.stageMsg op msg act = act s1 m

/-- u is s with the reply to a COMMAND queued, and EV126 for an accepted one (R374). -/
structure Answered (m : WallMsg) (result : Nat) (s u : State) : Prop where
  reply : s.wall.up = true → u.wall.txReply = s.wall.txReply ++ (s.ownFrame m.frame.src 0x07 1
    (BitVec.ofNat 16 (leAt m.frame.payload 6 2))
    (m.body.take 1 ++ toLe 1 result ++ [0, 0] ++ toLe 8 (trailerCounter m.body))).toList
  event : result = 0 → LogsOpen s u 126 (leAt m.body 0 1 * 2 ^ 8 + leAt m.body 1 1)

/-- u is s with a staging message answered by a status and a slot, on its path (R471). -/
structure StageAnswered (m : StageIn) (status target : Nat) (s u : State) : Prop where
  noted : u.fld CFG_STAGE_status = status
  wallBus : ∀ f, m.frame = some f → s.wall.up = true → u.wall.txReply = s.wall.txReply ++ (s.ownFrame f.src 0x06 1
    (BitVec.ofNat 16 (leAt f.payload 6 2)) (toLe 1 m.op ++ toLe 1 status ++ toLe 2 m.session.toNat ++
      toLe 4 u.stageReceived ++ toLe 1 target ++ [0, 0, 0])).toList
  caravan : m.frame = none → s.hopUsed .up = true → s.frozen = false →
    u.link.txUp.q2own = s.link.txUp.q2own ++ [wagonBytes 0x45 2 (15 + 16 * s.tileId) 3 12 0 0
      (toLe 1 m.op ++ toLe 1 status ++ toLe 2 m.session.toNat ++ toLe 4 u.stageReceived ++ toLe 1 target ++ [0, 0, 0])]
  event : status ≠ 0 → LogsOpen s u 251 (status * 2 ^ 24 + m.op * 2 ^ 16 + m.session.toNat)

/-! ### Camera ports -/

/-- u is s with the open frame f of a port closed with further marks (R386): the port's registers describe it, EV152 + p is raised
for a marked frame, and the ISP keeps it until it has taken its last line. -/
structure CamClosed (p : Port) (f : CamFrame) (more : BitVec 10) (s u : State) : Prop where
  openBit : u.fld (CAM_P_STAT_open p.val) = 0
  marks : u.fld (CAM_P_STAT_marks p.val) =
    (f.marks ||| more ||| if f.arrived < (s.camRec p).height then mkShort else 0).toNat
  lines : u.fld (CAM_P_LINES_processed p.val) = f.lines % 2 ^ 14 ∧
    u.fld (CAM_P_LINES_dropped p.val) = min 16383 f.dropped
  event : ∀ m, m = (f.marks ||| more ||| if f.arrived < (s.camRec p).height then mkShort else 0) → m ≠ 0 →
    Logs s u (152 + p.val) 1 (2 ^ 24 + m.toNat)
  frame : (u.cam p).frame = none
  rest : f.rows.length ≠ f.lines → (u.cam p).closing = (s.cam p).closing ++
    [{ f with marks := f.marks ||| more ||| if f.arrived < (s.camRec p).height then mkShort else 0 }]

/-- A packet of a port whose header is sound: its ECC right or corrected, its virtual channel the port's, its type n (R380, R381). -/
abbrev State.packetSound (s : State) (p : Port) (h : CsiHdr) (n : Nat) : Prop :=
  h.ecc ≠ .bad ∧ h.vc.toNat = (s.camRec p).vc ∧ h.dtype.toNat = n

/-- s with a corrected header counted. -/
def State.headerCounted (s : State) (p : Port) (h : CsiHdr) : State :=
  if h.ecc = .corrected then s.incFld (CAM_P_ECC_corrected p.val) 1 else s

/-- A frame after errors have been added to it, with the threshold of R381 noted. -/
def withErrors (f : CamFrame) (crc ecc : Nat) (marks : BitVec 10) : CamFrame :=
  { f with
    marks := f.marks ||| marks, crcN := f.crcN + crc, eccN := f.eccN + ecc
    thresholdRaised := f.thresholdRaised || decide (16 ≤ f.crcN + crc) || decide (16 ≤ f.eccN + ecc) }

/-- EV152 + p cause 3 for a frame g, which was f: raised where the threshold is newly noted. -/
def ThresholdLogged (p : Port) (f g : CamFrame) (s u : State) : Prop :=
  f.thresholdRaised = false → g.thresholdRaised = true → Logs s u (152 + p.val) 3 (3 * 2 ^ 24 + g.marks.toNat)

/-- u is s with script k of a port standing at a step (R387): pin steps happen at once; at the script's end INIT has succeeded and
START follows, and any other script gives way to the first one that waits. -/
structure ScriptGoes (p : Port) (k step : Nat) (ae : List Nat) (todo : List (Nat × List Nat)) (s u : State) : Prop where
  goesOn : ∀ x xs pin n, pinSteps ((s.script p k).drop step) (s.cam p).rstHigh 0 = (x :: xs, pin, n) →
    (u.cam p).script = some { script := k, step := step + n, ae, since := s.now } ∧ (u.cam p).rstHigh = pin
  started : ∀ pin n, pinSteps ((s.script p k).drop step) (s.cam p).rstHigh 0 = ([], pin, n) → k = 0 →
    u.fld (CAM_P_STAT_state p.val) = 2 ∧
    ((∀ x ∈ todo, x.1 ≠ 0) → Logs s u (152 + p.val) 5 (5 * 2 ^ 24 + s.fld (CAM_P_STAT_marks p.val))) ∧
    ∀ x xs pin' n', pinSteps (s.script p 1) pin 0 = (x :: xs, pin', n') →
      (u.cam p).script = some { script := 1, step := n', ae := [], since := s.now } ∧ (u.cam p).todo = todo
  stops : ∀ pin n, pinSteps ((s.script p k).drop step) (s.cam p).rstHigh 0 = ([], pin, n) → k ≠ 0 → todo = [] →
    (u.cam p).script = none ∧ (u.cam p).rstHigh = pin
  next : ∀ pin n, pinSteps ((s.script p k).drop step) (s.cam p).rstHigh 0 = ([], pin, n) → k ≠ 0 →
    ∀ k' ae' more, todo = (k', ae') :: more → ∀ x xs pin' n', pinSteps (s.script p k') pin 0 = (x :: xs, pin', n') →
      (u.cam p).script = some { script := k', step := n', ae := ae', since := s.now } ∧ (u.cam p).todo = more

/-! ### Power and temperature -/

/-- u is s with a sleep request of group g refused by a domain (R420, R421). -/
structure SleepRefused (g : SleepGroup) (pd : Nat) (s u : State) : Prop where
  stat : u.fld (PWR_SG_STAT_state g.val) = 1 ∧ u.fld (PWR_SG_STAT_status g.val) = 2 ∧ u.fld (PWR_SG_STAT_refuser g.val) = pd ∧
    u.fld (PWR_SG_STAT_refusals g.val) = min (s.fld (PWR_SG_STAT_refusals g.val) + 1) (2 ^ 16 - 1)
  event : Logs s u 224 1 (g.val * 2 ^ 8 + pd)
  again : u.power.groups.get g = { s.power.groups.get g with since := s.now, refusedAt := some s.now }
  rest : Keeps [.evt, .power] [PWR_SG_STAT g.val, EVT_LOST] s u

/-- u is s with a sleep request of group g, whose record is r, done (R420): the members that are on change to the target state. -/
structure SleepCommitted (g : SleepGroup) (r : SleepRec) (s u : State) : Prop where
  status : u.fld (PWR_SG_STAT_status g.val) = 1
  state : u.fld (PWR_SG_STAT_state g.val) = if r.members.any (fun pd => s.pd pd = 2) then 3 else 4
  moves : ∀ pd ∈ r.members, s.pd pd = 2 → u.pd pd = 3 ∧ Sparse.get? u.power.target pd = some (if r.off then 0 else 1)
  stays : ∀ pd, pd < 48 → pd ∉ r.members ∨ s.pd pd ≠ 2 → u.pd pd = s.pd pd
  rest : Keeps [.power] [PWR_SG_STAT g.val, PWR_PD_STATE 0, PWR_PD_STATE 1, PWR_PD_STATE 2] s u

/-- A dip of monitor m noted with a sample of mv (R425): its minimum, and a first one in the brace counted. -/
def DipNoted (m mv : Nat) (before : Option Dip) (s u : State) : Prop :=
  match before with
  | none => Sparse.get? u.power.dips m = some ⟨s.now, mv / 2 * 2⟩ ∧ u.fld (PWR_MON_STAT_min_mv m) = mv / 2 * 2 % 2 ^ 16 ∧
      u.fld (PWR_MON_DIPS_braces m) = min (s.fld (PWR_MON_DIPS_braces m) + 1) (2 ^ 16 - 1)
  | some d => Sparse.get? u.power.dips m = some ⟨d.since, min d.min (mv / 2 * 2)⟩ ∧
      u.fld (PWR_MON_STAT_min_mv m) = min d.min (mv / 2 * 2) % 2 ^ 16 ∧
      u.fld (PWR_MON_DIPS_braces m) = s.fld (PWR_MON_DIPS_braces m)

/-- ENG_CLOCK shows the base step of s, halved or not (R426, R427). -/
def ClockShows (halved : Bool) (s u : State) : Prop :=
  u.fld ENG_CLOCK_mhz = (if halved then s.engineClock * 250 / 2 else s.engineClock * 250) ∧ u.fld ENG_CLOCK_brace = b2n halved

/-- u is s after a reset that waits for the power-off of some powered output (R288, R445). -/
structure ResetWaits (k : ResetKind) (s u : State) : Prop where
  boot : u.boot = { s.boot with waiting := some k }
  offs : ∀ o : Output, s.panelState o ≠ 0 → s.panelSeq o < 2 → OffBegins o s u

/-- What the range and stuck tests find for a sensor not failed whose code of this round is read n (R436). -/
def State.codeCause (s : State) (read : Nat → Int) (n : Nat) : Nat :=
  if read n < -960 ∨ 3200 < read n then 1
  else if s.therm.raw.toList.getD n none = some (read n) ∧ 63 ≤ s.fld (THM_S_STAT_same n) then 2 else 0

/-- The sensors left after these tests. -/
def State.soundSensor (s : State) (read : Nat → Int) (n : Nat) : Bool := !s.sensorFailed n && s.codeCause read n == 0

/-- The cause for which a round marks a sensor as failed; 0 none (R436). -/
def State.sensorCause (s : State) (read : Nat → Int) (n : Nat) : Nat :=
  if s.codeCause read n ≠ 0 then s.codeCause read n
  else
    let near := ((neighbours n).filter (s.soundSensor read)).map read
    if 2 ≤ near.length ∧ 800 < (2 * read n - median2 near).natAbs then 3 else 0

/-- u is a safe harbour for a cause, begun from s (R464, R465). -/
structure Harbour (cause : Nat) (s u : State) : Prop where
  boot : u.boot = { s.boot with phase := .safeHarbour, romDone := true, flashCmds := u.boot.flashCmds }
  stat : u.fld CFG_BOOT_harbour = 1 ∧ u.fld CFG_BOOT_harbour_cause = cause
  event : Logs s u 248 cause (cause * 2 ^ 24 + 3)
  domains : ∀ pd, pd < 48 → u.pd pd = if pd < 44 ∨ pd = 45 then 0 else s.pd pd
  wall : u.wall.up = true ∧ u.wall.plca = false ∧ u.wall.mac = u.dieMac ∧ u.fld WBS_STAT_safe = 1
  kept : u.itin = s.itin ∧ u.outs = s.outs ∧ u.clock = s.clock ∧ u.sbx = s.sbx ∧ u.reg CFG_SEQ = 0

/-! ### Canonical states -/

/-- Do the pending raises stand in strictly rising source number, one for each source (R475)? -/
def raisesRising : List Raise → Bool
  | [] => true
  | [_] => true
  | x :: y :: rs => decide (x.src < y.src) && raisesRising (y :: rs)

/-- The shape of every reachable state: DRAM contents, the register list and the engines in their canonical form, at most
one pending raise for each source. -/
def State.Canonical (s : State) : Prop :=
  Memory.wf s.dram.mem = true ∧ Sparse.wf s.regs = true ∧ Sparse.wf s.engines = true ∧ raisesRising s.evt.pend = true

/-! ### The engine's instructions by shape -/

/-- The vector instructions d := op a b, with the clocks until d is readable (R92, R106, R110). -/
def vectorTwo : List ((EngineId → Form → Instr) × Nat × (Word → Word → Word)) :=
  [(.iadd, 1, fun a b => a + b), (.isub, 1, fun a b => a - b), (.imul, 2, fun a b => a * b),
   (.imin, 1, fun a b => if a.toInt < b.toInt then a else b), (.imax, 1, fun a b => if a.toInt < b.toInt then b else a),
   (.umin, 1, fun a b => if a.toNat < b.toNat then a else b), (.umax, 1, fun a b => if a.toNat < b.toNat then b else a),
   (.vand, 1, fun a b => a &&& b), (.vor, 1, fun a b => a ||| b), (.vxor, 1, fun a b => a ^^^ b),
   (.shl, 1, fun a b => a <<< (b.toNat % 32)), (.shr, 1, fun a b => a >>> (b.toNat % 32)),
   (.sar, 1, fun a b => a.sshiftRight (b.toNat % 32)),
   (.fadd, 4, Sys2Proof.Machine.fadd), (.fsub, 4, Sys2Proof.Machine.fsub), (.fmul, 4, Sys2Proof.Machine.fmul),
   (.fmin, 4, Sys2Proof.Machine.fmin), (.fmax, 4, Sys2Proof.Machine.fmax),
   (.hadd2, 4, halves hadd), (.hsub2, 4, halves hsub), (.hmul2, 4, halves hmul),
   (.hmin2, 4, halves (hminmax false)), (.hmax2, 4, halves (hminmax true)),
   (.f2h2, 2, fun a b => (f2h a).setWidth 32 ||| ((f2h b).setWidth 32 <<< 16))]

/-- The vector instructions d := op b. -/
def vectorOne : List ((EngineId → Form → Instr) × Nat × (Word → Word)) :=
  [(.mov, 1, fun b => b), (.fabs, 1, fun b => b &&& 0x7FFFFFFF), (.fneg, 1, fun b => b ^^^ 0x80000000),
   (.ffloor, 4, Sys2Proof.Machine.ffloor), (.ffrac, 4, Sys2Proof.Machine.ffrac), (.fsat, 4, Sys2Proof.Machine.fsat),
   (.i2f, 2, Sys2Proof.Machine.i2f), (.u2f, 2, Sys2Proof.Machine.u2f), (.f2i, 2, Sys2Proof.Machine.f2i),
   (.f2if, 2, Sys2Proof.Machine.f2if), (.f2ir, 2, Sys2Proof.Machine.f2ir),
   (.h2f, 2, fun b => Sys2Proof.Machine.h2f (b.setWidth 16)), (.h2fh, 2, fun b => Sys2Proof.Machine.h2f ((b >>> 16).setWidth 16))]

/-- The vector instructions d := op a b d. -/
def vectorThree : List ((EngineId → Form → Instr) × Nat × (Word → Word → Word → Word)) :=
  [(.imad, 2, fun a b d => a * b + d), (.fma, 4, ffma), (.hfma2, 4, halves3 hfma)]

/-- The compares (R100, R110). -/
def compares : List ((EngineId → Form → Instr) × (Word → Word → Bool)) :=
  [(.iseq, fun a b => a == b), (.isne, fun a b => a != b), (.islt, fun a b => decide (a.toInt < b.toInt)),
   (.isle, fun a b => decide (a.toInt ≤ b.toInt)), (.iult, fun a b => decide (a.toNat < b.toNat)),
   (.iule, fun a b => decide (a.toNat ≤ b.toNat)), (.fseq, feq), (.fsne, fne), (.fslt, flt), (.fsle, fle)]

/-- Predicate logic (R110). -/
def predicateLogic : List ((EngineId → Form → Instr) × (Byte → Byte → Byte)) :=
  [(.pand, fun a b => a &&& b), (.por, fun a b => a ||| b), (.pxor, fun a b => a ^^^ b), (.pandn, fun a b => a &&& ~~~b)]

/-- The scalar instructions s[d] := op a b, with their latencies (R92, R110). -/
def scalarTwo : List ((EngineId → Form → Instr) × Nat × (Word → Word → Word)) :=
  [(.sadd, 1, fun a b => a + b), (.ssub, 1, fun a b => a - b), (.smul, 2, fun a b => a * b),
   (.sand, 1, fun a b => a &&& b), (.sor, 1, fun a b => a ||| b), (.sxor, 1, fun a b => a ^^^ b),
   (.sshl, 1, fun a b => a <<< (b.toNat % 32)), (.sshr, 1, fun a b => a >>> (b.toNat % 32)),
   (.ssar, 1, fun a b => a.sshiftRight (b.toNat % 32)),
   (.smin, 1, fun a b => if a.toInt < b.toInt then a else b), (.smax, 1, fun a b => if a.toInt < b.toInt then b else a),
   (.sseq, 1, fun a b => if a = b then 1 else 0), (.sslt, 1, fun a b => if a.toInt < b.toInt then 1 else 0),
   (.ssltu, 1, fun a b => if a.toNat < b.toNat then 1 else 0)]

/-- The instructions that go to a shared unit: unit, opcode, shape, operand values of a lane (R92, R105, R110). -/
def unitInstrs : List ((EngineId → Form → Instr) × SharedUnit × Nat × Shape × (Engine → Form → Nat → List Word)) :=
  let b (g : Engine) (f : Form) (i : Nat) : List Word := [g.opB f i]
  let block (n : Nat) (g : Engine) (f : Form) (i : Nat) : List Word := (List.range n).map fun k => g.vreg (f.a.val + k) i
  [(.rcp, .sfu, 0x68, .vb, b), (.rsq, .sfu, 0x69, .vb, b), (.sqrt, .sfu, 0x6A, .vb, b), (.exp2, .sfu, 0x6B, .vb, b),
   (.log2, .sfu, 0x6C, .vb, b), (.sinp, .sfu, 0x6D, .vb, b), (.cosp, .sfu, 0x6E, .vb, b),
   (.calq, .calib, 0x70, .calq, block 2), (.smpa, .sample, 0x71, .smpa, fun g f i => block 4 g f i ++ b g f i),
   (.smps, .sample, 0x72, .smps, fun g f i => block 3 g f i ++ b g f i),
   (.smpcd, .sample, 0x73, .smpcd, fun g f i => block 3 g f i ++ b g f i), (.smpd, .sample, 0x74, .smpd, block 3),
   (.ovl, .overlay, 0x75, .ovl, block 3),
   (.out, .output, 0x76, .outp, fun g f i => [g.opA f i, g.vreg f.b.val i, g.vreg (f.b.val + 1) i])]

end Sys2Proof.Machine
end

