-- ==== Sys2Proof/Certificates/Slice0/Obligations.lean ====
section
/-!
DEFINITION. The statements for the provers.
-/
open Sys2Proof Sys2Proof.Machine

/-! ### The block -/

/-- A step takes the command at the front of the queue and runs it on the rest of the state; with nothing in the queue the
block idles, which is the model's choice (assumption log 11). Whatever is sent, the device goes on: every command answers a
next state. -/
def Obligations.StepRunsFront : Prop :=
  ((∀ (c : Instr) (rest : List Instr) (s : State), s.pending = c :: rest → step s = exec c { s with pending := rest }) ∧
   ∀ s : State, s.pending = [] → step s = .next s) ∧
 (∀ (c : Instr) (s : State), Completes c s fun _ => True)

/-- A reset sets every register to its Reset value and TIME_NS to 0; DRAM contents do not survive it (R448). -/
def Obligations.ResetRegisters : Prop :=
  ∀ s : State, (∀ a, s.afterReset.reg a = resetOf a) ∧ s.afterReset.clock.ns = 0 ∧ s.afterReset.dram.mem = []

/-- What else a reset leaves: TIME_INC 2.0 ns, an empty Guestbook whose next entry is number 0, no event pending, the port
locked, the default routing, FAULT_N low until the ROM boot ends; flash, fuses and the Strongbox's slots stay (R340, R447,
R480, R482, R492). The state after reset has its lists in canonical form. It rests on the model's choices of assumption log
4. -/
def Obligations.ResetLeaves : Prop :=
  ((∀ s : State, s.afterReset.clock.inc = 0x0000000200000000 ∧ s.afterReset.evt.book = [] ∧ s.afterReset.reg GBK_HEAD = 0 ∧
     s.afterReset.evt.pend = [] ∧ s.afterReset.fld SVC_STAT_unlocked = 0 ∧ s.afterReset.faultN = false ∧
     s.afterReset.boot.flash = s.boot.flash ∧ s.afterReset.boot.otp = s.boot.otp ∧
     s.afterReset.sbx.slots = s.sbx.slots ∧ s.afterReset.sbx.serial = s.sbx.serial) ∧
   State.reset.reg CFG_CHIP_ID = 0x5120C201 ∧ State.reset.reg (EVT_ROUTE 0) = 0x01010101 ∧
   State.reset.reg (PWR_PD_STATE 0) = 0xAAAAAAAA) ∧
 (State.reset.Canonical)

/-- Every step keeps a state's lists in canonical form: DRAM bytes, registers and engines stand in rising order without
repeats, and the event router holds at most one pending raise for each source (R475). -/
def Obligations.StepKeepsCanonical : Prop :=
 ∀ s t : State, s.Canonical → step s = .next t → t.Canonical

/-- A step takes one command from the queue and puts none there; no command writes the fuses; the Strongbox's serial only
counts up, by one (R454, R488). -/
def Obligations.StepKeepsQueueAndFuses : Prop :=
  ∀ s t : State, step s = .next t →
    t.pending = s.pending.tail ∧ t.boot.otp = s.boot.otp ∧ t.boot.flashId = s.boot.flashId ∧
      (t.sbx.serial = s.sbx.serial ∨ t.sbx.serial = s.sbx.serial + 1)

/-! ### The ray engine -/

/-- A two-operand vector instruction that issues writes op a b in the active lanes of v[d], which become readable after its
latency; inactive lanes, every other register, local memory and everything outside the engine stay as they are (R94, R103,
R106, R110). The vector instructions of operand b alone do the same, and so does VLANE, which writes each active lane's
number. The multiply-adds do the same; their third operand is the old destination. It rests on the model's choices of
assumption log 12 and 31. -/
def Obligations.VectorOperations : Prop :=
  (∀ p ∈ vectorTwo, ∀ (e : EngineId) (f : Form) (s : State) (g : Engine) (c : Nat), Issues s e .vab f false none g c →
     Completes (p.1 e f) s fun t => ∃ h, t = s.setEngine e h ∧ g.Moved .vab f none c h ∧ h.reqs = g.reqs ∧ h.bankFree = g.bankFree ∧
       g.RegsBut [f.d.val] [] [] [] h ∧ g.BusyUntil [keyV f.d.val] (c + p.2.1) h ∧
       ∀ i, i < 8 → h.vreg f.d.val i = if g.lane f i then p.2.2 (g.opA f i) (g.opB f i) else g.vreg f.d.val i) ∧
  ((∀ p ∈ vectorOne, ∀ (e : EngineId) (f : Form) (s : State) (g : Engine) (c : Nat), Issues s e .vb f false none g c →
     Completes (p.1 e f) s fun t => ∃ h, t = s.setEngine e h ∧ g.Moved .vb f none c h ∧ h.reqs = g.reqs ∧ h.bankFree = g.bankFree ∧
       g.RegsBut [f.d.val] [] [] [] h ∧ g.BusyUntil [keyV f.d.val] (c + p.2.1) h ∧
       ∀ i, i < 8 → h.vreg f.d.val i = if g.lane f i then p.2.2 (g.opB f i) else g.vreg f.d.val i) ∧
   ∀ (e : EngineId) (f : Form) (s : State) (g : Engine) (c : Nat), Issues s e .vlane f false none g c →
     Completes (.vlane e f) s fun t => ∃ h, t = s.setEngine e h ∧ g.Moved .vlane f none c h ∧ h.reqs = g.reqs ∧ h.bankFree = g.bankFree ∧
       g.RegsBut [f.d.val] [] [] [] h ∧ g.BusyUntil [keyV f.d.val] (c + 1) h ∧
       ∀ i, i < 8 → h.vreg f.d.val i = if g.lane f i then BitVec.ofNat 32 i else g.vreg f.d.val i) ∧
  (∀ p ∈ vectorThree, ∀ (e : EngineId) (f : Form) (s : State) (g : Engine) (c : Nat), Issues s e .vab f false none g c →
     Completes (p.1 e f) s fun t => ∃ h, t = s.setEngine e h ∧ g.Moved .vab f none c h ∧ h.reqs = g.reqs ∧ h.bankFree = g.bankFree ∧
       g.RegsBut [f.d.val] [] [] [] h ∧ g.BusyUntil [keyV f.d.val] (c + p.2.1) h ∧
       ∀ i, i < 8 → h.vreg f.d.val i =
         if g.lane f i then p.2.2 (g.opA f i) (g.opB f i) (g.vreg f.d.val i) else g.vreg f.d.val i)

/-- A compare that issues sets the bits of p[d] of the active lanes to the comparison; the bits of inactive lanes and every
other register stay (R94, R110). Predicate logic, PSET and PGET write p[d] or s[d] and nothing else; reading p0 gives 0xFF
(R93, R110). It rests on the model's choices of assumption log 12. -/
def Obligations.Predicates : Prop :=
  (∀ p ∈ compares, ∀ (e : EngineId) (f : Form) (s : State) (g : Engine) (c : Nat), Issues s e .cmp f false none g c →
     Completes (p.1 e f) s fun t => ∃ h, t = s.setEngine e h ∧ g.Moved .cmp f none c h ∧ h.reqs = g.reqs ∧ h.bankFree = g.bankFree ∧
       g.RegsBut [] [] [f.d.val] [] h ∧ g.BusyUntil [keyP f.d.val] (c + 1) h ∧
       ∀ i, i < 8 → (h.preg f.d.val).getLsbD i =
         if g.lane f i then p.2 (g.opA f i) (g.opB f i) else (g.preg f.d.val).getLsbD i) ∧
  ((∀ p ∈ predicateLogic, ∀ (e : EngineId) (f : Form) (s : State) (g : Engine) (c : Nat),
     Issues s e .pred f false none g c →
     Completes (p.1 e f) s fun t => ∃ h, t = s.setEngine e h ∧ g.Moved .pred f none c h ∧ h.reqs = g.reqs ∧ h.bankFree = g.bankFree ∧
       g.RegsBut [] [] [f.d.val] [] h ∧ g.BusyUntil [keyP f.d.val] (c + 1) h ∧
       h.preg f.d.val = p.2 (g.preg f.a.val) (g.preg f.b.val)) ∧
   (∀ (e : EngineId) (f : Form) (s : State) (g : Engine) (c : Nat), Issues s e .pset f false none g c →
     Completes (.pset e f) s fun t => ∃ h, t = s.setEngine e h ∧ g.Moved .pset f none c h ∧ h.reqs = g.reqs ∧ h.bankFree = g.bankFree ∧
       g.RegsBut [] [] [f.d.val] [] h ∧ g.BusyUntil [keyP f.d.val] (c + 1) h ∧
       h.preg f.d.val = (g.sreg f.a.val).setWidth 8) ∧
   (∀ (e : EngineId) (f : Form) (s : State) (g : Engine) (c : Nat), Issues s e .pget f false none g c →
     Completes (.pget e f) s fun t => ∃ h, t = s.setEngine e h ∧ g.Moved .pget f none c h ∧ h.reqs = g.reqs ∧ h.bankFree = g.bankFree ∧
       g.RegsBut [] [f.d.val] [] [] h ∧ g.BusyUntil [keyS f.d.val] (c + 1) h ∧
       h.sreg f.d.val = (g.preg f.a.val).setWidth 32) ∧
   ∀ g : Engine, g.preg 0 = 0xFF)

/-- A scalar instruction that issues writes s[d] from s[a] and s[b] or the immediate, and nothing else (R103, R110). SMOV,
VEXT and LDC write s[d]: the operand, one lane of v[a], the word s[a] + imm of the output's constant table; LDC with an
index of 128 or more traps CONST_RANGE (R110, R111, R121). It rests on the model's choices of assumption log 12. -/
def Obligations.ScalarOperations : Prop :=
  (∀ p ∈ scalarTwo, ∀ (e : EngineId) (f : Form) (s : State) (g : Engine) (c : Nat), Issues s e .sab f false none g c →
     Completes (p.1 e f) s fun t => ∃ h, t = s.setEngine e h ∧ g.Moved .sab f none c h ∧ h.reqs = g.reqs ∧ h.bankFree = g.bankFree ∧
       g.RegsBut [] [f.d.val] [] [] h ∧ g.BusyUntil [keyS f.d.val] (c + p.2.1) h ∧
       h.sreg f.d.val = p.2.2 (g.sreg f.a.val) (g.sopB f)) ∧
  (∀ (e : EngineId) (f : Form) (s : State) (g : Engine) (c : Nat),
     (Issues s e .sb f false none g c →
       Completes (.smov e f) s fun t => ∃ h, t = s.setEngine e h ∧ g.Moved .sb f none c h ∧ h.reqs = g.reqs ∧ h.bankFree = g.bankFree ∧
         g.RegsBut [] [f.d.val] [] [] h ∧ g.BusyUntil [keyS f.d.val] (c + 1) h ∧ h.sreg f.d.val = g.sopB f) ∧
     (Issues s e .vext f false none g c →
       Completes (.vext e f) s fun t => ∃ h, t = s.setEngine e h ∧ g.Moved .vext f none c h ∧ h.reqs = g.reqs ∧ h.bankFree = g.bankFree ∧
         g.RegsBut [] [f.d.val] [] [] h ∧ g.BusyUntil [keyS f.d.val] (c + 2) h ∧
         h.sreg f.d.val = g.vreg f.a.val f.b.val) ∧
     (Issues s e .ldc f false none g c →
       (g.sreg f.a.val + formOffset f).toNat < 128 →
       Completes (.ldc e f) s fun t => ∃ h, t = s.setEngine e h ∧ g.Moved .ldc f none c h ∧ h.reqs = g.reqs ∧ h.bankFree = g.bankFree ∧
         g.RegsBut [] [f.d.val] [] [] h ∧ g.BusyUntil [keyS f.d.val] (c + 2) h ∧
         h.sreg f.d.val = Sparse.getD (s.out g.out).render.consts (g.sreg f.a.val + formOffset f).toNat 0) ∧
     (Issues s e .ldc f false none g c → Sparse.wf s.engines = true →
       128 ≤ (g.sreg f.a.val + formOffset f).toNat →
       Completes (.ldc e f) s fun t => Trapped e g 3 0 g.pc s t))

/-- NOP only advances; BRA jumps when its condition holds, LOOP decrements s[a] and jumps unless it became 0, each to its
own address plus imm; an issued jump takes 3 clocks (R107, R110, R112). TRAP ends the span with a SOFT trap of the code
imm[15:0] (R110, R124). END with results outstanding waits for them; with none it ends the span in the clock in which the
last result is readable: where the count has stayed within the budget, the span becomes valid if every subpixel is written,
and an incomplete one traps INCOMPLETE (R123, R125). It rests on the model's choices of assumption log 12. -/
def Obligations.ControlFlow : Prop :=
  (∀ (e : EngineId) (f : Form) (s : State) (g : Engine) (c : Nat),
     (Issues s e .plain f false none g c →
       Completes (.nop e f) s fun t => ∃ h, t = s.setEngine e h ∧ g.Moved .plain f none c h ∧ h.reqs = g.reqs ∧ h.bankFree = g.bankFree ∧
         g.RegsBut [] [] [] [] h ∧ h.busy = g.busy) ∧
     (Issues s e .bra f false none g c →
       Completes (.bra e f) s fun t => t = s.setEngine e
         (if (f.d.val = 0 ∨ f.d.val = 1 ∧ g.sreg f.a.val ≠ 0 ∨ f.d.val = 2 ∧ g.sreg f.a.val = 0 ∨
             f.d.val = 3 ∧ g.preg f.a.val ≠ 0 ∨ f.d.val = 4 ∧ g.preg f.a.val = 0xFF ∨ f.d.val = 5 ∧ g.preg f.a.val = 0) then
           { g.issuing .bra f none c with pc := branchTarget g f, clk := c + 3 }
         else { g.issuing .bra f none c with pc := g.after f, clk := c + 1 })) ∧
     (Issues s e .loop f false none g c →
       Completes (.loop e f) s fun t => ∃ h, t = s.setEngine e h ∧ h.sreg f.a.val = g.sreg f.a.val - 1 ∧
         g.RegsBut [] [f.a.val] [] [] h ∧
         (if g.sreg f.a.val = 1 then h.pc = g.after f ∧ h.clk = c + 1 else h.pc = branchTarget g f ∧ h.clk = c + 3))) ∧
  (∀ (e : EngineId) (f : Form) (s : State) (g : Engine) (c : Nat), Issues s e .trap f false none g c →
     Sparse.wf s.engines = true →
     Completes (.trap e f) s fun t => Trapped e g 9 ((f.imm.getD 0).toNat % 2 ^ 16) g.pc s t) ∧
  (∀ (e : EngineId) (f : Form) (s : State) (g : Engine) (c : Nat), Issues s e .plain f false none g c →
     Sparse.wf s.engines = true →
     (g.reqs ≠ [] → Completes (.endSpan e f) s fun t =>
       t = s.setEngine e { g.issuing .plain f none c with pc := g.after f, clk := c + 1, ending := true }) ∧
     (g.reqs = [] → ({ g.issuing .plain f none c with clk := c + 1 } : Engine).settle.counted ≤ s.budget g.slot g.w →
       (g.complete = true → Completes (.endSpan e f) s fun t =>
         t.engine? e = none ∧ (t.out g.out).render.valid = (g.y0, g.xs0 / 60) :: (s.out g.out).render.valid ∧
         Keeps [.engines, .power, .outs] [ENG_SPAN_PEAK g.out.val] s t) ∧
       (g.complete = false → Completes (.endSpan e f) s fun t => Trapped e g 6 0 (g.after f) s t)))

/-- LDS reads and STS writes the word at s[a] + imm; an address that is not aligned or not in local memory traps LM_RANGE,
and a read of a word with a double-bit error traps ECC until it is written again (R108, R110, R111, R124). LDV and STV move
one word of local memory for each active lane, at that lane's a + imm; a bank that several words fall into is held for as
many clocks. A word that no active lane names keeps its value; one that a single lane names takes that lane's v[d]; a lane
that reads a word with a double-bit error traps ECC (R108, R110, R111, R124). It rests on the model's choices of assumption
log 12, 32, 40 and 43. -/
def Obligations.LocalMemory : Prop :=
  (∀ (e : EngineId) (f : Form) (s : State) (g : Engine) (c : Nat), Issues s e .lscal f true none g c →
     let a := (g.sreg f.a.val + f.imm.getD 0).toNat
     (a % 4 = 0 → a < 65536 → a / 4 ∈ g.lost → Sparse.wf s.engines = true →
       Completes (.lds e f) s (Trapped e g 0xA 0 g.pc s)) ∧
     (a % 4 = 0 → a < 65536 → a / 4 ∉ g.lost → Completes (.lds e f) s fun t =>
       ∃ h, t = s.setEngine e h ∧ g.Moved .lscal f none c h ∧ h.reqs = g.reqs ∧
       g.RegsBut [] [f.d.val] [] [] h ∧ g.BusyUntil [keyS f.d.val] (c + 3) h ∧ h.bankFree = c + 1 ∧
       h.sreg f.d.val = g.lmWord (a / 4)) ∧
     (a % 4 = 0 → a < 65536 → Completes (.sts e f) s fun t => ∃ h, t = s.setEngine e h ∧ g.Moved .lscal f none c h ∧ h.reqs = g.reqs ∧
       g.RegsBut [] [] [] [a / 4] h ∧ h.busy = g.busy ∧ h.bankFree = c + 1 ∧ h.lmWord (a / 4) = g.sreg f.d.val ∧
       a / 4 ∉ h.lost) ∧
     (a % 4 ≠ 0 ∨ 65536 ≤ a → Sparse.wf s.engines = true →
       Completes (.lds e f) s (Trapped e g 2 0 g.pc s) ∧ Completes (.sts e f) s (Trapped e g 2 0 g.pc s))) ∧
  (∀ (e : EngineId) (f : Form) (s : State) (g : Engine) (c : Nat), Issues s e .lvec f true none g c →
     let a (i : Nat) : Nat := (g.opA f i + f.imm.getD 0).toNat
     ((∀ i, i < 8 → g.lane f i = true → a i % 4 = 0 ∧ a i < 65536) →
       ((∃ i, i < 8 ∧ g.lane f i = true ∧ a i / 4 ∈ g.lost) → Sparse.wf s.engines = true →
         Completes (.ldv e f) s (Trapped e g 0xA 0 g.pc s)) ∧
       ((∀ i, i < 8 → g.lane f i = true → a i / 4 ∉ g.lost) → Completes (.ldv e f) s fun t => ∃ h, t = s.setEngine e h ∧ g.Moved .lvec f none c h ∧ h.reqs = g.reqs ∧
         g.RegsBut [f.d.val] [] [] [] h ∧ g.BusyUntil [keyV f.d.val] (c + 2 + lmClocks g f) h ∧
         h.bankFree = c + lmClocks g f ∧
         ∀ i, i < 8 → h.vreg f.d.val i = if g.lane f i then g.lmWord (a i / 4) else g.vreg f.d.val i) ∧
       (Completes (.stv e f) s fun t => ∃ h, t = s.setEngine e h ∧ g.Moved .lvec f none c h ∧ h.reqs = g.reqs ∧
         (∀ r i, h.vreg r i = g.vreg r i) ∧ (∀ r, h.sreg r = g.sreg r) ∧ (∀ r, h.preg r = g.preg r) ∧
         h.bankFree = c + lmClocks g f ∧
         (∀ k, (∀ i, i < 8 → g.lane f i = true → a i / 4 ≠ k) →
           h.lmWord k = g.lmWord k ∧ h.lost.contains k = g.lost.contains k) ∧
         (∀ i, i < 8 → g.lane f i = true → a i / 4 ∉ h.lost) ∧
         (∀ i, i < 8 → g.lane f i = true → (∀ j, j < 8 → g.lane f j = true → a j / 4 = a i / 4 → j = i) →
           h.lmWord (a i / 4) = g.vreg f.d.val i))) ∧
     ((∃ i, i < 8 ∧ g.lane f i = true ∧ (a i % 4 ≠ 0 ∨ 65536 ≤ a i)) → Sparse.wf s.engines = true →
       Completes (.ldv e f) s (Trapped e g 2 0 g.pc s) ∧ Completes (.stv e f) s (Trapped e g 2 0 g.pc s)))

/-- An SFU, query, sample, overlay or OUT instruction that issues reads its operands now and queues one request with its
active lanes; with no active lane it queues nothing; no register changes yet (R94, R105). It rests on the model's choices of
assumption log 12. -/
def Obligations.UnitRequests : Prop :=
  ∀ p ∈ unitInstrs, ∀ (e : EngineId) (f : Form) (s : State) (g : Engine) (c : Nat),
    Issues s e p.2.2.2.1 f false (some p.2.1) g c →
    Completes (p.1 e f) s fun t => t = s.setEngine e { g.issuing p.2.2.2.1 f (some p.2.1) c with
      pc := g.after f, clk := c + 1
      reqs := if g.active f = 0 then g.reqs else g.reqs ++
        [{ unit := p.2.1, op := p.2.2.1, d := f.d.val, b := f.b.val, active := g.active f
           ops := (List.range 8).map (p.2.2.2.2 g f), pc := g.pc, clk := c }] }

/-- An engine instruction that lies outside its program traps PC_RANGE, one whose fields break its opcode's rules traps
ILLEGAL, and neither has another effect (R102, R103, R110, R124). It rests on the model's choices of assumption log 12 and
39. -/
def Obligations.EngineChecks : Prop :=
  ∀ (i : Instr) (op : Nat) (sh : Shape) (f : Form) (e : EngineId) (s : State) (g : Engine),
    i.engineForm = some (op, sh, f) → ofOpcode op e f = some i → s.engine? e = some g → g.ending = false →
    Sparse.wf s.engines = true →
    (s.fetchOk g (if f.imm.isSome then 2 else 1) = false → Completes i s (Trapped e g 7 0 g.pc s)) ∧
    (s.fetchOk g (if f.imm.isSome then 2 else 1) = true → sh.ok f = false → Completes i s (Trapped e g 1 0 g.pc s))

/-! ### Registers and the service port -/

/-- A write of an aligned word that its path and domain allow sets the register's RW bits and clears its W1C bits written as
1, and touches no other register; the wall bus writes nothing (R3, R9, R478). EVT_ROUTE takes a routing byte's bits but for
bit 1, which the firmware sets (R477). A write of another width or alignment, or outside the register space, is discarded
with the error status; one to a domain that is not on is discarded, raises EV225 and gives DOMAIN_OFF; a locked port refuses
every word but SVC_UNLOCK's; none changes a register but the port's own (R3, R5, R6, R491, R492). It rests on the model's
choices of assumption log 22, 24 and 25. -/
def Obligations.RegisterWrites : Prop :=
  (∀ (s : State) (t : Nat) (p : Path) (a : Nat) (v : Word) (d : RegDesc) (i : Nat), let s0 := s.advanceTo t
     (s0.writesOn p → s0.grants a → plainRegister a = true → a ≠ SVC_STAT → regAt a = some (d, i) →
       Completes (.registerWrite t p a 32 v) s fun u =>
         WrittenBits d (s0.reg a) v (u.reg a) ∧ Keeps (pathParts p) (a :: (pathAddrs p)) s0 u) ∧
     Completes (.registerWrite t .wallBus a 32 v) s fun u => u = s0) ∧
  (∀ (s : State) (t : Nat) (p : Path) (v : Word) (i : Fin 64), let s0 := s.advanceTo t
     s0.writesOn p → s0.grants (EVT_ROUTE i.val) →
     Completes (.registerWrite t p (EVT_ROUTE i.val) 32 v) s fun u =>
       (∀ j : Fin 4, u.route (4 * i.val + j.val) % 2 = b2n (v.getLsbD (8 * j.val)) ∧
         (u.route (4 * i.val + j.val)).testBit 1 = (s0.boot.romDone && firmwareIrq (4 * i.val + j.val)) ∧
         ∀ b, 1 < b → b < 5 → (u.route (4 * i.val + j.val)).testBit b = v.getLsbD (8 * j.val + b)) ∧
       Keeps (pathParts p) (EVT_ROUTE i.val :: (pathAddrs p)) s0 u) ∧
  (∀ (s : State) (t : Nat) (p : Path) (a width : Nat) (v : Word), let s0 := s.advanceTo t
     (s0.writesOn p → width ≠ 32 ∨ a % 4 ≠ 0 ∨ inRegSpace a = false →
       Completes (.registerWrite t p a width v) s fun u => Keeps (pathParts p) (pathAddrs p) s0 u ∧ (p = .service → u.svc.wstat = 1)) ∧
     (s0.writesOn p → a % 4 = 0 → inRegSpace a = true → s0.pd (regDomain (blockOf a) (a % 0x10000)) ≠ 2 →
       Completes (.registerWrite t p a 32 v) s fun u =>
         LogsOpen s0 u 225 (regDomain (blockOf a) (a % 0x10000) * 2 ^ 26 + a % 2 ^ 24) ∧
           Keeps (.evt :: (pathParts p)) (EVT_LOST :: (pathAddrs p)) s0 u ∧ (p = .service → u.svc.wstat = 2)) ∧
     (s0.unlocked = false → a ≠ SVC_UNLOCK →
       Completes (.registerWrite t .service a width v) s fun u => u.svc.wstat = 4 ∧ Keeps [.svc] [SVC_STAT] s0 u))

/-- The writable pair DRC_THAW_ADDR takes effect when its high word is written, with the last low word of the same path, or
the low register's Reset value (R8). A read of a pair's low word latches the high word for its path, and TIM_NS_LO also the
fraction: a later read of the high word on that path gives the latched value, on another path what it gave before (R7). It
rests on the model's choices of assumption log 22. -/
def Obligations.WordPairs : Prop :=
  (∀ (s : State) (t : Nat) (p : Path) (v : Word), let s0 := s.advanceTo t
     s0.writesOn p → s0.grants DRC_THAW_ADDR_HI →
     (Completes (.registerWrite t p DRC_THAW_ADDR_LO 32 v) s fun u =>
       Sparse.getD u.lowWords (shadowKey p DRC_THAW_ADDR_LO) (resetOf DRC_THAW_ADDR_LO) = v ∧
         Keeps (.lowWords :: (pathParts p)) (pathAddrs p) s0 u) ∧
     Completes (.highWordWrite t p DRC_THAW_ADDR_HI v) s fun u =>
       u.reg DRC_THAW_ADDR_LO = Sparse.getD s0.lowWords (shadowKey p DRC_THAW_ADDR_LO) (resetOf DRC_THAW_ADDR_LO) ∧
         u.fld DRC_THAW_ADDR_HI_addr_hi = v.toNat % 2 ^ 5 ∧
         Keeps (pathParts p) (DRC_THAW_ADDR_LO :: DRC_THAW_ADDR_HI :: (pathAddrs p)) s0 u) ∧
  (∀ (s : State) (t : Nat) (p : Path) (a : Nat), let s0 := s.advanceTo t
     s0.grants a → isShadowed a = false →
     Completes (.lowWordRead t p a) s fun u =>
       (∀ h ∈ latchedBy a, (u.readReg p h).1 = s0.regValue h) ∧
       (∀ q h, q ≠ p → h < 2 ^ 32 → (u.readReg q h).1 = (s0.readReg q h).1) ∧ Keeps [.shadow] [] s0 u)

/-- The frames of the service port: ID answers CFG_CHIP_ID from 1 ms after reset release; READ answers a status byte and
four bytes for each word, DOMAIN_OFF (with EV225) or ERROR with 0; WSTAT reports the last word written; an unknown command
byte raises EV255 cause 3; each frame is counted (R491, R492). The lock of the service port: SVC_UNLOCK takes 0x5E1F and
raises EV255 cause 1, any other value raises cause 2; 1 s without a frame locks the port; an unlocked WRITE stores each
whole word and discards a partial one, a locked one stores nothing and sets the locked bit of WSTAT (R491, R492). It rests
on the model's choices of assumption log 28 and 29. -/
def Obligations.ServicePort : Prop :=
  (∀ (s : State) (t : Nat), let s0 := s.advanceTo t
     (s0.elapsed 0 (edgesMs 1) = true → Completes (.svcId t) s fun u =>
       u.svc.answer = toLe 4 (s0.reg CFG_CHIP_ID).toNat ∧ FrameNoted s0 u ∧ Keeps [.svc] [SVC_STAT] s0 u) ∧
     (s0.elapsed 0 (edgesMs 1) = false → Completes (.svcId t) s fun u =>
       u.svc.answer.length = 4 ∧ FrameNoted s0 u ∧ Keeps [.svc, .fresh] [SVC_STAT] s0 u) ∧
     (∀ a n, (∀ j, j < n → s0.grants (a + 4 * j) ∧ isShadowed (a + 4 * j) = false ∧ a + 4 * j ≠ SVC_STAT) →
       Completes (.svcRead t a n) s fun u =>
         u.svc.answer = ((List.range n).flatMap fun j => 0x00 :: toLe 4 (s0.regValue (a + 4 * j)).toNat) ∧
           FrameNoted s0 u ∧ Keeps [.svc, .shadow] [SVC_STAT] s0 u) ∧
     (∀ a, a % 4 = 0 → inRegSpace a = true → s0.pd (regDomain (blockOf a) (a % 0x10000)) ≠ 2 →
       Completes (.svcRead t a 1) s fun u => u.svc.answer = [1, 0, 0, 0, 0] ∧
         LogsOpen s0 u 225 (regDomain (blockOf a) (a % 0x10000) * 2 ^ 26 + a % 2 ^ 24)) ∧
     (∀ a, a % 4 ≠ 0 ∨ inRegSpace a = false →
       Completes (.svcRead t a 1) s fun u => u.svc.answer = [2, 0, 0, 0, 0] ∧ Keeps [.svc] [SVC_STAT] s0 u) ∧
     (Completes (.svcWstat t) s fun u =>
       u.svc.answer = [s0.svc.wstat] ∧ u.svc.wstat = s0.svc.wstat ∧ FrameNoted s0 u ∧ Keeps [.svc] [SVC_STAT] s0 u) ∧
     ∀ b, svcCommands.contains b = false →
       Completes (.unknownCommandByte t b) s fun u =>
         u.svc.answer = [] ∧ FrameNoted s0 u ∧ Logs s0 u 255 3 3 ∧ Keeps [.svc, .evt] [SVC_STAT, EVT_LOST] s0 u) ∧
  (∀ (s : State) (t : Nat), let s0 := s.advanceTo t
     (∀ v : Word, s0.grants SVC_UNLOCK → v.toNat % 2 ^ 16 = 0x5E1F → Completes (.svcUnlock t v) s fun u =>
       u.fld SVC_STAT_unlocked = 1 ∧ Logs s0 u 255 1 1 ∧ u.svc.wstat = 0 ∧
         Keeps [.svc, .evt] [SVC_STAT, EVT_LOST] s0 u) ∧
     (∀ v : Word, s0.grants SVC_UNLOCK → v.toNat % 2 ^ 16 ≠ 0x5E1F → Completes (.svcUnlock t v) s fun u =>
       FrameNoted s0 u ∧ Logs s0 u 255 2 2 ∧ u.svc.wstat = 0 ∧ Keeps [.svc, .evt] [SVC_STAT, EVT_LOST] s0 u) ∧
     (s0.elapsed s0.svc.lastFrame (edgesS 1) = true → Completes (.servicePortRelock t) s fun u =>
       u.fld SVC_STAT_unlocked = 0 ∧ u.fld SVC_STAT_frames = s0.fld SVC_STAT_frames ∧ Keeps [] [SVC_STAT] s0 u) ∧
     ∀ (a : Nat) (data : Bytes),
       (data.length < 4 → Completes (.svcWrite t a data) s fun u => FrameNoted s0 u ∧ Keeps [.svc] [SVC_STAT] s0 u) ∧
       (s0.unlocked = false → (∀ j, j < data.length / 4 → a + 4 * j ≠ SVC_UNLOCK) → 4 ≤ data.length →
         Completes (.svcWrite t a data) s fun u => u.svc.wstat = 4 ∧ FrameNoted s0 u ∧ Keeps [.svc] [SVC_STAT] s0 u) ∧
       (∀ d i, s0.unlocked = true → s0.grants a → plainRegister a = true → a ≠ SVC_STAT →
         regAt a = some (d, i) → data.length / 4 = 1 → Completes (.svcWrite t a data) s fun u =>
           WrittenBits d (s0.reg a) (BitVec.ofNat 32 (leAt data 0 4)) (u.reg a) ∧ u.svc.wstat = 0 ∧ FrameNoted s0 u ∧
             Keeps [.svc] [SVC_STAT, a] s0 u))

/-! ### Events and snapshots -/

/-- A source raised again before its pending raise is written: the later raise is dropped, the pending one gets the
coalesced flag and keeps its cause, argument and stamp, and EVT_LOST increments (R475). -/
def Obligations.RaisesCoalesce : Prop :=
  ∀ (s : State) (n : Nat) (cause : Byte) (arg : Word) (inj : Bool) (r : Raise), raisesRising s.evt.pend = true →
    r ∈ s.evt.pend → r.src = n →
    (s.raiseWith n cause arg inj).evt.pend = s.evt.pend.map (fun x => if x.src = n then { x with coalesced := true } else x) ∧
      (s.raiseWith n cause arg inj).fld EVT_LOST_count = min (s.fld EVT_LOST_count + 1) (2 ^ 32 - 1) ∧
      Keeps [.evt] [EVT_LOST] s (s.raiseWith n cause arg inj)

/-- A write to EVT_INJECT raises the named event with the named cause, argument 0 and the injected flag, for any of the 256
sources (R494). -/
def Obligations.EventInjection : Prop :=
  ∀ (s : State) (t : Nat) (p : Path) (v : Word), let s0 := s.advanceTo t
    s0.writesOn p → s0.grants EVT_INJECT →
    Completes (.evtInject t p v) s fun u =>
      ((∀ r ∈ s0.evt.pend, r.src ≠ bits v.toNat 15 8) → ∃ r ∈ u.evt.pend, r.src = bits v.toNat 15 8 ∧
        r.cause = v.setWidth 8 ∧ r.arg = 0 ∧ r.injected = true ∧ r.coalesced = false ∧ r.stamp = s0.timeNs) ∧
      Keeps (.evt :: (pathParts p)) (EVT_LOST :: (pathAddrs p)) s0 u

/-- Every 4 ns the router writes the pending raise with the lowest stamp, equal stamps in increasing source: it leaves the
pending ones and its routing byte acts: an entry of the Guestbook under the next number, with stamp, code, domain, severity,
flags and argument; a Concierge interrupt; a FAULT_N latch; a STATUS push; a snapshot request, merged or queued (R476, R477,
R478, R481, R482). A write to EVT_FAULT clears the bits written as 1 and no others; FAULT_N goes high when none remain after
the ROM boot (R478). It rests on the model's choices of assumption log 185 and 224. -/
def Obligations.RouterWrites : Prop :=
  (∀ (s : State) (t : Nat) (r : Raise), let s0 := s.advanceTo t
     (s0.evt.wroteAt.any (fun e => !s0.elapsed e (edgesNs 4)) = true → Completes (.eventWrite t) s fun u => u = s0) ∧
     (raisesRising s0.evt.pend = true → r ∈ s0.evt.pend → r.src < 256 →
     s0.evt.wroteAt.any (fun e => !s0.elapsed e (edgesNs 4)) = false →
     (∀ q ∈ s0.evt.pend, r.stamp < q.stamp ∨ r.stamp = q.stamp ∧ r.src ≤ q.src) →
     Completes (.eventWrite t) s fun u => ∃ g : GbEntry,
       u.evt.pend = s0.evt.pend.filter (fun q => q.src ≠ r.src) ∧ u.evt.wroteAt = some s0.now ∧
       (bits g.w2.toNat 15 8 = r.src ∧ bits g.w2.toNat 7 0 = r.cause.toNat ∧ bits g.w2.toNat 23 16 = eventDomain r.src ∧
         bits g.w2.toNat 27 24 = eventSeverity r.src ∧ g.w2.getLsbD 28 = r.coalesced ∧ g.w2.getLsbD 29 = r.injected ∧
         g.w2.getLsbD 30 = r.frozen ∧ g.w2.getLsbD 31 = r.harbour ∧ g.w3 = r.arg ∧
         g.w0 = BitVec.ofNat 32 r.stamp ∧ g.w1 = BitVec.ofNat 32 (r.stamp / 2 ^ 32)) ∧
       (if bit (s0.route r.src) 0 then
           u.reg GBK_HEAD = s0.reg GBK_HEAD + 1 ∧ u.evt.book = Sparse.set s0.evt.book ((s0.reg GBK_HEAD).toNat % 8192) g
         else u.reg GBK_HEAD = s0.reg GBK_HEAD ∧ u.evt.book = s0.evt.book) ∧
       (∀ n, Sparse.getD u.evt.irq n 0 = Sparse.getD s0.evt.irq n 0 + b2n (bit (s0.route r.src) 1 && n == r.src)) ∧
       (bit (s0.route r.src) 2 = true → (u.reg (EVT_FAULT (r.src / 32))).getLsbD (r.src % 32) = true ∧ u.faultN = false) ∧
       (bit (s0.route r.src) 2 = false → u.reg (EVT_FAULT (r.src / 32)) = s0.reg (EVT_FAULT (r.src / 32))) ∧
       u.evt.push = (if bit (s0.route r.src) 3 then some (raiseCode r) else s0.evt.push) ∧
       (bit (s0.route r.src) 4 = false → u.sbx = s0.sbx) ∧
       (bit (s0.route r.src) 4 = true → s0.sbx.queued = none →
         s0.sbx.lastLimited.any (fun e => !s0.elapsed e (edgesS 1)) = false →
         u.sbx.queued = some
           ⟨1, raiseCode r, if bit (s0.route r.src) 0 then some (s0.reg GBK_HEAD).toNat else none⟩) ∧
       Keeps [.evt, .sbx] [GBK_HEAD, EVT_FAULT (r.src / 32), SBX_STAT] s0 u)) ∧
  (∀ (s : State) (t : Nat) (p : Path) (i : Fin 8) (v : Word), let s0 := s.advanceTo t
     s0.writesOn p → s0.grants (EVT_FAULT i.val) →
     Completes (.evtFaultClear t p i v) s fun u =>
       u.reg (EVT_FAULT i.val) = s0.reg (EVT_FAULT i.val) &&& ~~~v ∧ Keeps (pathParts p) (EVT_FAULT i.val :: (pathAddrs p)) s0 u ∧
       (u.faultN = true ↔ u.boot.romDone = true ∧ ∀ j, j < 8 → u.reg (EVT_FAULT j) = 0))

/-- SBX_CTRL snap requests a snapshot of kind 8: queued, or merged into one that waits or refused within 1 s of the last
rate-limited start, either of which counts in SBX_STAT; clear_keep with its key unmarks every slot (R484, R485, R486). The
queued snapshot starts when none is being written: its slot, an empty unkept one or else the unkept one with the lowest
serial, becomes invalid, and its content is taken now under the next serial; it ends valid with EV253, or invalid with EV254
when the read-back verify fails, and the next one passes over that slot; at most 8 slots are kept (R485, R486, R487, R489).
It rests on the model's choices of assumption log 184. -/
def Obligations.Snapshots : Prop :=
  (∀ (s : State) (t : Nat) (p : Path) (v : Word), let s0 := s.advanceTo t
     s0.writesOn p → s0.grants SBX_CTRL →
     (v = 1 → s0.sbx.queued = none → s0.sbx.lastLimited.any (fun e => !s0.elapsed e (edgesS 1)) = false →
       Completes (.snap t p v) s fun u => u.sbx = { s0.sbx with queued := some { kind := 8 } } ∧
         Keeps (.sbx :: (pathParts p)) (pathAddrs p) s0 u) ∧
     (v = 1 → s0.sbx.queued ≠ none ∨ s0.sbx.lastLimited.any (fun e => !s0.elapsed e (edgesS 1)) = true →
       Completes (.snap t p v) s fun u => u.sbx = { s0.sbx with merged := s0.sbx.merged + 1 } ∧
         u.fld SBX_STAT_merged = min (s0.fld SBX_STAT_merged + 1) (2 ^ 16 - 1) ∧
         Keeps (.sbx :: (pathParts p)) (SBX_STAT :: (pathAddrs p)) s0 u) ∧
     (v = 0x5B0C0002 → Completes (.clearKeep t p v) s fun u =>
       (∀ i, u.sbx.slot i = { s0.sbx.slot i with kept := false }) ∧ Keeps (.sbx :: (pathParts p)) (pathAddrs p) s0 u)) ∧
  (∀ (s : State) (t : Nat), let s0 := s.advanceTo t
     (∀ q, s0.sbx.writing = none → s0.sbx.queued = some q → Completes (.snapshotWrite t) s fun u =>
       ∃ i x, u.sbx.writing = some (i, x) ∧ u.sbx.queued = none ∧ u.sbx.merged = 0 ∧ u.sbx.serial = s0.sbx.serial + 1 ∧
         x.serial = s0.sbx.serial + 1 ∧ x.kind = q.kind ∧ x.kept = keptKind q.kind ∧ (u.sbx.slot i).valid = false ∧
         (∀ j, j ≠ i → u.sbx.slot j = s0.sbx.slot j) ∧
         ((s0.sbx.slot i).kept = false ∨ ∀ j, (s0.sbx.slot j).kept = true ∨ s0.sbx.failed = some j.val) ∧
         ((s0.sbx.slot i).kept = false → (s0.sbx.slot i).valid = true → ∀ j, (s0.sbx.slot j).kept = false →
           s0.sbx.failed ≠ some j.val → (s0.sbx.slot j).valid = true ∧ (s0.sbx.slot i).serial ≤ (s0.sbx.slot j).serial) ∧
         x.entries.length = 1024 ∧ x.summary.length = 86 ∧ Keeps [.sbx] [] s0 u) ∧
     (∀ i x, s0.boot.waiting = none → s0.sbx.writing = some (i, x) → Completes (.snapshotComplete t true) s fun u =>
       u.sbx.writing = none ∧ u.sbx.slot i = { x with crc := crc32 (wordBytes x.body) } ∧
         (s0.sbx.keptCount ≤ 8 → x.valid = true → (s0.sbx.slot i).valid = false → u.sbx.keptCount ≤ 8) ∧
         LogsOpen s0 u 253 (i.val + x.kind * 2 ^ 8 + b2n x.kept * 2 ^ 16) ∧ Keeps [.sbx, .evt] [EVT_LOST] s0 u) ∧
     ∀ i x, s0.boot.waiting = none → s0.sbx.writing = some (i, x) → Completes (.snapshotComplete t false) s fun u =>
       u.sbx.writing = none ∧ (u.sbx.slot i).valid = false ∧ (∀ j, j ≠ i → u.sbx.slot j = s0.sbx.slot j) ∧
         u.sbx.failed = some i.val ∧ LogsOpen s0 u 254 i.val ∧ Keeps [.sbx, .evt] [EVT_LOST] s0 u)

/-! ### The DRAM controller -/

/-- Channel and channel-local address determine the physical address, and every channel-local address has one: 64-byte units
interleave over the 2^k populated channels (R218). The green byte that R219 traces: 0x0EBB_F4D6 lies on channel 6 of 8, at
30,899,862 of it, rank 0, bank group 2, bank 1, row 235, burst column 1,008. -/
def Obligations.AddressMapping : Prop :=
  (∀ k : Nat, k ≤ 3 →
     (∀ a : Nat, channelOf k a < 2 ^ k ∧ unitOf k (channelOf k a) (localAddr k a / 64) = a / 64 ∧
       localAddr k a % 64 = a % 64) ∧
     ∀ c u : Nat, c < 2 ^ k → channelOf k (64 * unitOf k c u) = c ∧ localAddr k (64 * unitOf k c u) = 64 * u) ∧
  (channelOf 3 0x0EBBF4D6 = 6 ∧ localAddr 3 0x0EBBF4D6 = 30899862 ∧ dramFields false 30899862 = ⟨0, 2, 1, 235, 1008, 2, 6⟩)

/-- A read of a unit on a channel where nothing waits: without an error nothing changes but the traffic and, while class A
demand lasts, the tokens of the requester's class; corrected words are counted and written back; the write of a
read-modify-write stores its bytes and no others; a double-bit error freezes, the read the newest command of the record.
Behind a class A read it waits; during a freeze nothing is read. A room table entry with a single-bit error is counted and
used, one with a double-bit error raises EV246 and freezes, unless the requester's TLB holds it (R192, R201, R204, R220,
R221, R223, R225, R226, R244, R245, R246). A scrub read goes to the next unit of its channel once its time in the period has
come, with EV063 at the end of a pass and the freeze on a double-bit error; the 1 s interval restarts the counts (R222,
R223, R244). It rests on the model's choices of assumption log 3, 71, 72, 74, 193, 214, 215 and 216. -/
def Obligations.DramReads : Prop :=
  (∀ (s : State) (t req unit : Nat), let s0 := s.advanceTo t
     let c := s0.unitChannel unit
     let cls := s0.reqClass req (s0.inStock unit)
     let f := s0.fieldsOf (64 * unit)
     (s0.frozen = true → ∀ errs m, Completes (.dramRead t req unit errs m none) s fun u => u = s0) ∧
     (s0.unitFitted unit = true → s0.chState c = 2 → s0.mayPay cls → s0.frozen = false → s0.classAReads c ≠ [] →
       (s0.dch c).gran = none → Completes (.dramRead t req unit [] none none) s fun u =>
         (u.dch c).reads = (s0.dch c).reads ++ [⟨req, max 1 cls, unit, none⟩] ∧ u.dram.mem = s0.dram.mem ∧
         Keeps [.dram, .porter, .fresh] [] s0 u) ∧
     (s0.unitFitted unit = true → s0.Quiet c → s0.mayPay cls → s0.frozen = false →
     (Completes (.dramRead t req unit [] none none) s fun u => u.dram.mem = s0.dram.mem ∧ (u.dch c).lastReq = s0.now ∧
       (u.dch c).reads = [] ∧
       (s0.mustPay cls = true → Sparse.getD s0.porter.paid req 0 = 0 → u.tokens cls + 1 = s0.tokens cls) ∧
       (s0.mustPay cls = false → u.porter = s0.porter) ∧ Keeps [.dram, .porter, .fresh] [] s0 u) ∧
     (∀ errs : List WordErr, errs ≠ [] → hasDouble errs = false → Completes (.dramRead t req unit errs none none) s fun u =>
       u.dram.mem = s0.dram.mem ∧
       u.fld (DRC_CH_ECC_sec c.val) = min (s0.fld (DRC_CH_ECC_sec c.val) + errs.length) (2 ^ 32 - 1) ∧
       (u.dch c).secCount = (s0.dch c).secCount + errs.length ∧ u.dram.bad = [] ∧
       (s0.fld DRC_ECC_CFG_sec_thresh ≠ 0 → (s0.dch c).secRaised = false →
         s0.fld DRC_ECC_CFG_sec_thresh ≤ (u.dch c).secCount → LogsOpen s0 u (48 + c.val) unit ∧ (u.dch c).secRaised = true) ∧
       Keeps [.dram, .porter, .fresh, .evt] [DRC_CH_ECC c.val, EVT_LOST] s0 u) ∧
     (∀ m : MergeWrite, m.offset + m.data.length ≤ 64 → Completes (.dramRead t req unit [] (some m) none) s fun u =>
       (∀ i, i < m.data.length → u.memByte (64 * unit + m.offset + i) = m.data.getD i 0) ∧
       MemoryKept (64 * unit + m.offset) m.data.length s0 u ∧ Keeps [.dram, .porter, .fresh] [] s0 u) ∧
     (∀ errs : List WordErr, ∀ e, errs.find? (fun x => x.double) = some e → ∀ m,
       Completes (.dramRead t req unit errs m none) s fun u =>
         Frozen s0 1 c.val e.word.val (req % 64) e.syndrome.toNat (64 * unit) u ∧
         (∃ x, (u.dram.hist[c]).getLast? = some x ∧ x.lo = BitVec.ofNat 32
           (2 * 2 ^ 28 + f.rank * 2 ^ 27 + f.group * 2 ^ 25 + f.bank * 2 ^ 23 + f.column * 2 ^ 6 + req % 64)) ∧
         Keeps [.dram, .porter, .fresh, .evt, .sbx] (DRC_CH_ECC c.val :: freezeAddrs) s0 u) ∧
     ∀ i : Fin 131072, s0.tlbHit (req % 64) i.val = false →
       (Completes (.dramRead t req unit [] none (some ⟨i, false⟩)) s fun u =>
         u.fld INK_TBL_SEC_count = min (s0.fld INK_TBL_SEC_count + 1) (2 ^ 32 - 1) ∧ u.dram.mem = s0.dram.mem ∧
         u.tlbHit (req % 64) i.val = true ∧ Keeps [.dram, .porter, .fresh, .rooms] [INK_TBL_SEC] s0 u) ∧
       ∀ errs m, Completes (.dramRead t req unit errs m (some ⟨i, true⟩)) s fun u =>
         (let v := (Config.free s0.fresh).toNat
          Frozen s0 4 (v % 8) (v / 8 % 8) (req % 64) (v / 64 % 256) (v / 2 ^ 14 % 2 ^ 37) u) ∧
         LogsOpen s0 u 246 i.val ∧ LogsOpen s0 u 244 (i.val / 8192) ∧
         Keeps [.dram, .fresh, .evt, .sbx, .rooms] (INK_FAULT_INFO :: INK_FAULT_OFS_LO :: INK_FAULT_OFS_HI :: freezeAddrs) s0 u)) ∧
  (∀ (s : State) (t : Nat), let s0 := s.advanceTo t
     (∀ c : Channel, (s0.dch c).scrubAt * (3600 * edgesS 1 * max 1 (s0.fld DRC_ECC_CFG_scrub_h)) >
         (s0.now - (s0.dch c).passAt) * s0.chanUnits → ∀ errs, Completes (.scrub t c errs) s fun u => u = s0) ∧
     (∀ c : Channel, s0.frozen = false → s0.Quiet c → s0.scrubDue c = true →
       (Completes (.scrub t c []) s fun u =>
         (u.dch c).passAt = (if s0.chanUnits ≤ (s0.dch c).scrubAt + 1 then s0.now else (s0.dch c).passAt) ∧
         (u.dch c).scrubAt = (if s0.chanUnits ≤ (s0.dch c).scrubAt + 1 then 0 else (s0.dch c).scrubAt + 1) ∧
         (s0.chanUnits ≤ (s0.dch c).scrubAt + 1 → LogsOpen s0 u 63 (c.val * 2 ^ 29)) ∧ u.dram.mem = s0.dram.mem ∧
         Keeps [.dram, .fresh, .evt] [EVT_LOST] s0 u) ∧
       ∀ errs e, errs.find? (fun x => x.double) = some e → Completes (.scrub t c errs) s fun u =>
         Frozen s0 1 c.val e.word.val 0x3F e.syndrome.toNat (64 * unitOf s0.chanLog c.val (s0.dch c).scrubAt) u ∧
         Keeps [.dram, .fresh, .evt, .sbx] (DRC_CH_ECC c.val :: freezeAddrs) s0 u) ∧
     (s0.elapsed s0.dram.intervalAt (edgesS 1) = true → Completes (.secInterval t) s fun u =>
       u.dram.intervalAt = s0.dram.intervalAt + edgesS 1 ∧ u.dram.mem = s0.dram.mem ∧
       (∀ c, u.dch c = { s0.dch c with secCount := 0, secRaised := false }) ∧ Keeps [.dram] [] s0 u))

/-- A rank's REFs that have fallen due, one every tREFI, none postponed; with the first one a granularity that waits takes
effect, with EV061; and the temperature read every 32 ms right after a REF: 2x mode waits after 2 hot reads in a row, 1x
after 8 cool ones (R228, R229). An idle channel with no class A demand in sight enters self-refresh; a request brings it out
and counts as a bounce; at the end of an interval more than 8 bounces double SR_IDLE up to its maximum with EV058, and 16
quiet intervals halve it down to the configured value (R232, R233, R234). It rests on the model's choices of assumption log
73, 74 and 76. -/
def Obligations.Refreshes : Prop :=
  (∀ (s : State) (t : Nat) (c : Channel), let s0 := s.advanceTo t
     s0.frozen = false → s0.chState c = 2 →
     (∀ rank : Bool, (rank = true → s0.fld DRC_CFG_ranks2 = 1) →
       let k : Fin 2 := if rank then 1 else 0
       let last := (s0.dch c).lastRef[k]
       let every := if s0.fld (DRC_CH_STAT_fgr2x c.val) = 1 then 1950 else 3900
       s0.elapsed last every = true → Completes (.refresh t c rank) s fun u =>
         (∃ e, (u.dch c).issued.getLast? = some e ∧ e.lo.toNat / 2 ^ 27 = 12 + k.val) ∧ (u.dch c).gran = none ∧
         (u.dch c).lastRef[1 - k] = (s0.dch c).lastRef[1 - k] ∧ (∀ k, k ≠ c → u.dch k = s0.dch k) ∧ u.dram.mem = s0.dram.mem ∧
         ((s0.dch c).gran = none →
           (u.dch c).lastRef[k] = last + (s0.now - last) / every * every ∧ Keeps [.dram, .fresh] [] s0 u) ∧
         (∀ g, (s0.dch c).gran = some g → u.fld (DRC_CH_STAT_fgr2x c.val) = b2n g ∧ LogsOpen s0 u 61 (c.val * 2 ^ 29 + b2n g) ∧
           Keeps [.dram, .fresh, .evt] [DRC_CH_STAT c.val, EVT_LOST] s0 u)) ∧
     ∀ readings : List (Fin 3), let s1 := s0.refsDue c
       readings.length = s0.ranks.length → s0.elapsed (s0.dch c).lastTemp (edgesMs 32) = true → s1.justRefreshed c = true →
       Completes (.dramTemperatureRead t c readings) s fun u =>
         (2 ∈ readings → (u.dch c).hot = (s0.dch c).hot + 1 ∧ (u.dch c).cool = 0) ∧
         (2 ∉ readings → (u.dch c).hot = 0 ∧ (u.dch c).cool = (s0.dch c).cool + 1) ∧
         u.fld (DRC_CH_STAT_temp c.val) = readings.foldl (fun m r => max m r.val) 0 ∧
         (2 ≤ (u.dch c).hot → s1.fld (DRC_CH_STAT_fgr2x c.val) = 0 → (u.dch c).gran = some true) ∧
         (8 ≤ (u.dch c).cool → s1.fld (DRC_CH_STAT_fgr2x c.val) = 1 → (u.dch c).gran = some false) ∧
         ((u.dch c).hot < 2 → (u.dch c).cool < 8 → (u.dch c).gran = (s1.dch c).gran) ∧
         u.fld (DRC_CH_STAT_fgr2x c.val) = s1.fld (DRC_CH_STAT_fgr2x c.val) ∧
         u.dram.mem = s0.dram.mem ∧ Keeps [.dram, .fresh] [DRC_CH_STAT c.val] s1 u) ∧
  (∀ (s : State) (t : Nat), let s0 := s.advanceTo t
     s0.frozen = false →
     (∀ c : Channel, s0.chState c = 2 → s0.fld DRC_SR_CFG_idle_us ≠ 0 →
       s0.elapsed (s0.dch c).lastReq (edgesUs (s0.fld (DRC_CH_SR_idle_us c.val))) = true →
       s0.classAForecast (1000 * s0.fld DRC_SR_CFG_guard_us) = false → (s0.dch c).gran = none →
       Completes (.selfRefreshEntry t c) s fun u =>
         u.chState c = 3 ∧ u.dram.mem = s0.dram.mem ∧ Keeps [.dram, .fresh] [DRC_CH_STAT c.val] s0 u) ∧
     (∀ c : Channel, s0.chState c = 3 → Completes (.selfRefreshExit t c) s fun u =>
       u.chState c = 2 ∧ (u.dch c).bounces = (s0.dch c).bounces + 1 ∧ (u.dch c).lastReq = s0.now ∧
       (∀ k : Fin 2, (u.dch c).lastRef[k] = s0.now) ∧ u.dram.mem = s0.dram.mem ∧
       Keeps [.dram, .fresh] [DRC_CH_STAT c.val] s0 u) ∧
     ((match s0.lowestActive with
       | some o => s0.dram.bounceAt < (s0.out o).cycle.tickEdge
       | none => s0.elapsed s0.dram.bounceAt (edgesMs 10) = true) →
       Completes (.bounceInterval t) s fun u => u.dram.bounceAt = s0.now ∧ u.dram.mem = s0.dram.mem ∧
         (∀ c ∈ s0.populated, (u.dch c).bounces = 0 ∧
           u.fld (DRC_CH_SR_bounces c.val) = min (s0.dch c).bounces 255 ∧
           (8 < (s0.dch c).bounces → s0.fld (DRC_CH_SR_idle_us c.val) <
               min (2 * s0.fld (DRC_CH_SR_idle_us c.val)) (s0.fld DRC_SR_CFG_idle_max_us) →
             u.fld (DRC_CH_SR_idle_us c.val) =
               min (2 * s0.fld (DRC_CH_SR_idle_us c.val)) (s0.fld DRC_SR_CFG_idle_max_us)) ∧
           ((s0.dch c).bounces = 0 → (s0.dch c).quiet = 15 → u.fld (DRC_CH_SR_idle_us c.val) =
             max (s0.fld (DRC_CH_SR_idle_us c.val) / 2) (s0.fld DRC_SR_CFG_idle_us)) ∧
           ((s0.dch c).bounces ≤ 8 → (s0.dch c).bounces ≠ 0 →
             u.fld (DRC_CH_SR_idle_us c.val) = s0.fld (DRC_CH_SR_idle_us c.val))) ∧
         Keeps [.dram, .evt] (EVT_LOST :: (List.range 8).map DRC_CH_SR) s0 u))

/-- ALERT_n: a pulse of 6–10 device clocks is a write CRC error, any other a CA parity error; a first one starts a retry, is
counted and raises EV060 or EV059; a second one of the same cause during it freezes, with the failing command in the record;
the retry of a cause ends when it has completed (R240, R243, R244, R245). Thaw: start with its key while frozen enters it
with EV062; go begins the read of the unit at DRC_THAW_ADDR, whose channel stays in bank sweep with the unit's bank locked;
the read shows each word as stored with its check byte and the syndrome, writes nothing and sets done (R249). It rests on
the model's choices of assumption log 73, 75, 78, 216, 218 and 219. -/
def Obligations.RetriesAndThaw : Prop :=
  (∀ (s : State) (t : Nat) (c : Channel) (width : Nat) (cmd : DramCmd), let s0 := s.advanceTo t
     let crc := decide (6 ≤ width ∧ width ≤ 10)
     (s0.frozen = false → s0.chState c = 2 →
       ((∀ r ∈ (s0.dch c).retry, r.ca = crc) → Completes (.alertNPulse t c width cmd) s fun u =>
         (u.dch c).retry = (s0.dch c).retry ++ [⟨!crc, cmd⟩] ∧ u.dram.mem = s0.dram.mem ∧
         (crc = true → u.fld (DRC_CH_RETRY_crc c.val) = min (s0.fld (DRC_CH_RETRY_crc c.val) + 1) (2 ^ 16 - 1) ∧
           LogsOpen s0 u 60 (c.val * 2 ^ 29 + cmd.addr.toNat % 2 ^ 10)) ∧
         (crc = false → u.fld (DRC_CH_RETRY_ca c.val) = min (s0.fld (DRC_CH_RETRY_ca c.val) + 1) (2 ^ 16 - 1) ∧
           LogsOpen s0 u 59 (c.val * 2 ^ 29 + b2n cmd.rank * 2 ^ 28 + cmd.code.toNat)) ∧
         Keeps [.dram, .evt, .fresh] [DRC_CH_RETRY c.val, EVT_LOST] s0 u) ∧
       ((∃ r ∈ (s0.dch c).retry, r.ca ≠ crc) → Completes (.alertNPulse t c width cmd) s fun u =>
         (crc = true → Frozen s0 3 c.val 0 cmd.req.toNat 0 (cmd.phys / 64 * 64) u) ∧
         (crc = false → cmd.code = 2 ∨ cmd.code = 3 → Frozen s0 2 c.val 0 cmd.req.toNat 0 (cmd.phys / 64 * 64) u) ∧
         (crc = false → cmd.code ≠ 2 → cmd.code ≠ 3 → Frozen s0 2 c.val 0 0x3F 0 0 u) ∧
         (u.dram.hist[c]).any (shows cmd) = true ∧ Keeps [.dram, .evt, .sbx, .fresh] freezeAddrs s0 u)) ∧
     (s0.frozen = true → Completes (.alertNPulse t c width cmd) s fun u =>
       u.fld DRC_FREEZE_INFO_later = min (s0.fld DRC_FREEZE_INFO_later + 1) 255 ∧ u.dram.mem = s0.dram.mem ∧
         Keeps [.dram] [DRC_FREEZE_INFO] s0 u) ∧
     Completes (.retryComplete t c) s fun u =>
       ((s0.dch c).retry.length ≤ 1 → (u.dch c).retry = []) ∧
       (∀ r r' rs, (s0.dch c).retry = r :: r' :: rs → (u.dch c).retry = r :: rs ∨ (u.dch c).retry = r' :: rs) ∧
       (∀ k, k ≠ c → u.dch k = s0.dch k) ∧ u.dram.mem = s0.dram.mem ∧ Keeps [.dram, .fresh] [] s0 u) ∧
  (∀ (s : State) (t : Nat), let s0 := s.advanceTo t
     (∀ (p : Path) (v : Word), s0.writesOn p → s0.grants DRC_THAW_CTRL →
       (v = 0x7A5C0001 → s0.frozen = true → s0.dram.thawing = false → Completes (.thawStart t p v) s fun u =>
         u.dram.thawing = true ∧ LogsOpen s0 u 62 0 ∧ (∀ c ∈ s0.populated, u.chState c = 6) ∧ u.dram.mem = s0.dram.mem ∧
         Keeps (.dram :: .evt :: pathParts p) (EVT_LOST :: (List.range 8).map DRC_CH_STAT ++ pathAddrs p) s0 u) ∧
       (v = 2 → s0.dram.thawing = true → Completes (.thawGo t p v) s fun u =>
         u.dram.thaw = some ((s0.fld DRC_THAW_ADDR_HI_addr_hi * 2 ^ 32 + (s0.reg DRC_THAW_ADDR_LO).toNat) / 64) ∧
         u.fld DRC_THAW_CTRL_done = 0 ∧ u.dram.mem = s0.dram.mem ∧
         (∀ k ∈ u.dram.thaw, ((s0.dch (s0.unitChannel k)).sweep = none → u.fld (DRC_CH_STAT_sweep (s0.unitChannel k).val) = 1) ∧
           ∃ x, (u.dch (s0.unitChannel k)).sweep = some x ∧ x.locked = some ((s0.fieldsOf (64 * k)).key, s0.now)) ∧
         Keeps (.dram :: .fresh :: pathParts p) (DRC_THAW_CTRL :: (List.range 8).map DRC_CH_STAT ++ pathAddrs p) s0 u)) ∧
     ∀ (unit : Nat) (flips : List WordErr), s0.dram.thaw = some unit → Completes (.thawReadComplete t flips) s fun u =>
       u.fld DRC_THAW_CTRL_done = 1 ∧ u.dram.thaw = none ∧ u.dram.mem = s0.dram.mem ∧
       (∀ i : Fin 8, (∀ f ∈ flips ++ s0.badWords unit, f.word ≠ i) →
         u.reg (DRC_THAW_DATA (2 * i.val)) = BitVec.ofNat 32 (leNat (s0.memBytes (64 * unit + 8 * i.val) 4)) ∧
         u.reg (DRC_THAW_DATA (2 * i.val + 1)) = BitVec.ofNat 32 (leNat (s0.memBytes (64 * unit + 8 * i.val + 4) 4)) ∧
         bits (u.reg (DRC_THAW_ECC (i.val / 4))).toNat (8 * (i.val % 4) + 7) (8 * (i.val % 4)) =
           (Config.eccCheck (s0.memWord64 (64 * unit + 8 * i.val))).toNat ∧
         bits (u.reg (DRC_THAW_SYND (i.val / 4))).toNat (8 * (i.val % 4) + 7) (8 * (i.val % 4)) = 0) ∧
       (∀ i : Fin 8, ∀ f, flips.find? (fun x => x.word = i) = some f →
         bits (u.reg (DRC_THAW_SYND (i.val / 4))).toNat (8 * (i.val % 4) + 7) (8 * (i.val % 4)) = f.syndrome.toNat) ∧
       Keeps [.dram, .fresh] (DRC_THAW_CTRL :: (List.range 16).map DRC_THAW_DATA ++ (List.range 2).map DRC_THAW_ECC ++
         (List.range 2).map DRC_THAW_SYND) s0 u)

/-! ### The frame cycle and the Porter -/

/-- The tick of an output: its counter increments; the halves swap, with the flip time latched, exactly when the frame was
marked ready, the output has ticked before and the DRAM is not frozen; a frame of which something arrived and that is not
ready raises EV132 + o; no span of the output is left in an engine and no line of its view store in a cache; the decode
serial is decided and the next one open; a commit-status item goes up; other outputs' cycles stay but for the candidate that
an admission gives them, and DRAM but for the context records that become current (R18, R19, R27, R36, R59, R166). It rests
on the model's choices of assumption log 47, 48, 206 and 223. -/
def Obligations.Ticks : Prop :=
  ∀ (s : State) (t : Nat) (o : Output) (n : Nat), let s0 := s.advanceTo t
    let c := (s0.out o).cycle
    s0.scanning o = true → s0.tickInstant o = some n → Sparse.wf s0.engines = true →
    (∀ d ∈ s0.rooms.dead, d.owner.isSome = true ∧ d.owner ≠ some o) →
    Completes (.tick t o none) s fun u =>
      let d := (u.out o).cycle
      u.reg (SCN_FRAME o.val) = s0.reg (SCN_FRAME o.val) + 1 ∧
      (d.tickAt = n ∧ d.tickEdge = s0.now ∧ d.ticked = true ∧ d.service = true ∧ d.cutB = false ∧ d.cutCD = false ∧
        d.ready = false ∧ d.decode = none ∧ d.decided = c.decode.or c.decided) ∧
      (c.ready = true → c.ticked = true → s0.frozen = false →
        (∀ k : Output, (u.fld INK_FLIP_display).testBit k.val = ((s0.fld INK_FLIP_display).testBit k.val ^^ (k == o))) ∧
        d.display = c.decode ∧ u.reg (SCN_FLIP_TIME_LO o.val) = BitVec.ofNat 32 s0.timeNs ∧
        u.reg (SCN_FLIP_TIME_HI o.val) = BitVec.ofNat 32 (s0.timeNs / 2 ^ 32)) ∧
      (c.ready = false ∨ c.ticked = false ∨ s0.frozen = true →
        u.fld INK_FLIP_display = s0.fld INK_FLIP_display ∧ d.display = c.display ∧
        u.reg (SCN_FLIP_TIME_LO o.val) = s0.reg (SCN_FLIP_TIME_LO o.val)) ∧
      (∀ w x, c.ticked = true → c.decode = some w → c.ready = false → c.withheld = some x →
        Logs s0 u (132 + o.val) x w.toNat) ∧
      (∀ e, (∃ g, s0.engine? e = some g ∧ g.out = o) → u.engine? e = none) ∧
      (∀ e g, s0.engine? e = some g → g.out ≠ o → u.engine? e = some g) ∧
      (∀ cl : Cluster, ∀ x ∈ u.caches[cl], x.key.space.val ≠ o.val) ∧
      (s0.hopUsed .up = true → s0.frozen = false →
        u.link.txUp.q2own.getLast?.map (fun b => b.headD 0) = some 0x42) ∧
      (∀ k : Output, k ≠ o → (u.out k).cycle = { (s0.out k).cycle with target := (u.out k).cycle.target }) ∧
      (∀ a, (∀ off, s0.phys? spCTX off ≠ some a) → u.memByte a = s0.memByte a) ∧
      KeepsBlocks [.blt, .caches, .cams, .chains, .codecs, .dram, .energy, .engines, .evt, .fresh, .link, .outs, .porter, .power,
          .rooms, .servo, .therm, .wall]
        [BLT_STAT, CAM_P_STAT 0, CDC_U_STAT 0, ENG_CLOCK, EVT_LOST, INK_FLIP, PNL_BAND 0, PTR_Q_AB, PWR_PD_STATE 0,
          RAY_OUT_CFG 0, SCN_FRAME 0, THM_STATE] s0 u

/-- The cutoffs before a tick: −400 µs builds the position set from the latest accepted TRACK; −250 µs marks the frame ready
when its marker and every listed leg are there and the DRAM is not frozen, and ends all decoding of the output; −50 µs
returns queued captures to data and drops class D work (R20, R29, R194, R246, R369). Readiness and its causes are the
rule's: a frame is ready when its marker is there and every leg it lists is done, all of it stamped before the cutoff; of
the causes for a frame that is not, the lowest counts. An entry that a marker lists stands for a leg of its leg_id and
chain, if there is one (R20, R21, R27). It rests on the model's choices of assumption log 46, 51, 57, 196 and 206. -/
def Obligations.Cutoffs : Prop :=
  (∀ (s : State) (t : Nat) (o : Output), let s0 := s.advanceTo t
     let c := (s0.out o).cycle
     s0.scanning o = true → c.service = false →
     (∀ m, (s0.out o).render.nextSet = none → s0.beforeTick o 400000 = true →
       latestTrack (c.nextTick - 400000) s0.wall.tracks = some m →
       Completes (.trackingCutoff t o) s fun u =>
         (∃ p, (u.out o).render.nextSet = some p ∧ p.from_ = m ∧ p.meas = m.meas ∧ p.words.length = 64 ∧
           (∀ e : Fin 16, m.eyes.getD e.val none = none → p.words.getD (4 * e.val + 3) 0 = 0xFFFFFFFF) ∧
           ∀ (e : Fin 16) (x : Eye), m.eyes.getD e.val none = some x → (s0.out o).render.posSet = none →
             p.words.getD (4 * e.val) 0 = ratio32 x.x 2 ∧ p.words.getD (4 * e.val + 1) 0 = ratio32 x.y 2 ∧
             p.words.getD (4 * e.val + 2) 0 = ratio32 x.z 2 ∧ p.words.getD (4 * e.val + 3) 0 = BitVec.ofNat 32 x.conf) ∧
         Keeps [.outs, .fresh] [] s0 u) ∧
     (c.ticked = true → c.cutB = false → s0.ticksNext o = true → s0.beforeTick o 250000 = true →
       Completes (.decodeCutoff t o) s fun u =>
         let d := (u.out o).cycle
         d.cutB = true ∧ d.ready = (c.isReady && !s0.frozen) ∧
         (d.ready = false → c.received = true → d.withheld = some (c.cause s0.frozen)) ∧
         (∀ k ∈ u.porter.qb ++ u.porter.waitB, (s0.item? k).any (fun x => x.out = o) = false) ∧
         (∀ k : CodecUnit, (s0.codec k).leg.any (runsFor o) = true →
           (u.codec k).leg = none ∧ (u.codec k).draining = true) ∧
         (∀ k : CodecUnit, (s0.codec k).leg.any (runsFor o) = false → u.codec k = s0.codec k) ∧
         KeepsBlocks [.codecs, .evt, .outs, .porter, .power] [CDC_U_STAT 0, EVT_LOST] s0 u) ∧
     (c.ticked = true → c.cutCD = false → s0.ticksNext o = true → s0.beforeTick o 50000 = true →
       Completes (.classCDCutoff t o) s fun u =>
         (u.out o).cycle.cutCD = true ∧ (∀ x ∈ u.porter.qc ++ u.porter.waitC, s0.capOf o x = false) ∧
         (∀ x ∈ s0.porter.qc ++ s0.porter.waitC, s0.capOf o x = true → x ∈ u.porter.heldC) ∧
         (∀ w ∈ u.porter.qd ++ u.porter.waitD, s0.classDOutput w ≠ o) ∧
         (∀ r, s0.blt.run = some r → r.out = o → u.blt.run = none ∧ u.blt.draining = true) ∧
         KeepsBlocks [.blt, .cams, .codecs, .evt, .fresh, .link, .outs, .porter, .power]
           [BLT_STAT, CAM_P_STAT 0, CDC_U_STAT 0, EVT_LOST] s0 u)) ∧
  (∀ (c : Cycle) (frozen : Bool),
     let inTime (n : Nat) : Prop := n < c.nextTick - 250000
     (∀ m, c.markerInTime = some m ↔ c.marker? = some m ∧ inTime m.stamp) ∧
     (∀ m, (c.listed m).length = m.legs.length ∧ ∀ (i : Nat) e x, m.legs[i]? = some e → (c.listed m)[i]? = some x →
       (x = none ↔ ∀ l ∈ c.mine, l.named e = false) ∧ ∀ l, x = some l → l ∈ c.mine ∧ l.named e = true) ∧
     (c.isReady = true ↔ ∃ m, c.markerInTime = some m ∧ ∀ x ∈ c.listed m, ∃ l, x = some l ∧ l.done = true ∧ inTime l.ended) ∧
     (c.markerInTime = none → c.cause frozen = 1) ∧
     (∀ m, c.markerInTime = some m → none ∈ c.listed m → c.cause frozen = 2) ∧
     (∀ m, c.markerInTime = some m →
       (∀ x ∈ c.listed m, ∃ l, x = some l ∧ inTime l.ended ∧ (l.done = true ∨ ∃ n, l.outcome = some n ∧ 0x10 ≤ n)) →
       (∃ l, some l ∈ c.listed m ∧ l.done = false) → c.cause frozen = 3) ∧
     (c.isReady = true → c.cause true = 4))

/-- After +2 µs the lead span rows are released, held class C and D work returns, and without a playlist the lowest serial
above the decided one becomes the decode serial; a later span row is released at its line, unless the class A quota is full
(R14, R185, R190, R194). Buckets gain their rate every 1 µs up to their depth; work behind a quota enters the queue in order
as entries free; an automatic playlist starts after 8 ticks without a marker and raises EV237; the card is scheduled after
card_after ticks without a swap and raises EV237, which the model takes as card shown (assumption log 15) (R185, R192, R213,
R412). Static refresh: at −250 µs a grid instant becomes a tick at full rate for a ready frame, a static tick as the m-th
since the last one, and is skipped otherwise; a skipped instant changes no frame counter, and a position set built for it is
dropped (R281, R282, R369). It rests on the model's choices of assumption log 5, 50, 52 and 223. -/
def Obligations.FrameUpkeep : Prop :=
  (∀ (s : State) (t : Nat) (o : Output), let s0 := s.advanceTo t
     let c := (s0.out o).cycle
     (c.service = true → c.tickAt + 2000 ≤ s0.timeNs → s0.scanning o = true →
       Completes (.tickServiceEnd t o) s fun u =>
         (u.out o).cycle.service = false ∧
         (c.cutCD = false → (∀ x ∈ u.porter.heldC, s0.capOf o x = false) ∧
           ∀ w ∈ u.porter.heldD, s0.classDOutput w ≠ o) ∧
         (u.porter.qa.map fun r => (r.out, r.y)) = (s0.porter.qa.map fun r => (r.out, r.y)) ++
           (List.range (min 6 (s0.lines o / 8))).map (fun r => (o, 8 * r)) ∧
         (∀ w, s0.playing o = false → lowestAbove c.decided (s0.serialsOf o) = some w →
           (u.out o).cycle.decode = some w ∧ u.reg (PTR_OUT_SERIAL o.val) = w) ∧
         KeepsBlocks [.evt, .fresh, .outs, .porter, .power, .rooms] [EVT_LOST, PTR_OUT_SERIAL 0, PWR_PD_STATE 0] s0 u) ∧
     ∀ row : Nat, s0.scanning o = true → c.ticked = true → c.service = false → c.released = row → 48 ≤ 8 * row →
       8 * row < s0.lines o → s0.lineReached o ((s0.outRec o).blank + 8 * row - 40) = true →
       (s0.porter.qa.length < 64 → Completes (.spanRowRelease t o row) s fun u =>
         u.porter.qa = s0.porter.qa ++
           [⟨o, 8 * row, s0.spanDeadline o (8 * row), List.range (ceilDiv (s0.wsub o) 60)⟩] ∧
         (u.out o).cycle.released = row + 1 ∧ (∀ v ∈ (u.out o).render.valid, v.1 % 48 ≠ 8 * row % 48) ∧
         KeepsBlocks [.evt, .outs, .porter, .power] [EVT_LOST, PWR_PD_STATE 0] s0 u) ∧
       (64 ≤ s0.porter.qa.length → s0.porter.filled.contains (o, 0) = false → Completes (.spanRowRelease t o row) s fun u =>
         LogsOpen s0 u 235 (o.val * 2 ^ 30) ∧ u.porter.qa = s0.porter.qa ∧ Keeps [.evt, .porter] [EVT_LOST] s0 u)) ∧
  (∀ (s : State) (t : Nat), let s0 := s.advanceTo t
     let p := s0.porter
     (s0.elapsed p.lastRefill (edgesUs 1) = true → Completes (.tokenBucketRefill t) s fun u =>
       u.porter.tokB = min (p.buckets.get 0).2 (p.tokB + max 1 (p.buckets.get 0).1) ∧
       u.porter.tokC = min (p.buckets.get 1).2 (p.tokC + max 1 (p.buckets.get 1).1) ∧
       u.porter.tokD = min (p.buckets.get 2).2 (p.tokD + max 1 (p.buckets.get 2).1) ∧ Keeps [.porter] [] s0 u) ∧
     (Completes (.queueEntryAdmit t .b) s fun u => u.porter.qb ++ u.porter.waitB = p.qb ++ p.waitB ∧
       (p.qb.length ≤ 2048 → u.porter.qb.length = min 2048 (p.qb.length + p.waitB.length)) ∧ Keeps [.porter] [] s0 u) ∧
     (Completes (.queueEntryAdmit t .c) s fun u => u.porter.qc ++ u.porter.waitC = p.qc ++ p.waitC ∧
       (p.qc.length ≤ 1024 → u.porter.qc.length = min 1024 (p.qc.length + p.waitC.length)) ∧ Keeps [.porter] [] s0 u) ∧
     (Completes (.queueEntryAdmit t .d) s fun u => u.porter.qd ++ u.porter.waitD = p.qd ++ p.waitD ∧
       (p.qd.length ≤ 960 → u.porter.qd.length = min 960 (p.qd.length + p.waitD.length)) ∧ Keeps [.porter] [] s0 u) ∧
     (∀ (o : Output) (r : StockRec) (l : Nat), s0.itin.stock = some r → r.auto.getD o.val 0xFF = l → l ≠ 0xFF →
       (s0.playlist? o l).isSome = true → s0.scanning o = true → s0.playing o = false → 8 ≤ (s0.out o).play.noMarker →
       Completes (.autoPlaylistStart t o) s fun u =>
         u.fld (PTR_OUT_PLAY_active o.val) = 1 ∧ u.fld (PTR_OUT_PLAY_auto o.val) = 1 ∧
         u.fld (PTR_OUT_PLAY_list o.val) = l % 16 ∧ (u.out o).play.next = 0 ∧ LogsOpen s0 u 237 (o.val * 2 ^ 30 + 3) ∧
         Keeps [.evt, .outs] [PTR_OUT_PLAY o.val, EVT_LOST] s0 u) ∧
     ∀ (o : Output) (r : CardRec), s0.itin.card[o] = some r → s0.scanning o = true → s0.playing o = false →
       (s0.out o).render.cardShown = false → (s0.out o).render.bare = false → (s0.out o).render.cardDue = false →
       max 1 r.cardAfter ≤ s0.fld (BLT_CARD_idle o.val) →
       Completes (.cardShow t o) s fun u =>
         (u.out o).render.cardDue = true ∧ LogsOpen s0 u 237 (o.val * 2 ^ 30 + 4) ∧
         ClassD.card o ∈ u.porter.qd ++ u.porter.waitD ++ u.porter.heldD ∧
         KeepsBlocks [.evt, .outs, .porter, .power] [EVT_LOST, PWR_PD_STATE 0] s0 u) ∧
  (∀ (s : State) (t : Nat) (o : Output), let s0 := s.advanceTo t
     let c := (s0.out o).cycle
     s0.scanning o = true → s0.fld (SCN_OUT_STAT_static o.val) = 1 →
     ((s0.out o).scan.staticTick = false → (s0.out o).scan.staticSkip = false → s0.beforeTick o 250000 = true →
       (c.isReady = true → s0.frozen = false → Completes (.staticDecision t o) s fun u =>
         u.fld (SCN_OUT_STAT_static o.val) = 0 ∧ u.ticksNext o = true ∧
         KeepsBlocks [.evt, .outs, .power] [EVT_LOST, PWR_PD_STATE 0, SCN_FRAME 0] s0 u) ∧
       (c.isReady = false → s0.waiting o = [] → s0.fld (SCN_OUT_STAT_m o.val) = (s0.out o).scan.gridSince + 1 →
         Completes (.staticDecision t o) s fun u =>
           u.fld (SCN_OUT_STAT_static o.val) = 1 ∧ u.ticksNext o = true ∧
           KeepsBlocks [.evt, .outs, .power] [EVT_LOST, PWR_PD_STATE 0] s0 u) ∧
       (c.isReady = false → s0.waiting o = [] → (s0.out o).scan.gridSince + 1 < s0.fld (SCN_OUT_STAT_m o.val) →
         Completes (.staticDecision t o) s fun u =>
           (u.out o).scan.staticSkip = true ∧ u.ticksNext o = false ∧ Keeps [.outs] [] s0 u)) ∧
     ((s0.out o).scan.staticTick = false → c.nextTick ≤ s0.timeNs → Completes (.gridInstantSkip t o) s fun u =>
       (u.out o).cycle = { c with nextTick := c.nextTick + s0.periodNs o } ∧
       (u.out o).scan.gridSince = (s0.out o).scan.gridSince + 1 ∧ (u.out o).scan.staticSkip = false ∧
       (u.out o).render.nextSet = none ∧ Keeps [.outs, .cams] [] s0 u))

/-! ### Words, numbers and spans of the ray engine -/

/-- Decoding an encoded instruction gives it back with every field, and encoding what the decoder reads gives back its
words: the two agree on every word of the instruction memory (R102, R103, R110). -/
def Obligations.EncodeDecode : Prop :=
  (∀ (op : Nat) (e : EngineId) (f : Form) (i : Instr) (ws rest : List Word), ofOpcode op e f = some i → i.wf = true →
    encodeEngine i = some ws → decodeEngine e (ws ++ rest) = some (i, ws.length)) ∧
  ∀ (e : EngineId) (ws : List Word) (i : Instr) (n : Nat), decodeEngine e ws = some (i, n) →
    encodeEngine i = some (ws.take n) ∧ i.wf = true

/-- Numbers: minimum and maximum return the other operand for one NaN and order −0 below +0; ordered compares are false for
a NaN, FSNE true; sums and products are never subnormal and their only NaN is 0x7FC0_0000; conversions to integer give 0 for
a NaN and undo I2F where it is exact; FFRAC is never 1 (R97, R100, R101, R110). -/
def Obligations.FloatRules : Prop :=
  (∀ a b : Word, isNan32 a = true → isNan32 b = false → read32 (fmin a b) = read32 b ∧ read32 (fmax a b) = read32 b ∧
    read32 (fmin b a) = read32 b ∧ read32 (fmax b a) = read32 b) ∧
  (∀ a b : Word, isNan32 a = true → isNan32 b = true → fmin a b = 0x7FC00000 ∧ fmax a b = 0x7FC00000) ∧
  (fmin 0x80000000 0 = 0x80000000 ∧ fmin 0 0x80000000 = 0x80000000 ∧ fmax 0x80000000 0 = 0 ∧ fmax 0 0x80000000 = 0) ∧
  (∀ a b : Word, isNan32 a = true ∨ isNan32 b = true → feq a b = false ∧ flt a b = false ∧ fle a b = false ∧ fne a b = true) ∧
  (∀ op ∈ [fadd, fsub, fmul], ∀ a b : Word, (isNan32 (op a b) = true → op a b = 0x7FC00000) ∧
    (bits (op a b).toNat 30 23 = 0 → bits (op a b).toNat 22 0 = 0)) ∧
  (∀ b : Word, isNan32 b = true → f2i b = 0 ∧ f2if b = 0 ∧ f2ir b = 0 ∧ fsat b = 0) ∧
  (∀ b : Word, b.toInt.natAbs ≤ 2 ^ 24 → f2i (i2f b) = b ∧ f2if (i2f b) = b ∧ f2ir (i2f b) = b) ∧
  ∀ b : Word, ffrac b ≠ 0x3F800000

/-- A free engine of a cluster in service takes the earliest span row's lowest column of its own stripe, or else the highest
of the fullest one: it begins at its program with s0–s7 as dispatch gives them, every other register undefined, and the row
keeps its other columns (R96, R122, R187, R188). The choice of dispatch: the first row has the earliest deadline; the column
is the lowest of the engine's own stripe where that has one, else the highest of a stripe that no other exceeds (R187,
R188). It rests on the model's choices of assumption log 31. -/
def Obligations.SpanDispatch : Prop :=
  (∀ (s : State) (t : Nat) (e : EngineId) (row : SpanRow) (col : Nat), let s0 := s.advanceTo t
     s0.engine? e = none → s0.inService (clusterOf e) = true → s0.accepts (clusterOf e) = true →
     firstRow s0.porter.qa = some row →
     pickColumn (s0.out row.out).cycle.stripes (s0.spanCols row.out) (clusterOf e) row.cols = some col →
     Completes (.spanDispatch t e) s fun u =>
       (∃ g, u.engine? e = some g ∧ g.out = row.out ∧ g.xs0 = 60 * col ∧ g.y0 = row.y ∧
         g.w = min 60 (s0.wsub row.out - 60 * col) ∧ g.slot = bits (s0.out row.out).render.cfg.toNat 17 16 ∧
         g.pc = s0.progBase g.slot ∧ g.span = row.y / 8 * s0.spanCols row.out + col ∧ g.clk = 0 ∧ g.reqs = [] ∧
         g.sreg 0 = BitVec.ofNat 32 (60 * col) ∧ g.sreg 1 = BitVec.ofNat 32 row.y ∧ g.sreg 2 = BitVec.ofNat 32 g.w ∧
         g.sreg 3 = 8 ∧ g.sreg 4 = BitVec.ofNat 32 (row.out.val + g.slot * 16) ∧
         g.sreg 5 = s0.reg (SCN_FRAME row.out.val) ∧ g.sreg 6 = BitVec.ofNat 32 g.span ∧
         g.sreg 7 = BitVec.ofNat 32 (s0.budget g.slot g.w) ∧
         ∀ r i, i < 8 → g.vreg r i = Config.engineUndef g.token (8 * r + i)) ∧
       (∀ k, k ≠ e → u.engine? k = s0.engine? k) ∧
       (∀ x ∈ u.porter.qa, x.out = row.out → x.y = row.y → col ∉ x.cols) ∧
       (∀ x ∈ s0.porter.qa, ¬ (x.out = row.out ∧ x.y = row.y) → x ∈ u.porter.qa) ∧
       Keeps [.engines, .porter, .fresh] [] s0 u) ∧
  ((∀ (l : List SpanRow) (row : SpanRow), firstRow l = some row → row ∈ l ∧ ∀ x ∈ l, row.deadline ≤ x.deadline) ∧
   ∀ (clusters : List Nat) (cols cl col : Nat) (l : List Nat), l.Pairwise (· < ·) → pickColumn clusters cols cl l = some col →
     col ∈ l ∧
     (∀ k, clusters.findIdx? (· == cl) = some k → stripeCols clusters.length cols k l ≠ [] →
       col ∈ stripeCols clusters.length cols k l ∧ ∀ x ∈ stripeCols clusters.length cols k l, col ≤ x) ∧
     (∀ k, clusters.findIdx? (· == cl) = some k → stripeCols clusters.length cols k l = [] →
       ∃ j, col ∈ stripeCols clusters.length cols j l ∧ (∀ x ∈ stripeCols clusters.length cols j l, x ≤ col) ∧
         ∀ m, m < clusters.length →
           (stripeCols clusters.length cols m l).length ≤ (stripeCols clusters.length cols j l).length))

/-- The oldest request of an engine at a unit is served: an operand out of range traps; a double-bit error in a line or in
an alcove of the calibration store that it reads traps ECC, for the alcove with EV244 and until its spare comes; otherwise,
with its cache lines there, its active lanes take the results, all readable in one clock that lies within what service and
latency allow, behind the service of the request before it, and an OUT writes its line-buffer entries and counts its
subpixels (R92, R105, R106, R109, R113, R116, R117, R119, R209). It rests on the model's choices of assumption log 33, 41,
191, 192 and 200. -/
def Obligations.SharedUnitResults : Prop :=
  ∀ (s : State) (t : Nat) (e : EngineId) (unit : SharedUnit) (clk stall : Nat) (g : Engine) (r : UnitReq)
    (rest : List UnitReq), let s0 := s.advanceTo t
    let ready := ∀ k ∈ s0.reqLines g.out r, (s0.cacheLine? (clusterOf e) k).isSome = true
    s0.engine? e = some g → takeReq unit g.reqs = some (r, rest) →
    (s0.reqTrap g r ≠ 0 → Sparse.wf s0.engines = true → ∀ hit,
      Completes (.sharedUnitResult t e unit clk stall hit) s (Trapped e g (s0.reqTrap g r) 0 r.pc s0)) ∧
    (s0.reqTrap g r = 0 → ready → Sparse.wf s0.engines = true →
      (∀ k ∈ s0.reqLines g.out r, Completes (.sharedUnitResult t e unit clk stall { line := some k }) s fun u =>
        u.cacheLine? (clusterOf e) k = none ∧ (∀ q, q ≠ k → u.cacheLine? (clusterOf e) q = s0.cacheLine? (clusterOf e) q) ∧
        Trapped e g 0xA 0 r.pc { s0 with caches := u.caches } u) ∧
      (∀ a : Fin 128, a.val ∈ s0.calibAlcoves g.out r →
        Completes (.sharedUnitResult t e unit clk stall { alcove := some a }) s fun u =>
          LogsOpen s0 u 244 (alCalib + a.val) ∧ u.calibDead a.val = true ∧ u.engine? e = none ∧
          u.fld (RAY_SPAN_FAIL_count g.out.val) = min (s0.fld (RAY_SPAN_FAIL_count g.out.val) + 1) (2 ^ 32 - 1) ∧
          bits (u.reg (ENG_CL_LAST (clusterOf e))).toNat 31 28 = 0xA) ∧
      (∀ a ∈ s0.calibAlcoves g.out r, s0.calibDead a = true →
        Completes (.sharedUnitResult t e unit clk stall {}) s (Trapped e g 0xA 0 r.pc s0))) ∧
    (s0.reqTrap g r = 0 → ready → (∀ a ∈ s0.calibAlcoves g.out r, s0.calibDead a = false) →
      g.ending = false ∨ rest ≠ [] →
      Completes (.sharedUnitResult t e unit clk stall {}) s fun u => ∃ h, u.engine? e = some h ∧ h.reqs = rest ∧
        (∀ k i, k < resultCount r → i < 8 → h.vreg (r.d + k) i =
          if reqLane r i then (s0.reqValues (clusterOf e) g r i).getD k 0 else g.vreg (r.d + k) i) ∧
        (∀ q i, i < 8 → q < r.d ∨ r.d + resultCount r ≤ q → h.vreg q i = g.vreg q i) ∧
        (∀ q, h.sreg q = g.sreg q ∧ h.preg q = g.preg q ∧ h.lmWord q = g.lmWord q) ∧
        (∀ k, k < resultCount r → r.d + k < 128 →
          Sparse.getD h.busy (keyV (r.d + k)) 0 = (g.serve r clk stall).ready) ∧
        (let n := (reqLanes r).length
         let begins := max r.clk (g.lastDone unit) + if r.fill then stall else 0
         begins + leastService unit n + afterService unit ≤ (g.serve r clk stall).ready ∧
          (leastService unit n ≤ mostService unit n →
            (g.serve r clk stall).ready ≤ begins + mostService unit n + afterService unit) ∧
          h.lastDone unit = (g.serve r clk stall).ready - afterService unit) ∧
        (unit ≠ .output → u = s0.setEngine e h) ∧
        (unit = .output → ∀ i, i < 8 → reqLane r i = true →
          let x := ((reqOps r i).getD 1 0).toNat
          let y := ((reqOps r i).getD 2 0).toNat
          h.written.testBit (8 * (x - g.xs0) + (y - g.y0)) = true ∧
          ((∀ j, j < 8 → reqLane r j = true → (reqOps r j).getD 1 0 = (reqOps r i).getD 1 0 →
              (reqOps r j).getD 2 0 = (reqOps r i).getD 2 0 → j = i) →
            g.xs0 + g.w ≤ s0.wsub g.out → Sparse.getD (u.out g.out).render.ring (s0.ringIndex g.out x y) 0 =
              s0.lineEntry g.out ((reqOps r i).getD 0 0) x y)) ∧
        Keeps [.engines, .outs] [] s0 u)

/-- The watchdog traps a count above the budget and else only lets time pass, none while a line fill is awaited, with the
single-bit errors that the cluster has corrected counted and the words of local memory that have become unreadable noted; a
cluster that leaves service by a double-bit error traps CLUSTER_LOST in every engine, raises EV236 and makes admission due
(R35, R125, R126, R189). It rests on the model's choices of assumption log 43 and 200. -/
def Obligations.WatchdogAndLoss : Prop :=
  ∀ (s : State) (t : Nat), let s0 := s.advanceTo t
    (∀ (e : EngineId) (clk : Nat) (hits : SoftHits) (g : Engine), s0.engine? e = some g →
      let sec := ENG_CL_STAT_sec_count (clusterOf e)
      let s1 := s0.incFld sec hits.corrected
      let g' := { g with clk := if s1.awaitsFill (clusterOf e) g then g.clk else max g.clk clk, lost := g.lost ++ hits.lost }
      s1.fld sec = min (s0.fld sec + hits.corrected) 0xFFFF ∧ Keeps [] [ENG_CL_STAT (clusterOf e)] s0 s1 ∧
      (g'.counted ≤ s0.budget g.slot g.w → Completes (.spanWatchdog t e clk hits) s fun u => u = s1.setEngine e g') ∧
      (s0.budget g.slot g.w < g'.counted → Sparse.wf s0.engines = true →
        Completes (.spanWatchdog t e clk hits) s (Trapped e g' 8 0 g.pc (s1.notePeak g')))) ∧
    ∀ (cl : Cluster) (cause : LeaveCause), s0.inService cl.val = true → Sparse.wf s0.engines = true →
      Completes (.clusterLeaveService t cl cause) s fun u =>
        u.inService cl.val = false ∧
        u.fld (ENG_CL_STAT_cause cl.val) = (match cause with | .instructionMemory => 1 | .cacheTags => 2) ∧
        (∀ e, clusterOf e = cl.val → u.engine? e = none) ∧ (∀ e, clusterOf e ≠ cl.val → u.engine? e = s0.engine? e) ∧
        LogsOpen s0 u 236 cl.val ∧
        (∀ o : Output, s0.scanning o = true → ∃ x ∈ (u.out o).cycle.changes, x.kind = .clusters ∧ x.since = s0.now) ∧
        KeepsBlocks [.engines, .evt, .outs, .power] [ENG_CL_STAT 0, EVT_LOST, PWR_PD_STATE 0, RAY_SPAN_FAIL 0] s0 u

/-- A line that engines of the cluster wait for, and whose read its channel has accepted, arrives from DRAM with its 64
bytes; an unmapped line traps MAP, a double-bit error freezes and traps ECC, and during a freeze every fill traps ECC, in
each waiting engine. Unless the cluster's TLB holds it, a single-bit error of the room table entry is counted; a double-bit
error raises EV246, is latched, freezes and traps ECC (R117, R124, R201, R203, R204, R225, R244, R246). It rests on the
model's choices of assumption log 42, 193, 214 and 226. -/
def Obligations.ViewCacheFills : Prop :=
  ∀ (s : State) (t : Nat) (cl : Cluster) (line : CacheKey) (errs : List WordErr) (evict : Option CacheKey)
    (tbl : Option Bool), let s0 := s.advanceTo t
    let index := s0.lineIndex line
    let off := 64 * line.line
    s0.waiters cl.val line ≠ [] → s0.cacheLine? cl.val line = none → Sparse.wf s0.engines = true →
    mayRead cl.val line.space.val = true →
    (∀ u ∈ s0.lineUnit line, s0.fillAccepted (s0.unitChannel u) cl line = true) →
    (∀ a b, s0.phys? line.space.val off = some a → s0.phys? line.space.val (off + 63) = some b →
      s0.entryValid line.space.val (off / roomBytes) = true → s0.frozen = false →
      let c := s0.unitChannel (a / 64)
      s0.chState c = 2 → (s0.dch c).reads = [] → (s0.dch c).writes = [] → (s0.dch c).gran = none → s0.dram.bad = [] →
      tbl ≠ some true ∨ s0.tlbHit cl.val index = true →
      (hasDouble errs = false → Completes (.viewCacheFill t cl line errs evict tbl) s fun u =>
        u.fld INK_TBL_SEC_count =
          min (s0.fld INK_TBL_SEC_count + if tbl = some false ∧ s0.tlbHit cl.val index = false then 1 else 0) (2 ^ 32 - 1) ∧
        u.cacheLine? cl.val line = some (s0.memBytes a 64) ∧ u.dram.mem = s0.dram.mem ∧ u.tlbHit cl.val index = true ∧
        (u.dch c).fills = (s0.dch c).fills.erase (cl, line) ∧
        (∀ e g, e ∈ s0.waiters cl.val line → s0.engine? e = some g → u.engine? e = some { g with
          reqs := g.reqs.map fun r => { r with fill := r.fill || (s0.reqLines g.out r).contains line } }) ∧
        (∀ e, e ∉ s0.waiters cl.val line → u.engine? e = s0.engine? e) ∧
        (∀ k : Cluster, k ≠ cl → u.caches[k] = s0.caches[k]) ∧
        u.reg INK_FAULT_INFO = s0.reg INK_FAULT_INFO ∧
        KeepsBlocks [.caches, .dram, .engines, .evt, .fresh, .rooms] [DRC_CFG, EVT_LOST, INK_TBL_SEC] s0 u) ∧
      ∀ x, errs.find? (fun y => y.double) = some x → Completes (.viewCacheFill t cl line errs evict tbl) s fun u =>
        Frozen s0 1 c.val x.word.val cl.val x.syndrome.toNat (64 * (a / 64)) u ∧
        (∀ e ∈ s0.waiters cl.val line, u.engine? e = none) ∧
        ((∀ r ∈ s0.evt.pend, r.src ≠ cl.val) → ∃ r ∈ u.evt.pend, r.src = cl.val ∧ r.cause = 0xA) ∧ u.caches = s0.caches) ∧
    (s0.frozen = false → s0.tlbHit cl.val index = false → Completes (.viewCacheFill t cl line errs evict (some true)) s fun u =>
      (let v := (Config.free s0.fresh).toNat
       Frozen s0 4 (v % 8) (v / 8 % 8) cl.val (v / 64 % 256) (v / 2 ^ 14 % 2 ^ 37) u) ∧
      LogsOpen s0 u 246 (index % 2 ^ 17) ∧ LogsOpen s0 u 244 (index / 8192) ∧
      (s0.fld INK_FAULT_INFO_valid = 0 →
        u.reg INK_FAULT_INFO = BitVec.ofNat 32 (2 ^ 31 + 3 * 2 ^ 28 + line.space.val * 2 ^ 24 + cl.val * 2 ^ 16) ∧
        u.reg INK_FAULT_OFS_LO = BitVec.ofNat 32 off ∧ u.reg INK_FAULT_OFS_HI = BitVec.ofNat 32 (off / 2 ^ 32)) ∧
      (∀ e ∈ s0.waiters cl.val line, u.engine? e = none) ∧
      ((∀ r ∈ s0.evt.pend, r.src ≠ cl.val) → ∃ r ∈ u.evt.pend, r.src = cl.val ∧ r.cause = 0xA) ∧ u.caches = s0.caches) ∧
    (s0.phys? line.space.val off = none → Completes (.viewCacheFill t cl line errs evict none) s fun u =>
      (∀ e ∈ s0.waiters cl.val line, u.engine? e = none) ∧
      ((∀ r ∈ s0.evt.pend, r.src ≠ cl.val) → ∃ r ∈ u.evt.pend, r.src = cl.val ∧ r.cause = 0xC) ∧
      LogsOpen s0 u 242 (line.space.val * 2 ^ 24 + cl.val * 2 ^ 16) ∧ u.caches = s0.caches ∧ u.dram = s0.dram) ∧
    ((s0.phys? line.space.val off).isSome = true → (s0.phys? line.space.val (off + 63)).isSome = true →
      s0.entryValid line.space.val (off / roomBytes) = true → s0.frozen = true →
      Completes (.viewCacheFill t cl line errs evict none) s fun u =>
        (∀ e ∈ s0.waiters cl.val line, u.engine? e = none) ∧
        ((∀ r ∈ s0.evt.pend, r.src ≠ cl.val) → ∃ r ∈ u.evt.pend, r.src = cl.val ∧ r.cause = 0xA) ∧ u.caches = s0.caches ∧ u.dram = s0.dram)

/-! ### Codec units and the blitter -/

/-- The oldest class B entry goes to the lowest-numbered free codec unit once its header can be read: the leg's checks in
their order, each with its code and EV032 + u, before any pixel; a leg that passes claims its views and bands and decodes
from a fresh start or from the record it continues. A header in no mapped room ends the leg with MAP; a unit that must wait
for its reads takes nothing (R132, R159–R163, R169, R170, R177, R191, R192, R203, R212). A stalled unit goes on where it
stands; a leg with all pixels out completes once its record can be written: the record becomes its chain's pending one and
stands in the chain's room of CTX, the unit is free with outcome 0 and the leg is done; an aborted unit is free when it has
drained (R160, R165, R167, R172, R195). It rests on the model's choices of assumption log 56, 66, 67, 68, 69, 201, 202 and
203. -/
def Obligations.LegDecoding : Prop :=
  (∀ (s : State) (t : Nat) (u : CodecUnit) (lim : Option DecodeLimit) (n : Nat) (x : LegItem) (s1 : State),
     let s0 := s.advanceTo t
     let h0 := parseLegHeader (s1.itemBytes x 0 64)
     let h := s1.substitute x h0
     let code : Option Nat :=
       (checkBundle x h0).or <| (s1.checkForm x h).or <| if s1.seenLeg h then some 0x13 else s1.checkChain x h
     let fails (h : LegHeader) (c : Nat) (v : State) : Prop :=
       (v.codec u).leg = none ∧ v.fld (CDC_U_STAT_busy u.val) = 0 ∧ v.reg (CDC_U_LEG u.val) = h.legId ∧
         v.fld (CDC_U_STAT_chain u.val) = h.chain % 4096 ∧ v.fld (CDC_U_STAT_last_outcome u.val) = c % 2 ^ 8 ∧
         Logs s1 v (32 + u.val) c h.legId.toNat ∧ (∀ l ∈ (v.out x.out).cycle.legs, l.item = n → l.outcome = some c) ∧
         (v.out x.out).cycle.claims = (s0.out x.out).cycle.claims ∧ v.dram = s1.dram
     let frame (v : State) : Prop :=
       (∀ m, m ∈ v.porter.qb ↔ m ∈ s0.porter.qb ∧ m ≠ n) ∧ (∀ k : CodecUnit, k ≠ u → v.codec k = s0.codec k) ∧
         KeepsBlocks ([.codecs, .outs, .power] ++ accessParts) (CDC_U_STAT 0 :: accessBlocks) s0 v
     s0.frozen = false → s0.lowestUnit (fun _ => true) = some u → leastOf s0.porter.qb = some n → s0.item? n = some x →
     (s0.transact (rqCodec u) (s0.dispatchReads x) = (.wait, s1) → Completes (.legDispatch t u lim) s fun v => v = s1) ∧
     (s0.transact (rqCodec u) (s0.dispatchReads x) = (.refused, s1) → Completes (.legDispatch t u lim) s fun v =>
       fails h 0x26 v ∧ frame v) ∧
     (s0.transact (rqCodec u) (s0.dispatchReads x) = (.done, s1) → Completes (.legDispatch t u lim) s fun v =>
       (∀ c, code = some c → fails h c v) ∧
       (code = none →
         let start := if legFresh h then none else (s1.chain h.chain).start? h
         let dec : DecState := { recent := (start.map (·.recent)).getD freshRecent, hist := (start.map (·.hist)).getD {} }
         let run : LegRun := { item := n, hdr := h, playback := x.stock, dec }
         v.reg (CDC_U_LEG u.val) = h.legId ∧ v.fld (CDC_U_STAT_chain u.val) = h.chain % 4096 ∧
         (∃ s2, Keeps [.codecs, .outs, .porter] [CDC_U_STAT u.val, CDC_U_LEG u.val] s1 s2 ∧ (s2.codec u).leg = some run ∧
           Decoded u x run lim s2 v) ∧
         (v.out x.out).cycle.claims = (s0.out x.out).cycle.claims ++ legClaims h ∧
         (v.out x.out).cycle.seen = (s0.out x.out).cycle.seen ++ [(h.chain, h.serial)]) ∧ frame v)) ∧
  (∀ (s : State) (t : Nat) (u : CodecUnit), let s0 := s.advanceTo t
     (∀ (lim : Option DecodeLimit) (r : LegRun) (x : LegItem), s0.frozen = false → (s0.codec u).leg = some r →
       r.finished = false → s0.item? r.item = some x → Completes (.codecStallResume t u lim) s fun v =>
         Decoded u x r lim s0 v ∧ (∀ k : CodecUnit, k ≠ u → v.codec k = s0.codec k) ∧
         KeepsBlocks ([.codecs, .outs, .power] ++ accessParts) (CDC_U_STAT 0 :: accessBlocks) s0 v) ∧
     (∀ (r : LegRun) (s1 : State), let k := r.hdr.chain
       s0.frozen = false → (s0.codec u).leg = some r → r.finished = true → s0.pastB (Fin.ofNat 4 r.hdr.output) = false →
       s0.transact (rqCodec u) (s0.ctxWrite k) = (.done, s1) →
       Completes (.legComplete t u none) s fun v =>
         (v.chain k).pend = some (ctxOf r) ∧ (v.chain k).cur = (s0.chain k).cur ∧
         (v.chain k).prev = (s0.chain k).prev ∧ (∀ j, j ≠ k → v.chain j = s0.chain j) ∧
         ((∀ y ∈ ctxOf r :: (s0.chain k).records, (ctxBytes k y).length = 4096) →
           (∀ p, s0.phys? spCTX (ctxSlot k 2) = some p → v.memBytes p 4096 = ctxBytes k (ctxOf r)) ∧
           ∀ a, (∀ slot p i, slot < 3 → s0.phys? spCTX (ctxSlot k slot) = some p → i < 4096 → a ≠ p + i) →
             v.memByte a = s0.memByte a) ∧
         (v.codec u).leg = none ∧ v.fld (CDC_U_STAT_busy u.val) = 0 ∧ v.fld (CDC_U_STAT_last_outcome u.val) = 0 ∧
         v.fld (CDC_U_DONE_count u.val) = min (s0.fld (CDC_U_DONE_count u.val) + 1) (2 ^ 32 - 1) ∧
         (∀ o : Output, r.hdr.output = o.val →
           (∀ l ∈ (v.out o).cycle.legs, l.item = r.item → l.done = true) ∧ ∀ k : Output, k ≠ o → v.out k = s0.out k) ∧
         (∀ k : CodecUnit, k ≠ u → v.codec k = s0.codec k) ∧
         KeepsBlocks ([.chains, .codecs, .outs, .power] ++ accessParts) (CDC_U_STAT 0 :: accessBlocks) s0 v) ∧
     ((s0.codec u).draining = true → Completes (.unitFreeAfterAbort t (.codec u)) s fun v =>
       (v.codec u).draining = false ∧ v.fld (CDC_U_STAT_busy u.val) = 0 ∧
       v.fld (CDC_U_STAT_last_outcome u.val) = s0.fld (CDC_U_STAT_last_outcome u.val) ∧
       (∀ k : CodecUnit, k ≠ u → v.codec k = s0.codec k) ∧
       KeepsBlocks [.codecs, .evt, .power] [CDC_U_STAT 0, EVT_LOST, PWR_PD_STATE 0] s0 v) ∧
     (s0.blt.draining = true → Completes (.unitFreeAfterAbort t .blitter) s fun v =>
       v.blt = { s0.blt with draining := false } ∧ v.fld BLT_STAT_busy = 0 ∧
       KeepsBlocks [.blt, .evt, .power] [BLT_STAT, EVT_LOST, PWR_PD_STATE 0] s0 v))

/-- Class C: with no class B entry ready, the lowest-numbered free encode-enabled unit takes the entry of the lowest
counter, row and port that ends in time; what is new of the encoder's blocks, which decode to the leg's rows, goes up in an
item with the header of R178, the trailer with the last pixel, and for want of VC2 credit the unit stalls. Beyond the port's
allocation the leg ends in an abort with code 0x30 (R178–R182, R191, R315, R332). It rests on the model's choices of
assumption log 61, 62 and 204. -/
def Obligations.CaptureEncoding : Prop :=
  ∀ (s : State) (t : Nat) (u : CodecUnit) (x : CapLeg), let s0 := s.advanceTo t
    let c := s0.camRec x.port
    s0.frozen = false →
    (s0.porter.qb = [] → s0.lowestUnit s0.mayEncode = some u → s0.mayEncode u = true →
      firstCap (s0.porter.qc.filter s0.encodeFits) = some x → Completes (.captureEncodeStart t u) s fun v =>
        (v.codec u).cap = some x ∧ (v.codec u).sent = {} ∧ x ∈ s0.porter.qc ∧ s0.encodeFits x = true ∧
        (∀ y ∈ s0.porter.qc, s0.encodeFits y = true → capBefore y x = false) ∧
        (∀ y, y ∈ v.porter.qc ↔ y ∈ s0.porter.qc ∧ y ≠ x) ∧ v.fld (CDC_U_STAT_busy u.val) = 1 ∧
        v.fld (CDC_U_STAT_enc u.val) = 1 ∧ v.fld (CDC_U_STAT_chain u.val) = c.chain % 4096 ∧
        (∀ k : CodecUnit, k ≠ u → v.codec k = s0.codec k) ∧
        Keeps [.codecs, .porter, .fresh] [CDC_U_STAT u.val, CDC_U_LEG u.val] s0 v) ∧
    ∀ (blocks : Bytes) (count pixels : Nat), let sent := (s0.codec u).sent
      let whole := decide (pixels = x.rows * capWidth c)
      let part := (if sent.bytes = 0 then legHeaderBytes (capHeader c x (s0.reg (CDC_U_LEG u.val))) else []) ++
        blocks.drop sent.body.length ++ (if whole then toLe 4 blocks.length ++ toLe 4 count else [])
      let blocked := s0.chainOpen u c.chain = true ∨ (s0.hopUsed .up = true ∧ s0.ownCredit part.length = false)
      (s0.codec u).cap = some x → s0.encoded x blocks count = some pixels → s0.pastCD (s0.camOutput x.port) = false →
      blocks.take sent.body.length = sent.body →
      (blocks.length + 72 ≤ c.alloc → blocked → Completes (.captureLegComplete t u blocks count) s fun v =>
        v.fld (CDC_U_STAT_stall u.val) = 2 ∧ Keeps [] [CDC_U_STAT u.val] s0 v) ∧
      (blocks.length + 72 ≤ c.alloc → ¬ blocked →
        s0.mustPay 2 = false ∨ encodeCost ((pixels - sent.pixels) * bppOf c.outFormat) part.length ≤ s0.tokens 2 →
        Completes (.captureLegComplete t u blocks count) s fun v =>
        v.fld (CDC_U_STAT_stall u.val) = 0 ∧
        (s0.hopUsed .up = true → v.link.txUp.q2own = s0.link.txUp.q2own ++
          fragments 0x40 c.chain s0.tileId whole (part.length / 9216 + 1) sent.bytes part) ∧
        (whole = true → (v.codec u).cap = none ∧ v.fld (CDC_U_STAT_busy u.val) = 0 ∧
          v.fld (CDC_U_STAT_last_outcome u.val) = 0 ∧
          v.fld (CDC_U_DONE_count u.val) = min (s0.fld (CDC_U_DONE_count u.val) + 1) (2 ^ 32 - 1)) ∧
        (whole = false → v.codec u = { s0.codec u with sent := ⟨sent.bytes + part.length, pixels, blocks⟩ }) ∧
        (∀ k : CodecUnit, k ≠ u → v.codec k = s0.codec k) ∧ (∀ p : Port, p ≠ x.port → v.cam p = s0.cam p) ∧
        KeepsBlocks [.cams, .codecs, .link, .porter, .power] [CDC_U_STAT 0] s0 v) ∧
      (c.alloc < blocks.length + 72 → Completes (.captureLegComplete t u blocks count) s fun v =>
        (v.codec u).cap = none ∧ v.fld (CDC_U_STAT_busy u.val) = 0 ∧ v.fld (CDC_U_STAT_last_outcome u.val) = 0x30 ∧
        Logs s0 v (32 + u.val) 0x30 (s0.reg (CDC_U_LEG u.val)).toNat ∧
        (s0.hopUsed .up = true → v.link.txUp.q2own = s0.link.txUp.q2own ++
          [wagonBytes 0x41 2 (15 + 16 * s0.tileId) 3 12 0 c.chain
            (toLe 2 c.chain ++ toLe 1 x.port.val ++ toLe 1 0x30 ++ toLe 4 x.gen.toNat ++ toLe 2 x.row ++ [0, 0])]) ∧
        (∀ p : Port, p ≠ x.port → v.cam p = s0.cam p) ∧
        KeepsBlocks [.cams, .codecs, .evt, .link, .power] [CDC_U_STAT 0, EVT_LOST] s0 v)

/-- The free blitter takes an output's oldest overlay list, once it can be read, and, when none of its lists waits, its
card: a header that breaks its rules is cause 1, and the first command is checked before it runs (R191, R192, R398–R401,
R407, R408, R412). Once its transactions have had their time and their tokens, before the cutoff of class D, a command draws
on the back buffer of its list's plane, element by element, and changes no byte but those of its rectangle's pixels; a
filled rectangle holds the colour in the destination's format; the list then stands before its next command (R192, R399,
R400, R402–R407, R409, R410). It rests on the model's choices of assumption log 13, 60 and 220. -/
def Obligations.Blits : Prop :=
  (∀ (s : State) (t : Nat) (o : Output), let s0 := s.advanceTo t
     let frame := KeepsBlocks ([.blt, .outs, .power] ++ accessParts) (BLT_STAT :: accessBlocks) s0
     let lists := s0.porter.qd.filterMap fun w => match w with | .list k n => if k = o then some n else none | _ => none
     s0.blitFree = true →
     (∀ (n : Nat) (x : LegItem) (s1 : State), leastOf lists = some n → s0.item? n = some x →
       s0.transact rqBlitter (s0.itemXacts x 0 x.got false) = (.done, s1) →
       let b := s0.itemBytes x 0 x.got
       Completes (.overlayListDispatch t o none) s fun v =>
         (∀ w, w ∈ v.porter.qd ↔ w ∈ s0.porter.qd ∧ w ≠ .list o n) ∧ v.fld BLT_STAT_output = o.val ∧
         (listHeaderOk o b.length b = false → Abandoned o (leAt b 4 1 % 4) false 0 0 s1 v) ∧
         (listHeaderOk o b.length b = true →
           ListStands ⟨o, leAt b 4 1, false, x.offset, b.length, listCmds b, 0, 0⟩ s1 v) ∧ frame v) ∧
     (lists = [] → ClassD.card o ∈ s0.porter.qd →
       let r := s0.cardRec o
       Completes (.staticCardRender t o none) s fun v =>
         (∀ w, w ∈ v.porter.qd ↔ w ∈ s0.porter.qd ∧ w ≠ .card o) ∧ v.fld BLT_STAT_card = 1 ∧
         v.fld BLT_STAT_output = o.val ∧
         (listHeaderOk o r.list.length r.list = false → Abandoned o (r.plane % 4) true 0 0 s0 v) ∧
         (listHeaderOk o r.list.length r.list = true →
           ListStands ⟨o, r.plane % 4, true, 0, r.list.length, listCmds r.list, 0, 0⟩ s0 v) ∧ frame v)) ∧
  (∀ (s : State) (t : Nat) (r : ListRun) (c : BlitCmd) (s1 : State), let s0 := s.advanceTo t
     let buf := 1 - s0.frontBuf r.out r.plane
     let p := s0.blitPlace r.out r.plane buf r.base c
     let n := fmtBytes c.dfmt
     let pixel (x y : Nat) : Nat := p.dst + c.doffset + y * c.dpitch + x * n
     s0.frozen = false → s0.blt.run = some r → s0.blt.draining = false → r.cmds[r.index]? = some c →
     s0.pastCD r.out = false → s0.elapsed r.since (edgesNs (s0.blitCycles r.out r.plane buf r.base c)) = true →
     s0.transact rqBlitter (s0.blitXacts r.out r.plane buf r.base c) = (.done, s1) →
     ∀ cmd, (c.op, cmd) ∈ [(1, Instr.copy t), (2, .fill t), (3, .blend t), (4, .key t), (5, .glyph t)] →
       Completes cmd s fun v =>
         v.dram.mem = (s1.runElements p c).dram.mem ∧
         (∀ a, (∀ x y i, x < c.width → y < c.height → i < n → a ≠ pixel x y + i) → v.memByte a = s0.memByte a) ∧
         (c.op = 2 → c.dfmt < 4 → rowBytes c.dfmt c.width ≤ c.dpitch → ∀ x y, x < c.width → y < c.height →
           leNat (v.memBytes (pixel x y) n) = colourAs c.dfmt c.colour.toNat % 2 ^ (8 * n)) ∧
         v.blt.draining = false ∧ ListStands { r with index := r.index + 1 } s1 v ∧
         KeepsBlocks ([.blt, .outs, .power] ++ accessParts) (BLT_STAT :: accessBlocks) s0 v)

/-! ### Scan-out and panels -/

/-- A line slot: on an active line every channel sends that line's packet, with background from its first subpixel without a
valid span on, counted as an underrun, and the row sent before is latched; in a blank line a LOAD follows the last active
line, idle symbols otherwise; a power-off that waited for the line begins (R253–R261, R266–R273, R288). It rests on the
model's choices of assumption log 27, 96, 137 and 208. -/
def Obligations.LineSlots : Prop :=
  ∀ (s : State) (t : Nat) (o : Output) (line : Nat) (echo : List (Fin 256)), let s0 := s.advanceTo t
    let c := (s0.out o).scan
    let b := (s0.outRec o).blank
    let frame := KeepsBlocks [.energy, .engines, .evt, .fresh, .outs, .porter]
      [EVT_LOST, PNL_OUT_STAT 0, PNL_ECHO_ERR 0, RAY_SPAN_FAIL 0, SCN_UNDR_TOTAL 0] s0
    c.line = line → line ≤ s0.frameLines o → s0.lineReached o line = true →
    (s0.panelSeq o = 2 → s0.panelStep o = 0 → Completes (.lineSlotStart t o line echo none) s fun u =>
      (u.out o).scan.line = line + 1 ∧ u.panelStep o = 1 ∧ u.fld (PNL_OUT_STAT_xon o.val) = 1 ∧
      (∀ k ∈ s0.channelsOf o, u.sends o k = .discharge (dischargePacket (s0.startsOut8 o))) ∧
      Keeps [.outs] [PNL_OUT_STAT o.val] s0 u) ∧
    (s0.panelSeq o ≠ 2 → s0.scanning o = true → (s0.out o).cycle.ticked = true →
      (b ≤ line → line < s0.frameLines o → Completes (.lineSlotStart t o line echo none) s fun u =>
        let y := line - b
        let under := (List.range (s0.outRec o).chCount).filter fun k => (s0.underrunAt o k y).isSome
        (u.out o).scan.line = line + 1 ∧
        (∀ k, k < (s0.outRec o).chCount →
          u.sends o ((s0.outRec o).chFirst + k) = .line c.rows.sent.isSome (s0.linePacket o k y)) ∧
        u.fld (SCN_UNDR_TOTAL_count o.val) = min (s0.fld (SCN_UNDR_TOTAL_count o.val) + under.length) (2 ^ 32 - 1) ∧
        (u.out o).scan.underruns = c.underruns + under.length ∧
        (∃ r, (u.out o).scan.rows.sent = some r ∧ r.y = y ∧ r.pol = s0.polarity o 0 y) ∧
        (∀ r, c.rows.sent = some r → (u.out o).scan.rows.pol = r.pol ∧
          (r.y % max 1 r.phases, s0.timeNs + r.rise, s0.timeNs + r.rise + r.width) ∈ (u.out o).scan.rows.pulses) ∧
        (y % 8 = 0 → (∀ e g, u.engine? e = some g → ¬ (g.out = o ∧ g.y0 = y)) ∧
          ∀ x ∈ u.porter.qa, ¬ (x.out = o ∧ x.y = y)) ∧
        (echo.Nodup → ∀ k ∈ echo, k.val ∈ s0.channelsOf o →
          u.fld (PNL_ECHO_ERR_count k.val) = min (s0.fld (PNL_ECHO_ERR_count k.val) + 1) (2 ^ 32 - 1)) ∧
        (∀ k : Output, k ≠ o → u.out k = s0.out k) ∧ frame u) ∧
      (line < b ∨ line = s0.frameLines o → Completes (.lineSlotStart t o line echo none) s fun u =>
        (∀ k ∈ s0.channelsOf o, u.sends o k = if c.rows.sent.isSome then .load else .idle) ∧
        (u.out o).scan.line = line + 1 ∧ (u.out o).scan.rows.sent = none ∧ Keeps [.outs] [] s0 u))

/-- Power-on: each rail is enabled once the one before reads in its window, AVDD, VGL, VGH, VCOM, then training; CD_READY or
time leads on to discharge with XON high, idle, and scanning from the next grid instant with EV148 code 1; a rail out of
time raises EV144 + o, CD_READY out of time EV149, and the power-off begins (R265, R285, R287, R293). It rests on the
model's choices of assumption log 133. -/
def Obligations.PanelPowerOn : Prop :=
  ∀ (s : State) (t : Nat) (o : Output), let s0 := s.advanceTo t
    let k := s0.panelStep o
    let p := s0.panelRec o
    let here (u : State) : Prop := ∀ q : Output, q ≠ o → u.out q = s0.out q
    let off := KeepsBlocks [.cams, .evt, .outs] [EVT_LOST, PNL_OUT_STAT 0, SCN_OUT_STAT 0] s0
    s0.panelSeq o = 1 →
    (∀ mv : RailMv, 1 ≤ k → k ≤ 4 → (s0.railRec o (onRail k)).inWindow (railOf mv (onRail k)) = true →
      Completes (.railWaitDone t o mv) s fun u =>
        u.panelStep o = k + 1 ∧ (u.out o).scan.stepAt = s0.now ∧ u.readsRails o mv ∧
        (k < 4 → u.railIs o (onRail (k + 1)) true) ∧
        (k = 4 → ∀ c ∈ s0.channelsOf o, u.sends o c = .train (trainPacket (s0.startsOut8 o) (s0.perChannel o))) ∧
        (k = 3 → u.fld (PNL_VCOM_ADJ_duty o.val) = (s0.bandNow o).vcomDuty % 2 ^ 12) ∧ here u ∧
        Keeps [.outs] [PNL_OUT_STAT o.val, PNL_RAIL_A o.val, PNL_RAIL_B o.val, PNL_VCOM_ADJ o.val] s0 u) ∧
    (∀ mv : RailMv, 1 ≤ k → k ≤ 4 → (s0.railRec o (onRail k)).inWindow (railOf mv (onRail k)) = false →
      s0.stepOver o (edgesMs (s0.railRec o (onRail k)).timeoutMs) = true → s0.panelState o = 1 →
      Completes (.railTimeout t o mv) s fun u =>
        LogsOpen s0 u (144 + o.val) (onRail k * 2 ^ 28 + k * 2 ^ 24 + patternOf 16 (railOf mv (onRail k))) ∧
        LogsOpen s0 u 148 (o.val * 2 ^ 30 + 2) ∧ u.readsRails o mv ∧ OffBegins o s0 u ∧ here u ∧ off u) ∧
    (k = 5 → p.cdReady = true → s0.stepOver o trainEdges = true → Completes (.cdReadyRise t o) s fun u =>
      u.fld (PNL_OUT_STAT_cd_ready o.val) = 1 ∧ u.panelStep o = 6 ∧ u.fld (PNL_OUT_STAT_xon o.val) = 1 ∧
      (∀ c ∈ s0.channelsOf o, u.sends o c = .discharge (dischargePacket (s0.startsOut8 o))) ∧ here u ∧
      Keeps [.outs] [PNL_OUT_STAT o.val] s0 u) ∧
    (k = 5 → p.cdReady = true → s0.fld (PNL_OUT_STAT_cd_ready o.val) = 0 →
      s0.stepOver o (trainEdges + edgesMs 10) = true → s0.panelState o = 1 → Completes (.cdReadyTimeout t o) s fun u =>
        LogsOpen s0 u 149 (o.val * 2 ^ 30) ∧ LogsOpen s0 u 148 (o.val * 2 ^ 30 + 2) ∧ OffBegins o s0 u ∧ here u ∧ off u) ∧
    (k = 5 → p.cdReady = false ∨ s0.fld (PNL_OUT_STAT_cd_ready o.val) = 1 → s0.stepOver o trainEdges = true →
      Completes (.panelSequenceTimeExpiry t o) s fun u => u.panelStep o = 6 ∧ u.fld (PNL_OUT_STAT_xon o.val) = 1 ∧
        Keeps [.outs] [PNL_OUT_STAT o.val] s0 u) ∧
    (k = 6 → s0.stepOver o (edgesMs p.clearMs) = true → Completes (.panelSequenceTimeExpiry t o) s fun u =>
      u.panelStep o = 7 ∧ u.fld (PNL_OUT_STAT_xon o.val) = 0 ∧ (∀ c ∈ s0.channelsOf o, u.sends o c = .idle) ∧
      Keeps [.outs] [PNL_OUT_STAT o.val] s0 u) ∧
    (k = 7 → s0.stepOver o (edgesMs 1) = true → Completes (.panelSequenceTimeExpiry t o) s fun u =>
      u.scanning o = true ∧ u.panelSeq o = 0 ∧ u.panelStep o = 0 ∧ u.fld (SCN_OUT_STAT_m o.val) = 1 ∧
      (u.out o).cycle.ticked = false ∧
      (u.out o).cycle.nextTick = gridFrom s0.timeNs (s0.periodNs o) (s0.outRec o).phase ∧
      LogsOpen s0 u 148 (o.val * 2 ^ 30 + 1) ∧ here u ∧
      Keeps [.outs, .evt] [PNL_OUT_STAT o.val, SCN_OUT_STAT o.val, EVT_LOST] s0 u)

/-- Power-off: after clear_time VGH, then VGL and VCOM with XON low, then AVDD go off, each once the rails before have
fallen or their time is out with EV144 + o, and the output is unpowered with EV148 code 3; the abrupt sequence counts its
times from the trigger and ends with code 5; a freeze held too long powers every output off (R247, R288, R289, R292). Abrupt
loss: every powered output begins the abrupt sequence at once, with DISCHARGE packets and XON high where an orderly one had
not done so yet; domains 0–38 and 43–46 go off; a kept snapshot is requested, before which no reset takes effect; a second
loss changes nothing (R289, R291, R432, R485). It rests on the model's choices of assumption log 136. -/
def Obligations.PanelPowerOff : Prop :=
  (∀ (s : State) (t : Nat) (o : Output), let s0 := s.advanceTo t
     let k := s0.panelStep o
     let p := s0.panelRec o
     let gone (k : Nat) (u : State) : Prop := match k with
       | 2 => u.railIs o 1 false
       | 3 => u.railIs o 2 false ∧ u.railIs o 3 false ∧ u.fld (PNL_OUT_STAT_xon o.val) = 0
       | _ => u.railIs o 0 false
     let step := Keeps [.outs] [PNL_OUT_STAT o.val, PNL_RAIL_A o.val, PNL_RAIL_B o.val] s0
     let last := KeepsBlocks [.outs, .evt] [PNL_OUT_STAT 0, SCN_OUT_STAT 0, PTR_OUT_PERIOD 0, EVT_LOST] s0
     s0.boot.waiting = none →
     (s0.panelSeq o = 2 →
       (k = 1 → s0.stepOver o (edgesMs p.clearMs) = true → Completes (.panelSequenceTimeExpiry t o) s fun u =>
         u.panelStep o = 2 ∧ gone 2 u ∧ step u) ∧
       ∀ mv : RailMv, 2 ≤ k → k ≤ 4 →
         let low := ∀ r ∈ (s0.offWait o k).1, (s0.railRec o r).isOff (railOf mv r) = true
         (low → s0.stepOver o (s0.offWait o k).2.1 = true →
           (k < 4 → Completes (.railWaitDone t o mv) s fun u =>
             u.panelStep o = k + 1 ∧ gone (k + 1) u ∧ u.readsRails o mv ∧ step u) ∧
           (k = 4 → Completes (.railWaitDone t o mv) s fun u => Unpowered o 3 s0 u ∧ last u)) ∧
         (¬ low → s0.stepOver o (s0.offWait o k).2.2 = true → Completes (.railTimeout t o mv) s fun u =>
           (∃ r ∈ (s0.offWait o k).1, LogsOpen s0 u (144 + o.val) (r * 2 ^ 28 + k * 2 ^ 24 + patternOf 16 (railOf mv r))) ∧
           (k < 4 → u.panelStep o = k + 1 ∧ gone (k + 1) u) ∧ (k = 4 → Unpowered o 3 s0 u) ∧ last u)) ∧
     (s0.panelSeq o = 3 →
       (k = 1 → s0.stepOver o (edgesUs p.tEq) = true → Completes (.panelSequenceTimeExpiry t o) s fun u =>
         u.panelStep o = 3 ∧ u.railIs o 1 false ∧ Keeps [] [PNL_OUT_STAT o.val] s0 u) ∧
       (k = 3 → s0.stepOver o (edgesUs (p.tEq + p.tGh)) = true → Completes (.panelSequenceTimeExpiry t o) s fun u =>
         u.panelStep o = 4 ∧ gone 3 u ∧ Keeps [] [PNL_OUT_STAT o.val] s0 u) ∧
       (k = 4 → s0.stepOver o (edgesUs (p.tEq + p.tGh + p.tGl)) = true →
         Completes (.panelSequenceTimeExpiry t o) s fun u => Unpowered o 5 s0 u ∧ last u)) ∧
     ∀ t0, s0.dram.frozenAt = some t0 → s0.dram.held = false → (∀ x ∈ s0.therm.steps, ∃ l, x.kind = .throttle l) →
       s0.elapsed t0 (edgesS (if s0.fld DRC_FREEZE_HOLD_hold_s = 0 then 5 else s0.fld DRC_FREEZE_HOLD_hold_s)) = true →
       Completes (.freezePanelHoldExpiry t) s fun u =>
         u.dram = { s0.dram with held := true } ∧
         (∀ q : Output, s0.panelState q ≠ 0 → s0.panelSeq q < 2 → OffBegins q s0 u) ∧
         (∀ q : Output, s0.panelState q = 0 ∨ 2 ≤ s0.panelSeq q → (u.out q).scan = (s0.out q).scan ∧
           u.panelSeq q = s0.panelSeq q ∧ u.panelStep q = s0.panelStep q ∧ u.panelState q = s0.panelState q) ∧
         KeepsBlocks [.cams, .dram, .evt, .outs, .therm] [ENG_CLOCK, EVT_LOST, PNL_OUT_STAT 0, SCN_OUT_STAT 0, THM_STATE] s0 u) ∧
  (∀ (s : State) (t : Nat) (trigger : LossTrigger), let s0 := s.advanceTo t
     (s0.power.lossAt = none → Completes (.abruptLoss t trigger) s fun u =>
       u.power.lossAt = some s0.now ∧ u.boot = { s0.boot with phase := .poweredDown, waiting := some .afterSnapshot } ∧
       (∀ o : Output, s0.panelState o ≠ 0 → s0.panelSeq o ≠ 3 →
         u.panelSeq o = 3 ∧ u.panelState o = 3 ∧ u.panelStep o = 1 ∧ (u.out o).scan.stepAt = s0.now ∧
         (s0.panelSeq o ≠ 2 ∨ s0.panelStep o = 0 → u.fld (PNL_OUT_STAT_xon o.val) = 1 ∧
           ∀ k ∈ s0.channelsOf o, u.sends o k = .discharge (dischargePacket (s0.startsOut8 o)))) ∧
       (∀ pd, pd < 39 ∨ 43 ≤ pd ∧ pd ≤ 46 → u.pd pd = 0) ∧ (∀ pd, 39 ≤ pd → pd < 43 → u.pd pd = s0.pd pd) ∧
       u.engines = s0.engines.filter (fun (e, _) => decide (32 ≤ e / 16)) ∧ (∀ k : CodecUnit, u.codec k = {}) ∧
       u.blt = {} ∧ u.dram.mem = [] ∧ u.fld PWR_BRACE_active = 0 ∧
       (s0.sbx.queued = none → u.sbx.queued = some { kind := 4, code := 0 }) ∧
       u.rooms = s0.rooms ∧ u.chains = s0.chains ∧ u.therm = { s0.therm with steps := u.therm.steps } ∧ u.clock = s0.clock) ∧
     (s0.power.lossAt ≠ none → Completes (.abruptLoss t trigger) s fun u => u = s0))

/-! ### The Caravan link -/

/-- The injection registers and lane tests: a marked CRC goes with the next sequenced wagon of the group; a generator
inverts the bit that it sends now; a slip takes a locked lane's lock and its hop down, else it is counted; a PRBS mode
starts the pattern and the error count anew and takes an up hop down; a checker's errors raise cause 6 (R301, R306, R310,
R125). Lanes: the eighth low figure of merit in a row raises EV064 + lane cause 1, again only after one of FOM_MIN + 16; a
lane that loses lock raises cause 3 or 2 and takes its up hop down, or starts its bring-up over (R299, R300, R306, R310). A
wagon on the lanes of a group: byte j stands where R304 puts it, every 16,384th row is a marker row of the group, and the
rows from its START row on give the wagon back (R302–R305). It rests on the model's choices of assumption log 91, 210 and
225. -/
def Obligations.Lanes : Prop :=
  (∀ (s : State) (t : Nat) (p : Path) (lane : Lane), let s0 := s.advanceTo t
     let n := lane.val
     let h := laneHop n
     let path (parts : List Part) (addrs : List Nat) := Keeps (parts ++ pathParts p) (addrs ++ pathAddrs p) s0
     s0.writesOn p →
     (s0.grants LNK_INJECT →
       (Completes (.crcDn t p) s fun u => u.link = { s0.link with txDn := { s0.link.txDn with corrupt := true } } ∧ path [.link] [] u) ∧
       (Completes (.crcUp t p) s fun u => u.link = { s0.link with txUp := { s0.link.txUp with corrupt := true } } ∧ path [.link] [] u)) ∧
     (s0.grants (LPH_PRBS n) → isRxLane n = false → Completes (.injectOne t p lane) s fun u =>
       (s0.fld (LPH_PRBS_mode n) = 0 → (u.link.lanes.get lane).inverted = (s0.link.lanes.get lane).inverted ++
         [s0.unitsIn (s0.now - (s0.link.lanes.get lane).prbsAt)] ∧ path [.link] [] u) ∧
       (s0.fld (LPH_PRBS_mode n) ≠ 0 →
         (u.link.lanes.get lane).prbsAt = s0.now ∧ (u.link.lanes.get lane).inverted = [0]) ∧
       (∀ k : Lane, k ≠ lane → u.link.lanes.get k = s0.link.lanes.get k) ∧ u.reg (LPH_PRBS n) = s0.reg (LPH_PRBS n)) ∧
     (s0.grants (LPH_SLIP n) → isRxLane n = true →
       (s0.fld (LPH_STAT_block_lock n) = 1 → Completes (.slip t p lane) s fun u =>
         u.fld (LPH_STAT_block_lock n) = 0 ∧ Logs s0 u (64 + n) 3 (3 * 2 ^ 24 + s0.fld (LPH_STAT_fom n)) ∧
         (s0.hopState h = 2 → HopFalls h s0 u)) ∧
       (s0.fld (LPH_STAT_block_lock n) = 0 → Completes (.slip t p lane) s fun u =>
         u.fld (LPH_SLIP_slips n) = min (s0.fld (LPH_SLIP_slips n) + 1) (2 ^ 16 - 1) ∧ path [] [LPH_SLIP n] u)) ∧
     (s0.grants (LPH_PRBS n) → ∀ v : Word, Completes (.prbsTestEnable t p lane v) s fun u =>
       u.fld (LPH_PRBS_mode n) = bits v.toNat 31 30 ∧ u.fld (LPH_PRBS_inject_k n) = bits v.toNat 4 0 ∧
       (bits v.toNat 31 30 ≠ 0 → u.fld (LPH_PRBS_ERR_count n) = 0 ∧ (u.link.lanes.get lane).prbsAt = s0.now ∧
         (v.getLsbD 8 = false → (u.link.lanes.get lane).inverted = [])) ∧
       (bits v.toNat 31 30 ≠ 0 → s0.hopState h = 2 → HopFalls h s0 u) ∧
       (bits v.toNat 31 30 = 0 → v.getLsbD 8 = false → path [] [LPH_PRBS n] u)) ∧
     (∀ k, isRxLane n = true → s0.fld (LPH_PRBS_mode n) ≠ 0 → 0 < k → Completes (.prbsErrorSecond t lane k) s fun u =>
       u.fld (LPH_PRBS_ERR_count n) = min (s0.fld (LPH_PRBS_ERR_count n) + k) (2 ^ 32 - 1) ∧
       Logs s0 u (64 + n) 6 (6 * 2 ^ 24 + s0.fld (LPH_STAT_fom n)) ∧ Keeps [.evt] [LPH_PRBS_ERR n, EVT_LOST] s0 u) ∧
     ∀ o : Output, s0.grants (ENG_SPAN_PEAK o.val) → Completes (.peakClear t p o) s fun u =>
       u.fld (ENG_SPAN_PEAK_peak o.val) = 0 ∧ path [] [ENG_SPAN_PEAK o.val] u) ∧
  (∀ (s : State) (t : Nat) (lane : Lane), let s0 := s.advanceTo t
     let n := lane.val
     let h := laneHop n
     let a := s0.link.lanes.get lane
     isRxLane n = true →
     (∀ (fom : Byte) (ctle : BitVec 4), s0.hopState h ≠ 0 → Completes (.laneFomUpdate t lane fom ctle) s fun u =>
       let b := u.link.lanes.get lane
       u.fld (LPH_STAT_fom n) = fom.toNat ∧ u.fld (LPH_STAT_ctle n) = ctle.toNat ∧
       (s0.fomMin ≤ fom.toNat → b.low = 0) ∧ (fom.toNat < s0.fomMin → b.low = min (a.low + 1) 8) ∧
       (a.armed = true → 7 ≤ a.low → fom.toNat < s0.fomMin → b.armed = false ∧ Logs s0 u (64 + n) 1 (2 ^ 24 + fom.toNat)) ∧
       (a.armed = false ∨ a.low < 7 ∨ s0.fomMin ≤ fom.toNat →
         b.armed = (a.armed || decide (s0.fomMin + 16 ≤ fom.toNat)) ∧ NoEvent s0 u) ∧
       (∀ k : Lane, k ≠ lane → u.link.lanes.get k = s0.link.lanes.get k) ∧
       Keeps [.evt, .link] [LPH_STAT n, EVT_LOST] s0 u) ∧
     (s0.fld (LPH_STAT_block_lock n) = 1 →
       ∀ lost ∈ [(3, Instr.blockLockLoss t lane), (2, .cdrLockLoss t lane)], Completes lost.2 s fun u =>
         u.fld (LPH_STAT_block_lock n) = 0 ∧ (lost.1 = 2 → u.fld (LPH_STAT_cdr_lock n) = 0) ∧
         Logs s0 u (64 + n) lost.1 (lost.1 * 2 ^ 24 + s0.fld (LPH_STAT_fom n)) ∧
         (s0.hopState h = 2 → HopFalls h s0 u) ∧
         (s0.hopState h ≠ 2 → u.hop h = { s0.hop h with lanesReady := false } ∧ u.hopState h = s0.hopState h) ∧
         KeepsBlocks [.evt, .link] [EVT_LOST, LNK_STAT, LPH_STAT 0] s0 u)) ∧
  (∀ (up : Bool) (n : Nat) (b : Bytes), 20 ≤ b.length → b.length = 20 + leAt b 6 2 →
     (crc16 (b.take 14)).toNat = leAt b 14 2 →
     let rows := withMarkers up n (wagonRows b)
     (wagonRows b).length = 1 + ceilDiv (b.length - 56) 64 ∧
     (∀ j, j < b.length →
       let (row, lane, byte) := if j < 56 then (0, 1 + j / 8, j % 8) else (1 + (j - 56) / 64, (j - 56) % 64 / 8, (j - 56) % 8)
       (((wagonRows b).getD row []).getD lane default |> blockBytes)[byte]? = b[j]?) ∧
     (∀ k r, rows[k]? = some r → (r = markerRow up ↔ (n + k + 1) % 16384 = 0)) ∧
     ((n + 1) % 16384 ≠ 0 → ∃ w, wagonOfRows up rows = some w ∧ w.bytes = b ∧ badRow up w = false))

/-- Bring-up: a cold attempt, the first in step 2 or the one tried every second, ends in state 1 with its lanes ready or in
state 4; at most three warm ones follow a hop that went down, then state 4; with lanes ready a HELLO goes every 10 µs, and
the hop is up once a HELLO with peer_seen has been received and sent, a warm one within its 2 ms; a damaged one is a
violation (R301, R306–R310, R336). LINK_STATE carries the next number expected, a NAK and limits that never fall, at most
once in 100 ns, a NAK again after 4 µs; a received one frees what it acknowledges, sets the limits, and with a NAK has every
wagon left sent again, as 50 µs without progress does; four of those in a row take the hop down (R316–R318, R326–R328). It
rests on the model's choices of assumption log 79, 80, 82, 209, 210 and 225. -/
def Obligations.BringUp : Prop :=
  (∀ (s : State) (t : Nat) (h : Hop), let s0 := s.advanceTo t
     let x := s0.hop h
     let frame := KeepsBlocks [.evt, .fresh, .link] [EVT_LOST, LNK_STAT, LPH_STAT 0] s0
     let rows (u : State) : Prop := u.tx (otherHop h) = s0.tx (otherHop h) ∧
       u.tx h = { s0.tx h with rows := (u.tx h).rows, rowsAt := (u.tx h).rowsAt, scramblers := (u.tx h).scramblers } ∧
       (s0.prbsTest h = false → (u.tx h).rows = 0 ∧ (u.tx h).rowsAt = s0.now)
     (∀ res : List LaneTrain, s0.fld LNK_STAT_refclk_ok ≠ 0 → s0.link.stopped = false →
       ∀ cmd, (cmd = Instr.hopBringUp t h res ∧ s0.hopState h = 1 ∧ x.lanesReady = false ∧ s0.inStep2 h = true) ∨
           (cmd = Instr.coldBringUpRetry t h res ∧ (s0.hopState h = 1 ∨ s0.hopState h = 4) ∧
             s0.elapsed x.since (edgesS 1) = true) →
         Completes cmd s fun u =>
           (s0.lanesPass h res → u.hopState h = 1 ∧ (u.hop h).lanesReady = true) ∧
           (¬ s0.lanesPass h res → u.hopState h = 4 ∧ (u.hop h).lanesReady = false) ∧
           (u.hop h).warm = false ∧ (u.hop h).since = s0.now ∧ LanesTrained h res s0 u ∧
           u.fld (LNK_RETRAINS_cold (hopIx h)) =
             min (s0.fld (LNK_RETRAINS_cold (hopIx h)) + b2n x.began) (2 ^ 16 - 1) ∧
           u.rx h = s0.rx h ∧ rows u ∧ frame u) ∧
     (∀ res : List LaneTrain, s0.hopState h = 3 → x.lanesReady = false →
       (x.tries < 3 → Completes (.warmRetrain t h res) s fun u =>
         (s0.lanesPass h res → u.hopState h = 3 ∧ (u.hop h).lanesReady = true ∧ (u.hop h).tries = x.tries + 1 ∧
           (u.hop h).warm = x.warm) ∧
         (¬ s0.lanesPass h res → (x.tries < 2 → u.hopState h = 3 ∧ (u.hop h).tries = x.tries + 1) ∧
           (x.tries = 2 → u.hopState h = 4 ∧ (u.hop h).warm = false)) ∧ LanesTrained h res s0 u ∧
         u.fld (LNK_RETRAINS_warm (hopIx h)) = min (s0.fld (LNK_RETRAINS_warm (hopIx h)) + 1) (2 ^ 16 - 1) ∧
         u.rx h = s0.rx h ∧ rows u ∧ frame u) ∧
       (3 ≤ x.tries → Completes (.warmRetrain t h res) s fun u =>
         u.hopState h = 4 ∧ Keeps [.link] [LNK_STAT] s0 u)) ∧
     (s0.hopState h = 1 ∨ s0.hopState h = 3 → x.lanesReady = true →
       (x.lastHello.any (fun e => !s0.elapsed e (edgesUs 10)) = false → Completes (.helloSend t h) s fun u =>
         let numbers := if x.warm then toLe 2 (s0.rx h).expected.toNat ++ toLe 2 (s0.tx h).next.toNat else zeros 4
         let body := [1, 1] ++ toLe 1 s0.tileId ++ toLe 1 s0.laneRate ++ toLe 1 (b2n x.peerSeen + 2 * b2n x.warm) ++
           zeros 3 ++ numbers ++ zeros 4
         (u.tx h).q0 = (s0.tx h).q0 ++ [wagonBytes 0x01 0 (15 + 16 * s0.tileId) 3 16 0 0 body] ∧
         (u.hop h).lastHello = some s0.now ∧ (u.hop h).sentSeen = (x.sentSeen || x.peerSeen) ∧
         (∀ p, x.gotSeen = some p → x.sentSeen = true ∨ x.peerSeen = true → s0.warmOver h = false → HopRises h p s0 u) ∧
         (x.gotSeen = none → Keeps [.link] [] s0 u)) ∧
       ∀ w : Wagon, (parseWagon w.bytes).type = 0x01 →
         (wagonCheck h w = 2 → Completes (.hello t h w) s fun u =>
           LogsOpen s0 u 98 (hopIx h * 2 ^ 31 + (s0.rx h).expected.toNat) ∧
           u.fld (LNK_RX_CRC_count (hopIx h)) = min (s0.fld (LNK_RX_CRC_count (hopIx h)) + 1) (2 ^ 32 - 1) ∧
           u.hopState h = s0.hopState h ∧ KeepsBlocks [.evt, .link] [EVT_LOST, LNK_STAT] s0 u) ∧
         (wagonCheck h w = 0 → (parseWagon w.bytes).vc = 0 → (parseWagon w.bytes).length = 16 →
           let b := slice w.bytes 16 16
           (leAt b 0 1 ≠ 1 ∨ leAt b 3 1 ≠ s0.laneRate → Completes (.hello t h w) s fun u =>
             Logs s0 u (96 + hopIx h) 4 (4 * 2 ^ 24 + leAt b 2 1) ∧ Keeps [.evt] [EVT_LOST] s0 u) ∧
           (leAt b 0 1 = 1 → leAt b 3 1 = s0.laneRate → leAt b 1 1 = 1 → Completes (.hello t h w) s fun u =>
             (u.hop h).peerSeen = true ∧
             (bit (leAt b 4 1) 0 = true → x.sentSeen = true → s0.warmOver h = false →
               HopRises h ⟨bit (leAt b 4 1) 1, BitVec.ofNat 16 (leAt b 8 2), leAt b 2 1⟩ s0 u) ∧
             (bit (leAt b 4 1) 0 = false → x.gotSeen = none → u.hopState h = s0.hopState h ∧ Keeps [.link] [] s0 u))))) ∧
  (∀ (s : State) (t : Nat) (h : Hop), let s0 := s.advanceTo t
     let a := s0.tx h
     s0.hopState h = 2 →
     ((s0.hop h).lastState.any (fun e => !s0.elapsed e (edgesNs 100)) = false → Completes (.linkStateSend t h) s fun u =>
       StateQueued h 0 s0 u ∧ (u.rx h).waiting = (s0.rx h).waiting ∧ Keeps [.link] [] s0 u) ∧
     ((s0.rx h).waiting = true → s0.elapsed (s0.rx h).lastNak (edgesUs 4) = true → Completes (.nakRepeat t h) s fun u =>
       StateQueued h 1 s0 u ∧ (u.rx h).waiting = true ∧ (u.rx h).lastNak = s0.now ∧ Keeps [.link] [] s0 u) ∧
     (a.replay ≠ [] → s0.elapsed a.ackAt (edgesUs 50) = true → Completes (.replayTimeout t h) s fun u =>
       (u.tx h).replay = a.replay ∧ (u.tx h).resend = a.replay.map (·.1) ∧
       u.fld (LNK_TX_REPLAY_count (hopIx h)) = min (s0.fld (LNK_TX_REPLAY_count (hopIx h)) + 1) (2 ^ 32 - 1) ∧
       (∀ x, a.replay.head? = some x → Logs s0 u 99 1 (hopIx h * 2 ^ 31 + 2 ^ 24 + x.1.toNat)) ∧
       (a.timeouts < 3 → u.hopState h = 2 ∧ (u.tx h).timeouts = a.timeouts + 1 ∧ (u.tx h).ackAt = s0.now) ∧
       (3 ≤ a.timeouts → u.hopState h = 3 ∧ Logs s0 u (96 + hopIx h) 2 (2 * 2 ^ 24 + (s0.hop h).partner)) ∧
       KeepsBlocks [.evt, .link] [EVT_LOST, LNK_STAT, LPH_STAT 0] s0 u) ∧
     ∀ w : Wagon, wagonCheck h w = 0 → (parseWagon w.bytes).type = 0x02 → (parseWagon w.bytes).vc = 0 →
       (parseWagon w.bytes).length = 24 → (s0.rx h).lastState.any (fun e => !s0.elapsed e (edgesNs 100)) = false →
       Completes (.linkState t h w) s fun u =>
         let b := slice w.bytes 16 24
         let ack := BitVec.ofNat 16 (leAt b 0 2)
         let left := a.replay.filter fun x => !seqBefore x.1 ack
         (u.tx h).replay = left ∧ (∀ i : Fin 3, (u.tx h).limit.get i = BitVec.ofNat 32 (leAt b (4 + 4 * i.val) 4)) ∧
         (bit (leAt b 2 1) 0 = false → (u.tx h).resend = a.resend.filter (fun n => !seqBefore n ack) ∧ NoEvent s0 u) ∧
         (∀ x, bit (leAt b 2 1) 0 = true → left.head? = some x → (u.tx h).resend = left.map (·.1) ∧
           u.fld (LNK_TX_REPLAY_count (hopIx h)) = min (s0.fld (LNK_TX_REPLAY_count (hopIx h)) + 1) (2 ^ 32 - 1) ∧
           Logs s0 u 99 0 (hopIx h * 2 ^ 31 + x.1.toNat)) ∧
         Keeps [.evt, .link] [EVT_LOST, LNK_TX_REPLAY (hopIx h)] s0 u)

/-- At a wagon boundary the relayed wagon that has left frees its space; a group then sends a waiting VC0 wagon that its
bound lets go first, then what is to be resent, then a new wagon of VC1, VC2, VC3 in this order with credit and replay room,
own and relayed VC2 wagons in turn, under the next number, charged to its VC; an own STATUS takes its tx_time then, and
during a freeze it is the only own wagon; while its hop is down a group sends VC0 only (R317–R319, R324, R326, R334, R371).
It rests on the model's choices of assumption log 95 and 210. -/
def Obligations.WagonTransmission : Prop :=
  ∀ (s : State) (t : Nat) (h : Hop), let sa := s.advanceTo t
    let s0 := sa.leave h
    let s1 := s0.boundary h
    let a := s1.tx h
    let first (vc : Nat) (q : List RelayWagon) := q.head?.any fun w => mayStart a vc w.bytes
    let own := (s1.nextOwn h).any fun x => mayStart a 2 x.1
    let frame (u : State) : Prop := u.hop h = sa.hop h ∧ u.tx (otherHop h) = sa.tx (otherHop h) ∧ Keeps [.link] [] sa u
    ((s0.tx h).leaving = none ∧ ∀ id, (sa.tx h).leaving = some id → sa.rooms.heldOwn.any (fun w => w.id = id) = false →
      (sa.waitingRelays h).any (fun w => w.id = id) = false → Sparse.get? (s0.rx (otherHop h)).held id = none) ∧
    ((s1.frozen = true → ∀ x, s1.nextOwn h = some x → leAt x.1 0 1 = 0x43) ∧
      (s1.frozen = false → ∀ b bs, a.q2own = b :: bs → s1.nextOwn h = some (b, bs))) ∧
    (sa.hopState h = 0 ∨ sa.hopState h = 4 → Completes (.wagonTxEnd t h) s fun u =>
      u.tx h = { s0.tx h with wire := none } ∧ frame u) ∧
    (sa.hopState h ≠ 0 → sa.hopState h ≠ 4 →
      (∀ b rest, s1.pickVc0 h = some (b, rest) → Completes (.wagonTxEnd t h) s fun u =>
        (u.tx h).wire = some (stampWagon b 0 false false) ∧ (u.tx h).q0 = rest ∧ (u.tx h).next = a.next ∧
        (u.tx h).replay = a.replay ∧
        (leAt b 0 1 = 2 → (u.tx h).lastState = some sa.now ∧ a.lastState.any (fun e => !sa.elapsed e (edgesNs 100)) = false) ∧
        (leAt b 0 1 ≠ 2 → (u.tx h).lastVc0 = some sa.now ∧ a.lastVc0.any (fun e => !sa.elapsed e (edgesUs 10)) = false) ∧
        frame u) ∧
      (s1.pickVc0 h = none →
        (sa.hopState h ≠ 2 → Completes (.wagonTxEnd t h) s fun u => u.tx h = { a with wire := none } ∧ frame u) ∧
        (sa.hopState h = 2 →
          (∀ n ns x, a.resend = n :: ns → a.replay.find? (fun y => y.1 = n) = some x →
            Completes (.wagonTxEnd t h) s fun u => (u.tx h).wire = some (stampWagon x.2 n.toNat a.corrupt false) ∧
              (u.tx h).resend = ns ∧ (u.tx h).replay = a.replay ∧ (u.tx h).next = a.next ∧ frame u) ∧
          (a.resend = [] →
            (∀ w ws, a.q1 = w :: ws → mayStart a 1 w.bytes = true → Completes (.wagonTxEnd t h) s fun u =>
              Started h 1 w.bytes s1 u ∧ (u.tx h).q1 = ws ∧ (u.tx h).leaving = some w.id ∧ frame u) ∧
            (first 1 a.q1 = false →
              (∀ b bs, s1.nextOwn h = some (b, bs) → mayStart a 2 b = true → first 2 a.q2relay = false ∨ a.lastOwn = false →
                Completes (.wagonTxEnd t h) s fun u =>
                  Started h 2 (if leAt b 0 1 = 0x43 then splice b 16 (toLe 8 sa.timeNs) else b) s1 u ∧
                    (u.tx h).q2own = bs ∧ (u.tx h).lastOwn = true ∧ (u.tx h).ownDone = a.ownDone + 1 ∧ frame u) ∧
              (∀ w ws, a.q2relay = w :: ws → mayStart a 2 w.bytes = true → own = false ∨ a.lastOwn = true →
                Completes (.wagonTxEnd t h) s fun u =>
                  Started h 2 w.bytes s1 u ∧ (u.tx h).q2relay = ws ∧ (u.tx h).lastOwn = false ∧
                    (u.tx h).leaving = some w.id ∧ frame u) ∧
              (own = false → first 2 a.q2relay = false →
                (∀ w ws, a.q3 = w :: ws → mayStart a 3 w.bytes = true → Completes (.wagonTxEnd t h) s fun u =>
                  Started h 3 w.bytes s1 u ∧ (u.tx h).q3 = ws ∧ (u.tx h).leaving = some w.id ∧ frame u) ∧
                (first 3 a.q3 = false → Completes (.wagonTxEnd t h) s fun u =>
                  u.tx h = { a with wire := none } ∧ frame u)))))))

/-- A sequenced wagon on DN_RX: the next number within its limit is taken and relayed on an up hop, at once where its
transmit group idles, dropped with EV110 while that is down; another number is discarded, or EV100 and a NAK; damage is
counted with EV098 and a NAK; a nullified wagon and one already received leave no trace; 32 violations within 1 ms take the
hop down with EV108, and so does, with EV064 + lane, a row with markers on some lanes only (R310, R312, R315, R321, R322,
R325–R327, R336, R338). The head's COMPLAINT is logged under EV102 (R316). It rests on the model's choices of assumption log
81, 83, 84 and 85. -/
def Obligations.WagonReceipt : Prop :=
  ∀ (s : State) (t : Nat) (w : Wagon), let s0 := s.advanceTo t
    let b := w.bytes
    let d := parseWagon b
    let r := s0.rx .dn
    let recent := r.violations.filter fun e => decide (s0.now < e + edgesMs 1)
    let nak (u : State) : Prop := (u.rx .dn).waiting = true ∧ (u.rx .dn).lastNak = s0.now ∧
      (u.rx .dn).expected = r.expected ∧ ∃ q, (u.tx .dn).q0 = (s0.tx .dn).q0 ++ [q] ∧ leAt q 0 1 = 2 ∧ leAt q 18 1 = 1
    (s0.hopState .dn = 2 → headerOk b = true → 0x40 ≤ d.type → d.type ≤ 0x46 → d.vc = 2 →
      (∀ r, w.between.find? misaligned = some r → r.length = 8 → Completes (.relayUp t w) s fun u => HopFalls .dn s0 u ∧
        ∀ i x, i < 8 → r[i]? = some x → isControl x = false ∨ x.data.toNat % 256 ≠ 0x4B →
          Logs s0 u (88 + i) 4 (4 * 2 ^ 24 + s0.fld (LPH_STAT_fom (24 + i)))) ∧
      (wagonCheck .dn w = 1 → Completes (.relayUp t w) s fun u => u = s0) ∧
      (wagonCheck .dn w = 0 → d.seq ≠ r.expected →
        (seqBefore d.seq r.expected = true ∨ r.waiting = true → Completes (.relayUp t w) s fun u => u = s0) ∧
        (seqBefore d.seq r.expected = false → r.waiting = false → recent.length < 31 →
          Completes (.relayUp t w) s fun u => nak u ∧ LogsOpen s0 u 100 (2 ^ 31 + d.type * 2 ^ 16 + d.seq.toNat) ∧
            u.fld (LNK_RX_VIOL_count 1) = min (s0.fld (LNK_RX_VIOL_count 1) + 1) (2 ^ 32 - 1) ∧
            KeepsBlocks [.evt, .link] [EVT_LOST, LNK_STAT] s0 u)) ∧
      (wagonCheck .dn w = 2 → w.between.find? misaligned = none → r.waiting = false ∨ d.seq = r.expected →
        (recent.length < 31 → Completes (.relayUp t w) s fun u => nak u ∧ LogsOpen s0 u 98 (2 ^ 31 + r.expected.toNat) ∧
          u.fld (LNK_RX_CRC_count 1) = min (s0.fld (LNK_RX_CRC_count 1) + 1) (2 ^ 32 - 1) ∧
          KeepsBlocks [.evt, .link] [EVT_LOST, LNK_STAT] s0 u) ∧
        (31 ≤ recent.length → Completes (.relayUp t w) s fun u => LogsOpen s0 u 108 (2 ^ 31) ∧ u.hopState .dn = 3 ∧
          Logs s0 u 97 2 (2 * 2 ^ 24 + (s0.hop .dn).partner))) ∧
      (InSequence .dn w 2 s0 → Completes (.relayUp t w) s fun u =>
        (u.rx .dn).expected = r.expected + 1 ∧ (u.rx .dn).waiting = false ∧
        (u.rx .dn).received.get 1 = r.received.get 1 + BitVec.ofNat 32 (wagonCharge d.length) ∧
        (s0.hopState .up = 2 →
          Sparse.getD (u.rx .dn).held s0.link.arrivals (0, 0) = (2, wagonCharge d.length) ∧ Keeps [.link] [] s0 u ∧
          let sent := b.take (16 + d.length)
          let now := s0.groupIdle .up = true ∧ (s0.tx .up).q2relay = [] ∧ mayStart (s0.tx .up) 2 sent = true
          (now → Started .up 2 sent s0 u ∧ (u.tx .up).leaving = some s0.link.arrivals ∧ (u.tx .up).q2relay = []) ∧
          (¬ now → (u.tx .up).q2relay = (s0.tx .up).q2relay ++ [⟨s0.link.arrivals, sent⟩] ∧
            (u.tx .up).wire = (s0.tx .up).wire)) ∧
        (s0.hopState .up = 1 ∨ s0.hopState .up = 3 ∨ s0.hopState .up = 4 → u.tx .up = s0.tx .up ∧
          u.fld (LNK_RELAY_DROP_count 1) = min (s0.fld (LNK_RELAY_DROP_count 1) + 1) (2 ^ 32 - 1) ∧
          Logs s0 u 110 1 (2 ^ 31 + 1) ∧ Keeps [.evt, .link] [EVT_LOST, LNK_RELAY_DROP 1] s0 u))) ∧
    (s0.hopState .up = 2 → InSequence .up w 2 s0 → d.type = 0x44 → Completes (.complaintWagon t w) s fun u =>
      Logs s0 u 102 2 (2 * 2 ^ 29 + 0x44 * 2 ^ 16 + d.seq.toNat) ∧ (u.rx .up).expected = (s0.rx .up).expected + 1 ∧
      u.tx .dn = s0.tx .dn ∧ Keeps [.evt, .link] [EVT_LOST] s0 u)

/-- VC1 and VC3 wagons that the link accepts on UP_RX, by destination: relayed, extracted or both, or code 7. Extracted,
with no class A demand to wait for, a leg's bytes stand in the pool as its item, and it is a leg of its output; a flip
marker is noted, a second one of its serial is a violation; an overlay list is stored, and one of the frame's that is late
leaves its plane as it was; stock bytes stand in their room, or raise EV247 beyond those declared; where the next room is
held the wagon waits and EV240 is raised (R21, R81, R205–R207, R210, R315, R320, R322, R324, R330, R333, R398). Once a room
has been freed, or what they waited for has come, the held wagons of VC1, then of VC3, are stored in their order, each
leaving its buffer, up to one that stalls again (R207, R324). It rests on the model's choices of assumption log 57, 64, 85,
86, 87, 88, 89 and 90. -/
def Obligations.SceneWagons : Prop :=
  (∀ (s : State) (t : Nat) (w : Wagon) (s1 : State) (x : RxWagon), let s0 := s.advanceTo t
     let whole := s1.link.rxUp.opens.find? (sameItem x.hdr) = none ∧ wFirst x.hdr = true ∧ wLast x.hdr = true ∧ x.hdr.offset = 0
     let pool (u : State) : Prop := ∀ a, (∀ q, q < s1.poolBytes → s1.phys? spLEG q ≠ some a) → u.memByte a = s1.memByte a
     let k := s1.rooms.arrivals
     let item (kind : Nat) (o : Output) (serial : Word) (stream size off : Nat) : LegItem :=
       { kind, out := o, serial, stream, offset := off, got := 0, complete := true, order := k, size }
     let fits (y : LegItem) (n : Nat) : Bool := (newRooms y n).all (s1.mayFill y)
     let stored (y : LegItem) (bs : Bytes) (u : State) : Prop :=
       u.rooms.items = s1.rooms.items ++ [{ y with got := bs.length }] ∧ u.itemBytes { y with got := bs.length } 0 bs.length = bs ∧
         pool u
     s0.hopState .up = 2 → s0.linkReceive .up w = (s1, some x) →
     (s1.noStore = false → s1.oldestHeld x.hdr.vc = none → s1.route_ x.hdr = (true, false) → s1.classADemand = false →
       s1.dram.bad = [] →
       ((s1.phys? spLEG 0).isSome = true →
       (carries .up [0x20] w = true → x.hdr.type = 0x20 → whole → 64 ≤ x.body.length →
         let d := parseLegHeader x.body
         let o : Output := Fin.ofNat 4 d.output
         let part := x.body.take (64 + d.compressed)
         let y := item 0 o d.serial d.chain (poolSize (64 + d.compressed))
         d.chain < s1.fld CDC_CFG_chains → s1.decidedBy o d.serial = false → 64 + d.compressed ≤ s1.poolBytes →
         (∀ off, s1.nextPlace o d.serial = some off → fits (y off) part.length = true → Completes (.legWagon t w) s fun u =>
           stored (y off) part u ∧
           (∃ l, (u.out o).cycle.legs = (s1.out o).cycle.legs ++ [l] ∧ l.legId = d.legId ∧ l.chain = d.chain ∧
             l.serial = d.serial ∧ l.done = false ∧ l.item = k ∧
             l.outcome = if (s1.out o).cycle.decode = some d.serial ∧ s1.pastB o = true then some 3 else none) ∧
           ((s1.out o).cycle.decode = some d.serial → s1.pastB o = false → k ∈ u.porter.qb ++ u.porter.waitB)) ∧
         (s1.nextPlace o d.serial = none ∨
             (∃ off, s1.nextPlace o d.serial = some off ∧ fits (y off) part.length = false) →
           s1.rooms.stallRaised = false → Completes (.legWagon t w) s fun u => u.rooms.items = s1.rooms.items ∧
             u.rooms.heldOwn = s1.rooms.heldOwn ++ [⟨x.id, x.bytes⟩] ∧ LogsOpen s1 u 240 (stallOutput x * 2 ^ 30) ∧
             u.dram = s1.dram ∧ Keeps [.evt, .link, .rooms] [EVT_LOST] s1 u)) ∧
       (carries .up [0x21] w = true → x.hdr.type = 0x21 → whole → flipOk x.body = true →
         let o : Output := Fin.ofNat 4 (leAt x.body 0 1)
         let serial := BitVec.ofNat 32 (leAt x.body 4 4)
         let y := item 2 o serial x.hdr.stream (poolSize x.body.length)
         (∀ off, s1.flipSeen o serial = false → s1.decidedBy o serial = false → x.body.length ≤ s1.poolBytes →
           s1.nextPlace o serial = some off → fits (y off) x.body.length = true → Completes (.flipWagon t w) s fun u =>
             (∃ m, (u.out o).cycle.markers = (s1.out o).cycle.markers ++ [m] ∧ m.serial = serial ∧ m.stamp = s1.timeNs ∧
               m.legs = (List.range (leAt x.body 2 2)).map fun i =>
                 (BitVec.ofNat 32 (leAt x.body (8 + 8 * i) 4), leAt x.body (12 + 8 * i) 2)) ∧
             u.flipSeen o serial = true ∧ stored (y off) x.body u) ∧
         (s1.flipSeen o serial = true → Completes (.flipWagon t w) s fun u =>
           (u.out o).cycle = (s1.out o).cycle ∧ LogsOpen s1 u 107 (0x21 * 2 ^ 16 + x.hdr.seq.toNat))) ∧
       (carries .up [0x22] w = true → x.hdr.type = 0x22 → whole → 16 ≤ x.body.length →
         let o : Output := Fin.ofNat 4 x.hdr.stream
         let serial := BitVec.ofNat 32 (leAt x.body 8 4)
         let y := item 1 o serial x.hdr.stream 0
         s1.decidedBy o serial = false → x.body.length ≤ s1.poolBytes →
         ∀ off, s1.nextPlace o serial = some off → fits (y off) x.body.length = true → Completes (.overlayWagon t w) s fun u =>
           stored (y off) x.body u ∧
           ((s1.out o).cycle.decode = some serial → s1.pastCD o = false →
             ClassD.list o k ∈ u.porter.qd ++ u.porter.waitD ++ u.porter.heldD) ∧
           ((s1.out o).cycle.decode = some serial → s1.pastCD o = true →
             (u.out o).cycle.planes.get (Fin.ofNat 4 (leAt x.body 4 1)) = some false))) ∧
       (carries .up [0x60] w = true → x.hdr.type = 0x60 →
         let index := leAt x.body 0 2
         let off := leAt x.body 4 4
         let data := x.body.drop 8
         off % 64 = 0 → data.length % 64 = 0 → 64 ≤ data.length → data.length ≤ 9152 → off + data.length ≤ 1048576 →
         (s1.stockDeclared ≤ index → Completes (.stockWagon t w) s fun u =>
           LogsOpen s1 u 247 index ∧ Keeps [.evt] [EVT_LOST] s1 u) ∧
         ∀ a, index < s1.stockDeclared → s1.phys? spSTOCK (stockAddr index off) = some a →
           (s1.phys? spSTOCK (stockAddr index off + data.length - 1)).isSome = true →
           Completes (.stockWagon t w) s fun u => u.memBytes a data.length = data ∧ MemoryKept a data.length s1 u ∧
             KeepsBlocks accessParts accessBlocks s1 u)) ∧
     ∀ cmd vc type, (cmd, vc, type) ∈ [(Instr.legWagon t w, 1, 0x20), (.flipWagon t w, 1, 0x21), (.overlayWagon t w, 1, 0x22),
         (.stockWagon t w, 3, 0x60)] → carries .up [type] w = true → x.hdr.type = type →
       (s1.route_ x.hdr = (false, true) → s1.hopState .dn = 2 → Completes cmd s fun u =>
         let a := s1.tx .dn
         let b := u.tx .dn
         let now := s1.groupIdle .dn = true ∧ (if vc = 1 then a.q1 else a.q3) = [] ∧ mayStart a vc x.bytes = true
         (now → Started .dn vc x.bytes s1 u ∧ b.leaving = some x.id) ∧
         (¬ now → b.wire = a.wire ∧ b.q1 = (if vc = 1 then a.q1 ++ [⟨x.id, x.bytes⟩] else a.q1) ∧
           b.q3 = if vc = 1 then a.q3 else a.q3 ++ [⟨x.id, x.bytes⟩]) ∧ Keeps [.link] [] s1 u) ∧
       (s1.route_ x.hdr = (false, false) → Completes cmd s fun u =>
         LogsOpen s1 u 105 (type * 2 ^ 16 + x.hdr.seq.toNat) ∧ u.rooms = s1.rooms)) ∧
  (∀ (s : State) (t vc : Nat) (k : HeldWagon) (ks : List HeldWagon) (s1 : State), let s0 := s.advanceTo t
     let held (v : State) (vc : Nat) := v.rooms.heldOwn.filter fun k => heldVc k = vc
     s0.noStore = false → vc = 1 ∨ vc = 3 → held s0 vc = k :: ks → held s0 (4 - vc) = [] →
     (s0.store (heldWagon k) = .full s1 → Completes (.legIntakeStallResume t) s fun u =>
       u.rooms.heldOwn = s0.rooms.heldOwn ∧ u.rooms.items = s0.rooms.items ∧
       (s0.rooms.stallRaised = false → LogsOpen s0 u 240 (stallOutput (heldWagon k) * 2 ^ 30)) ∧
       Keeps [.evt, .rooms] [EVT_LOST] s0 u) ∧
     (s0.store (heldWagon k) = .waits s1 → held s1 3 = held s0 3 → Completes (.legIntakeStallResume t) s fun u => u = s1) ∧
     (s0.store (heldWagon k) = .ok s1 → ks = [] → held s1 3 = held s0 3 → Completes (.legIntakeStallResume t) s fun u =>
       u.rooms = { s1.rooms with heldOwn := s1.rooms.heldOwn.filter fun y => y.id != k.id } ∧ Keeps [.link, .rooms] [] s1 u))

/-! ### Time -/

/-- A REFCLK loss stops all lanes and both hops, moves the clock to XTAL with TIME_INC scaled, and enters HOLDOVER; its
return undoes the scaling and starts cold bring-ups unless a lane rail is still low; four intervals without a valid SYNC
enter HOLDOVER; after lock_wait the outputs may tick unlocked (R297, R341, R342, R352, R354). It rests on the model's
choices of assumption log 99, 101 and 106. -/
def Obligations.ClockSource : Prop :=
  ∀ (s : State) (t : Nat), let s0 := s.advanceTo t
    let frame := KeepsBlocks [.clock, .evt, .link] [EVT_LOST, LNK_STAT, LPH_STAT 0, TIM_STAT] s0
    let inc (v : Nat) : BitVec 64 := BitVec.ofNat 64 (max incMin (min v incMax))
    (∀ ratio, s0.onXtal = 0 → Completes (.refclkLoss t ratio) s fun u =>
      u.onXtal = 1 ∧ u.fld LNK_STAT_refclk_ok = 0 ∧ u.fld TIM_STAT_state = 3 ∧
      u.clock = { s0.clock with inc := inc (s0.clock.inc.toNat * ratio / 2 ^ 32), ratio } ∧
      (∀ h, s0.hopState h ≠ 0 → u.hopState h = 4) ∧ (∀ h, s0.hopState h = 0 → u.hopState h = 0) ∧
      (∀ n, n < 32 → u.fld (LPH_STAT_block_lock n) = 0 ∧ u.fld (LPH_STAT_deskewed n) = 0) ∧
      LogsOpen s0 u 109 1 ∧ LogsOpen s0 u 117 1 ∧ (s0.fld TIM_STAT_state ≠ 3 → Logs s0 u 113 1 (2 ^ 24 + 1)) ∧ frame u) ∧
    (s0.onXtal = 1 → Completes (.refclkRestore t) s fun u =>
      u.onXtal = 0 ∧ u.fld LNK_STAT_refclk_ok = 1 ∧ u.fld TIM_STAT_state = s0.fld TIM_STAT_state ∧
      u.clock = { s0.clock with inc := inc (s0.clock.inc.toNat * 2 ^ 32 / max 1 s0.clock.ratio) } ∧
      (∀ h, u.hopState h = if s0.hopState h ≠ 0 ∧ s0.link.stopped = false then 1 else s0.hopState h) ∧
      (∀ h, s0.hopState h ≠ 0 → s0.link.stopped = false → (u.hop h).lanesReady = false ∧ (u.hop h).warm = false) ∧
      LogsOpen s0 u 109 0 ∧ LogsOpen s0 u 117 0 ∧ frame u) ∧
    (∀ e, s0.servo.lastSync = some e → s0.fld TIM_STAT_state = 1 ∨ s0.fld TIM_STAT_state = 2 →
      s0.elapsed e (logEdges 4 s0.itin.time.logSync) = true → Completes (.holdoverEntry t) s fun u =>
        u.fld TIM_STAT_state = 3 ∧ Logs s0 u 113 1 (2 ^ 24 + s0.onXtal) ∧ Keeps [.evt] [TIM_STAT, EVT_LOST] s0 u) ∧
    ∀ e, s0.servo.upAt = some e → s0.servo.waitOver = false → s0.fld TIM_STAT_state ≠ 2 →
      s0.elapsed e (edgesMs s0.itin.time.lockWaitMs) = true → Completes (.lockWaitExpiry t) s fun u =>
        u.servo = { s0.servo with waitOver := true } ∧ Logs s0 u 112 3 (3 * 2 ^ 24) ∧ Keeps [.evt, .servo] [EVT_LOST] s0 u

/-- Link delay: one request at a time, unanswered for 1 ms a miss, whatever comes for it then; a response's sample within 0
to 400 ns joins the last eight, whose mean is D_up, another is invalid, and the third miss or invalid sample in a row raises
EV116; a request on DN_RX is answered with its residence; a beacon that breaks its rules is violation 6 (R346, R349, R350,
R336). A valid SYNC: its offset is stored, its grandmaster adopted with EV114 when new, the state acquires, locks after 8
offsets of at most 20 ns and unlocks after 4 of more than 100 ns, TIME_NS steps once before any tick by an offset beyond 1
µs, TIME_INC stays within 1.99 to 2.01 ns, on the side of its estimate that drives the offset toward 0, and the SYNC goes on
down the chain with its correction increased, or is dropped while that hop is down (R325, R341, R346, R348, R350–R355). It
rests on the model's choices of assumption log 97, 98, 100, 102, 103, 104, 105 and 107. -/
def Obligations.LinkTime : Prop :=
  (∀ (s : State) (t : Nat), let s0 := s.advanceTo t
     let v := s0.servo
     (∀ t1, s0.hopState .up = 2 → v.outstanding = none →
       v.lastReq.any (fun e => !s0.elapsed e (logEdges 1 s0.itin.time.logPdelay)) = false →
       Completes (.pdelayInterval t t1) s fun u =>
         u.servo = { v with reqSeq := v.reqSeq + 1, outstanding := some (t1, s0.now), lastReq := some s0.now } ∧
         (u.tx .up).q0 = (s0.tx .up).q0 ++ [wagonBytes 0x09 0 (15 + 16 * s0.tileId) 3 54 0 0
           (s0.beacon 2 0 (s0.portIdentity .up) (v.reqSeq + 1).toNat 5 (logByte s0.itin.time.logPdelay) (zeros 20))] ∧
         Keeps [.link, .servo] [] s0 u) ∧
     (∀ t1 e, v.outstanding = some (t1, e) → s0.elapsed e (edgesMs 1) = true → Completes (.pdelayMiss t) s fun u =>
       u.servo = { v with misses := min (v.misses + 1) 3, outstanding := none } ∧
       (v.misses = 2 → (∀ r ∈ s0.evt.pend, r.src ≠ 116) → ∃ r ∈ u.evt.pend, r.src = 116 ∧ r.cause = 1) ∧
       (v.misses ≠ 2 → NoEvent s0 u) ∧ Keeps [.evt, .fresh, .servo] [EVT_LOST] s0 u) ∧
     (∀ w t4 t1 e, v.outstanding = some (t1, e) → e + edgesMs 1 < s0.now → Completes (.pdelayResp t w t4) s fun u =>
       u.servo.outstanding = none ∧ u.servo.samples = v.samples ∧ u.servo.dUp = v.dUp ∧ u.servo.misses = min (v.misses + 1) 3) ∧
     ∀ (w : Wagon) (h : Hop) (s1 : State) (x : RxWagon), s0.hopState h = 2 → s0.linkReceive h w = (s1, some x) →
       (h = .up → x.hdr.type = 0x0A → carries h [0x0A] w = true → (∀ y ∈ v.outstanding, s0.now ≤ y.2 + edgesMs 1) → ∀ t4 : Nat,
         (s1.pdelayRespOk x.body = true → ∀ t1 e, s1.servo.outstanding = some (t1, e) →
           let x2 : Int := (t4 : Int) - (t1 : Int) - (beaconCorr x.body : Int)
           (0 ≤ x2 → x2 ≤ 400 * 65536 → Completes (.pdelayResp t w t4) s fun u =>
             let samples := (x2.toNat :: s1.servo.samples).take 8
             u.servo.samples = samples ∧ u.servo.dUp = roundDiv samples.sum (2 * samples.length) ∧ u.servo.misses = 0 ∧
             u.servo.outstanding = none ∧ u.servo.lastSample = some x2 ∧
             (u.servo.dUp % 1024 = 0 → u.fld TIM_LINK_DELAY_d_up = u.servo.dUp / 1024 % 2 ^ 16) ∧
             (u.fld TIM_LINK_DELAY_d_up = u.servo.dUp / 1024 % 2 ^ 16 ∨
               u.fld TIM_LINK_DELAY_d_up = (u.servo.dUp / 1024 + 1) % 2 ^ 16) ∧
             Keeps [.fresh, .servo] [TIM_LINK_DELAY] s1 u) ∧
           (x2 < 0 ∨ 400 * 65536 < x2 → Completes (.pdelayResp t w t4) s fun u =>
             u.servo.samples = s1.servo.samples ∧ u.servo.dUp = s1.servo.dUp ∧ u.servo.outstanding = none ∧
             u.servo.lastSample = some x2 ∧ u.servo.misses = min (s1.servo.misses + 1) 3 ∧
             (s1.servo.misses = 2 → (∀ r ∈ s1.evt.pend, r.src ≠ 116) → ∃ r ∈ u.evt.pend, r.src = 116 ∧ r.cause = 2) ∧
             Keeps [.evt, .fresh, .servo] [EVT_LOST] s1 u)) ∧
         (s1.pdelayRespOk x.body = false → Completes (.pdelayResp t w t4) s fun u => u.servo = s1.servo ∧
           LogsOpen s1 u 104 (0x0A * 2 ^ 16 + (parseWagon w.bytes).seq.toNat))) ∧
       (h = .dn → x.hdr.type = 0x09 → carries h [0x09] w = true → s1.pdelayReqOk x.body = true → ∀ t2 t3,
         Completes (.pdelayReq t w t2 t3) s fun u =>
           (u.tx .dn).q0 = (s1.tx .dn).q0 ++ [wagonBytes 0x0A 0 (15 + 16 * s1.tileId) 3 54 0 0
             (s1.beacon 3 (t3 - t2) (s1.portIdentity .dn) (beaconSeq x.body) 5 0x7F (zeros 10 ++ beaconSrc x.body))] ∧
           Keeps [.link] [] s1 u)) ∧
  (∀ (s : State) (t : Nat) (w : Wagon) (t2 te : Nat) (s1 : State) (x : RxWagon), let s0 := s.advanceTo t
     let b := x.body
     let id := BitVec.ofNat 64 (beAt b 20 8)
     let origin := (beAt b 34 6 * 1000000000 + beAt b 40 4) * 65536
     let offset : Int := (t2 : Int) - ((origin + beaconCorr b + s1.servo.dUp : Nat) : Int)
     let st := s1.fld TIM_STAT_state
     let step := s1.servo.anyTick = false ∧ s1.servo.samples ≠ [] ∧ 1000 * 65536 < offset.natAbs
     s0.hopState .up = 2 → s0.linkReceive .up w = (s1, some x) → carries .up [0x08] w = true → x.hdr.type = 0x08 →
     s1.syncOk b = true → Completes (.sync t w t2 te) s fun u =>
       u.servo.lastSync = some s1.now ∧
       (u.reg TIM_OFFSET = BitVec.ofNat 32 (patternOf 32 (sat32 (offset / 65536))) ∨
         offset % 65536 ≠ 0 ∧ u.reg TIM_OFFSET = BitVec.ofNat 32 (patternOf 32 (sat32 (offset / 65536 + 1)))) ∧
       u.servo.master = some id ∧
       (s1.servo.master ≠ some id → (u.reg TIM_GM_LO = BitVec.ofNat 32 id.toNat ∧
         u.reg TIM_GM_HI = BitVec.ofNat 32 (id.toNat / 2 ^ 32)) ∧ LogsOpen s1 u 114 (id.toNat % 2 ^ 32)) ∧
       (s1.servo.master ≠ some id ∨ st = 0 ∨ st = 3 → u.fld TIM_STAT_state = 1) ∧
       (s1.servo.master = some id → st = 3 → Logs s1 u 113 2 (2 * 2 ^ 24 + s1.onXtal)) ∧
       (s1.servo.master = some id → st = 1 →
         (offset.natAbs ≤ 20 * 65536 → 7 ≤ s1.servo.good → u.fld TIM_STAT_state = 2 ∧ Logs s1 u 112 1 (2 ^ 24)) ∧
         (20 * 65536 < offset.natAbs ∨ s1.servo.good < 7 → u.fld TIM_STAT_state = 1)) ∧
       (s1.servo.master = some id → st = 2 →
         (100 * 65536 < offset.natAbs → 3 ≤ s1.servo.bad → u.fld TIM_STAT_state = 1 ∧ Logs s1 u 112 2 (2 * 2 ^ 24)) ∧
         (offset.natAbs ≤ 100 * 65536 ∨ s1.servo.bad < 3 → u.fld TIM_STAT_state = 2)) ∧
       (step → u.clock.ns = s1.clock.ns - BitVec.ofInt 96 (offset * 2 ^ 16) ∧ u.fld TIM_STAT_stepped = 1) ∧
       (¬ step → u.clock.ns = s1.clock.ns ∧ u.fld TIM_STAT_stepped = s1.fld TIM_STAT_stepped) ∧
       (incMin ≤ u.clock.inc.toNat ∧ u.clock.inc.toNat ≤ incMax) ∧
       (let e := u.servo.estimate.toNat
        (0 < offset → u.clock.inc.toNat ≤ max incMin (e - 1)) ∧ (offset < 0 → min incMax (e + 1) ≤ u.clock.inc.toNat) ∧
          (offset = 0 → u.clock.inc.toNat = max incMin (min e incMax))) ∧
       (s1.hopState .dn = 2 → (u.tx .dn).q0 = (s1.tx .dn).q0 ++ [wagonBytes 0x08 0 0xFF 3 b.length 0 0
         (s1.beacon 0 (beaconCorr b + (te - t2) + s1.servo.dUp) (beaconSrc b) (beaconSeq b) 0 (beaconLog b) (b.drop 34))]) ∧
       (s1.hopState .dn ≠ 2 → u.link = s1.link ∧ (s1.hopState .dn ≠ 0 → Logs s1 u 110 0 0 ∧
         u.fld (LNK_RELAY_DROP_count 0) = min (s1.fld (LNK_RELAY_DROP_count 0) + 1) (2 ^ 32 - 1))) ∧
       Keeps [.clock, .evt, .fresh, .link, .outs, .servo]
         [EVT_LOST, LNK_RELAY_DROP 0, TIM_OFFSET, TIM_GM_LO, TIM_GM_HI, TIM_STAT] s1 u)

/-! ### The wall bus and staging -/

/-- A received frame: bad FCS or size is counted; another address or EtherType is ignored; a source off the roster is
counted as a stranger, with EV121 at most once a second; in quarantine it is counted and ignored, for another tile ignored;
else the first rule it breaks is its violation, and a frame that breaks none gives its message, an authenticated one noting
its counter (R359–R365, R375–R377). It rests on the model's choices of assumption log 108, 109, 110, 111, 112, 113 and 211. -/
def Obligations.WallFrames : Prop :=
  ∀ (s : State) (t : Nat) (f : Frame), let s0 := s.advanceTo t
    let sound := f.fcsOk = true ∧ 84 ≤ f.wire ∧ f.wire ≤ 1538
    let mine := (f.dst = s0.wall.mac ∨ f.dst = broadcastMac) ∧ f.etype = s0.wall.etype
    let known := s0.roster = [] ∨ ∃ e ∈ s0.roster, e.mac = f.src
    let key := s0.senderKey f
    let heard := s0.inQuarantine key = false ∧ (leAt f.payload 3 1 = s0.tileId ∨ leAt f.payload 3 1 = 0xFF)
    s0.wall.up = true → s0.pd 44 = 2 → s0.breaksBound f = false →
    (sound → mine → ¬ known → Completes (.strangerFrame t f) s fun u =>
      u.fld ⟨WBS_STRANGER, 31, 0⟩ = min (s0.fld ⟨WBS_STRANGER, 31, 0⟩ + 1) (2 ^ 32 - 1) ∧
      (s0.wall.strangerAt.any (fun e => !s0.elapsed e (edgesS 1)) = false →
        LogsOpen s0 u 121 ((s0.wall.strangers.filter fun e => decide (s0.now < e + edgesS 1)).length + 1)) ∧
      (s0.wall.strangerAt.any (fun e => !s0.elapsed e (edgesS 1)) = true → NoEvent s0 u) ∧
      u.wall.nodes = s0.wall.nodes ∧ Keeps [.evt, .wall] [WBS_STRANGER, EVT_LOST] s0 u) ∧
    ∀ (kind : Nat) (cmd : Instr), (kind, cmd) ∈ [(1, Instr.track t f), (3, .logreq t f), (5, .regread t f),
        (0x71, .restart t f), (0x72, .selectPlayback t f), (0x73, .brightnessScale t f)] →
      (frameKind f = kind ∨ frameKind f = 0 → ¬ sound → Completes cmd s fun u =>
        u.fld ⟨WBS_FCS, 31, 0⟩ = min (s0.fld ⟨WBS_FCS, 31, 0⟩ + 1) (2 ^ 32 - 1) ∧ Keeps [] [WBS_FCS] s0 u) ∧
      (sound → ¬ mine ∨ known ∧ ¬ heard ∧ s0.inQuarantine key = false → Completes cmd s fun u => u = s0) ∧
      (frameKind f = kind ∨ frameKind f = 0 → sound → mine → known → s0.inQuarantine key = true → Completes cmd s fun u =>
        u = s0.setSender key { s0.sender key with ignored := (s0.sender key).ignored + 1 }) ∧
      (frameKind f = kind ∨ frameKind f = 0 → sound → mine → known → heard →
        ∀ code, s0.wallCode f = some code → Completes cmd s fun u => WallViolates f code s0 u) ∧
      (frameKind f = kind → sound → mine → known → heard → s0.wallCode f = none →
        (kind < 6 → Delivers kind f s0 s0 ⟨kind, frameBody f, f⟩) ∧
        (0x70 < kind → Delivers kind f s0 (s0.setSender key { s0.sender key with
          counter := some (trailerCounter (f.payload.take (12 + leAt f.payload 8 2))) }) ⟨7, frameBody f, f⟩))

/-- TRACK joins the candidates with its receipt stamp unless it lies over 1 ms ahead or names too many pairs; LOGREQ starts
an answer, which replaces an earlier one to the same node; a transmit opportunity takes the oldest frame of the highest
class that has one, a STATUS with TIME_NS at its start, and with none waiting a LOGDATA frame of the next entries that are
still held; REGREAD answers statuses and values (R366, R368, R369, R372, R373, R377, R482, R483). It rests on the model's
choices of assumption log 46, 94, 118 and 119. -/
def Obligations.WallRequests : Prop :=
  ∀ (s : State) (t : Nat) (f : Frame) (s1 : State) (m : WallMsg), let s0 := s.advanceTo t
    (Delivers 1 f s0 s1 m →
      (leAt m.body 8 1 ≤ 8 → leAt m.body 0 8 ≤ s1.timeNs + 1000000 → s1.inHarbour = false → Completes (.track t f) s fun u =>
        (∃ x, u.wall.tracks = s1.wall.tracks ++ [x] ∧ x.meas = leAt m.body 0 8 ∧ x.receipt = s1.timeNs ∧
          ∀ e : Fin 16, x.eyes.getD e.val none = if e.val < 2 * leAt m.body 8 1 ∧ bit (leAt m.body (19 + 8 * e.val) 1) 0 = true ∧
              0 < leAt m.body (18 + 8 * e.val) 1 then
            some ⟨leSigned m.body (12 + 8 * e.val) 2, leSigned m.body (14 + 8 * e.val) 2, leSigned m.body (16 + 8 * e.val) 2,
              leAt m.body (18 + 8 * e.val) 1⟩ else none) ∧
        u.fld ⟨WBS_TRACK, 31, 0⟩ = min (s1.fld ⟨WBS_TRACK, 31, 0⟩ + 1) (2 ^ 32 - 1) ∧ Keeps [.wall] [WBS_TRACK] s1 u) ∧
      (8 < leAt m.body 8 1 ∨ s1.timeNs + 1000000 < leAt m.body 0 8 → Completes (.track t f) s fun u =>
        WallViolates f 8 s1 u ∧ u.wall.tracks = s1.wall.tracks)) ∧
    (Delivers 3 f s0 s1 m → let count := leAt m.body 4 2
      (1 ≤ count → count ≤ 8192 → Completes (.logreq t f) s fun u =>
        let next := max (leAt m.body 0 4) s1.oldestEntry
        u.wall.logs = (s1.wall.logs.filter fun x => x.dest != f.src) ++ [⟨f.src, BitVec.ofNat 16 (leAt f.payload 6 2), next,
          min count ((s1.reg GBK_HEAD).toNat - next), decide (leAt m.body 0 4 < s1.oldestEntry)⟩] ∧ Keeps [.wall] [] s1 u) ∧
      (count = 0 ∨ 8192 < count → Completes (.logreq t f) s fun u => WallViolates f 9 s1 u)) ∧
    (s0.wall.up = true → s0.pd 44 = 2 →
      let w := s0.wall
      let goes (f : Frame) : Option Frame := some
        (if leAt f.payload 1 1 = 2 then { f with payload := splice f.payload 12 (toLe 8 s0.timeNs) } else f)
      (∀ f fs, w.txPush = f :: fs → Completes (.logdata t) s fun u =>
        u.wall = { w with txPush := fs, sent := goes f } ∧ Keeps [.wall] [] s0 u) ∧
      (∀ f fs, w.txPush = [] → w.txComplaint = f :: fs → Completes (.logdata t) s fun u =>
        u.wall = { w with txComplaint := fs, sent := goes f } ∧ Keeps [.wall] [] s0 u) ∧
      (∀ f fs, w.txPush = [] → w.txComplaint = [] → w.txReply = f :: fs → Completes (.logdata t) s fun u =>
        u.wall = { w with txReply := fs, sent := goes f } ∧ Keeps [.wall] [] s0 u) ∧
      (∀ f fs, w.txPush = [] → w.txComplaint = [] → w.txReply = [] → w.txStatus = f :: fs → Completes (.logdata t) s fun u =>
        u.wall = { w with txStatus := fs, sent := goes f } ∧ Keeps [.wall] [] s0 u) ∧
      ∀ x rest, w.txPush = [] → w.txComplaint = [] → w.txReply = [] → w.txStatus = [] → w.logs = x :: rest →
      Completes (.logdata t) s fun u =>
      let lost := min x.left (s0.oldestEntry - x.next)
      let n := min s0.logEntries (x.left - lost)
      let left := x.left - lost - n
      let f := s0.ownFrame x.dest 0x04 1 x.seq
        (toLe 4 (x.next + lost) ++ toLe 1 n ++ toLe 1 (b2n (left = 0) + 2 * b2n (x.overwritten || lost != 0)) ++ [0, 0] ++
          (List.range n).flatMap fun i => entryBytes (Sparse.getD s0.evt.book ((x.next + lost + i) % 8192) zeroEntry))
      u.wall.sent = f.or w.sent ∧
      u.wall.logs = (if left = 0 then [] else [⟨x.dest, x.seq, x.next + lost + n, left, false⟩]) ++ rest ∧
      Keeps [.wall] [] s0 u) ∧
    (Delivers 5 f s0 s1 m → let a := leAt m.body 0 4
      let count := leAt m.body 4 1
      (1 ≤ count → count ≤ 32 → s1.wall.up = true →
        (∀ j, j < count → s1.grants (a + 4 * j) ∧ isShadowed (a + 4 * j) = false) → Completes (.regread t f) s fun u =>
          u.wall.txReply = s1.wall.txReply ++ (s1.ownFrame f.src 0x05 1 (BitVec.ofNat 16 (leAt f.payload 6 2))
            (m.body.take 8 ++ List.replicate count 0 ++
              (List.range count).flatMap fun j => toLe 4 (s1.regValue (a + 4 * j)).toNat)).toList ∧
          Keeps [.shadow, .wall] [] s1 u) ∧
      (count = 0 ∨ 32 < count → Completes (.regread t f) s fun u => WallViolates f 9 s1 u))

/-- COMMANDs: RESTART answers 0 and runs the orderly power-off, then the reset, at once where nothing is powered;
SELECT_PLAYBACK becomes pending for its tick; BRIGHTNESS_SCALE is written to the named outputs; a bad argument is answered
1, one that cannot be done 2 (R24, R84, R213, R374, R445). It rests on the model's choices of assumption log 114, 115 and
116. -/
def Obligations.WallCommands : Prop :=
  ∀ (s : State) (t : Nat) (f : Frame) (s1 : State) (m : WallMsg), let s0 := s.advanceTo t
    let out := orderOut m
    let list := orderArg m % 256
    (Delivers 0x71 f s0 s1 m →
      (out = 0 → orderArg m = 0 → (∀ x ∈ s1.therm.steps, ∃ l, x.kind = .throttle l) →
        ((∃ o : Output, s1.panelState o ≠ 0) → Completes (.restart t f) s fun u => Answered m 0 s1 u ∧
          u.boot = { s1.boot with waiting := some .resetN } ∧
          (∀ o : Output, s1.panelState o ≠ 0 → s1.panelSeq o < 2 → OffBegins o s1 u) ∧
          KeepsBlocks [.boot, .cams, .evt, .outs, .therm, .wall] [ENG_CLOCK, EVT_LOST, PNL_OUT_STAT 0, SCN_OUT_STAT 0, THM_STATE] s1 u) ∧
        ((∀ o : Output, s1.panelState o = 0) → Completes (.restart t f) s fun u => u = s1.afterReset)) ∧
      (out ≠ 0 ∨ orderArg m ≠ 0 → Completes (.restart t f) s fun u => Answered m 1 s1 u ∧ Keeps [.wall] [] s1 u)) ∧
    (Delivers 0x72 f s0 s1 m → s1.inHarbour = false →
      (3 < out ∨ 15 < list ∧ list ≠ 0xFF → Completes (.selectPlayback t f) s fun u => Answered m 1 s1 u ∧ Keeps [.wall] [] s1 u) ∧
      ∀ o : Output, out = o.val → list ≤ 15 ∨ list = 0xFF →
        (s1.scanning o = true → list = 0xFF ∨ (s1.playlistBase list).isSome = true →
          Completes (.selectPlayback t f) s fun u => Answered m 0 s1 u ∧
            (u.out o).cycle = { (s1.out o).cycle with changes := (s1.out o).cycle.changes ++
              [{ kind := .playback (if list = 0xFF then none else some list), since := s1.now }] } ∧
            (∀ k : Output, k ≠ o → u.out k = s1.out k) ∧
            KeepsBlocks [.evt, .outs, .power, .wall] [EVT_LOST, PWR_PD_STATE 0] s1 u) ∧
        (s1.scanning o = false ∨ list ≠ 0xFF ∧ (s1.playlistBase list).isNone = true →
          Completes (.selectPlayback t f) s fun u => Answered m 2 s1 u ∧ Keeps [.wall] [] s1 u)) ∧
    (Delivers 0x73 f s0 s1 m → s1.inHarbour = false →
      (out ≤ 3 ∨ out = 0xFF → Completes (.brightnessScale t f) s fun u => Answered m 0 s1 u ∧
        (∀ o : Output, u.fld (RAY_BRIGHT_scale o.val) =
          if out = 0xFF ∨ out = o.val then orderArg m % 2 ^ 16 else s1.fld (RAY_BRIGHT_scale o.val)) ∧
        KeepsBlocks [.evt, .wall] [EVT_LOST, RAY_BRIGHT 0] s1 u) ∧
      (3 < out → out ≠ 0xFF → Completes (.brightnessScale t f) s fun u => Answered m 1 s1 u ∧ Keeps [.wall] [] s1 u)) ∧
    ∀ kind ∈ [(0x72, Instr.selectPlayback t f), (0x73, .brightnessScale t f)], Delivers kind.1 f s0 s1 m → s1.inHarbour = true →
      Completes kind.2 s fun u => Answered m 2 s1 u ∧ Keeps [.wall] [] s1 u

/-- STATUS goes periodically and on a routed event, at most one push in 10 ms, on the bus and up the chain; the TRACK bound
is void from a case of R379, with EV123, until 1 s without any; the bus falls back while PLCA is not OK; a quarantine ends
after 10 s (R358, R366, R367, R371, R377–R379). It rests on the model's choices of assumption log 94, 107 and 117. -/
def Obligations.WallUpkeep : Prop :=
  ∀ (s : State) (t : Nat), let s0 := s.advanceTo t
    let w := s0.wall
    let up (body : Bytes) (u : State) : Prop := s0.hopState .up = 2 → u.link.txUp.q2own = s0.link.txUp.q2own ++
      fragments 0x43 0 s0.tileId true (body.length / 9216 + 1) 0 body
    ((∀ o, s0.lowestActive = some o → max 1 w.statusN ≤ w.ticksSince) →
      (s0.lowestActive = none → s0.elapsed w.lastPeriodic (edgesMs 100) = true) → w.up = true →
      Completes (.statusPeriodic t) s fun u =>
        u.wall = { w with
          ticksSince := 0, lastPeriodic := s0.now, seq := w.seq + 1
          txStatus := w.txStatus ++ (s0.ownFrame broadcastMac 0x02 0 w.seq (s0.statusBody none)).toList } ∧
        up (s0.statusBody none) u ∧ Keeps [.link, .wall] [] s0 u) ∧
    (∀ code, s0.evt.push = some code → w.lastPush.any (fun e => !s0.elapsed e (edgesMs 10)) = false → w.up = true →
      Completes (.statusPush t) s fun u =>
        u.wall = { w with
          lastPush := some s0.now, seq := w.seq + 1
          txPush := w.txPush ++ (s0.ownFrame broadcastMac 0x02 0 w.seq (s0.statusBody (some code))).toList } ∧
        u.evt = { s0.evt with push := none } ∧ up (s0.statusBody (some code)) u ∧ Keeps [.evt, .link, .wall] [] s0 u) ∧
    (∀ ok, w.up = true → w.plca = true → s0.fld WBS_STAT_plca_ok ≠ b2n ok → Completes (.plcaStatusChange t ok) s fun u =>
      u.fld WBS_STAT_plca_ok = b2n ok ∧ u.fld WBS_STAT_fallback = b2n !ok ∧ LogsOpen s0 u 120 (b2n ok) ∧
      u.wall = { w with lastVoid := s0.now } ∧
      (ok = false → u.fld WBS_STAT_bound_void = 1 ∧ (s0.fld WBS_STAT_bound_void = 0 → Logs s0 u 123 1 1)) ∧
      (ok = true → u.fld WBS_STAT_bound_void = s0.fld WBS_STAT_bound_void) ∧ Keeps [.evt, .wall] [WBS_STAT, EVT_LOST] s0 u) ∧
    (w.up = true → Completes (.collisionSeen t) s fun u =>
      u.fld WBS_STAT_bound_void = 1 ∧ u.wall = { w with lastVoid := s0.now } ∧
      (s0.fld WBS_STAT_bound_void = 0 → Logs s0 u 123 1 1) ∧ (s0.fld WBS_STAT_bound_void = 1 → NoEvent s0 u) ∧
      Keeps [.evt, .wall] [WBS_STAT, EVT_LOST] s0 u) ∧
    (s0.fld WBS_STAT_bound_void = 1 → s0.fld WBS_STAT_plca_ok = 1 → s0.elapsed w.lastVoid (edgesS 1) = true →
      Completes (.boundRestore t) s fun u =>
        u.fld WBS_STAT_bound_void = 0 ∧ Logs s0 u 123 0 0 ∧ Keeps [.evt] [WBS_STAT, EVT_LOST] s0 u) ∧
    ∀ (n : Fin 32) (e : Nat), (s0.sender n.val).quarantine = some e → e ≤ s0.now → Completes (.quarantineEnd t n) s fun u =>
      u.sender n.val = { s0.sender n.val with quarantine := none } ∧ (∀ k, k ≠ n.val → u.sender k = s0.sender k) ∧
      Keeps [.wall] [] s0 u

/-- Staging on either path: BEGIN opens a session unless another one is open, the image is too large or its seq is not above
the running one; DATA in order is programmed and counted; QUERY and ABORT answer; COMMIT of a whole valid image starts the
copy to the other slot, at whose end the target holds it and the session ends; 10 s of silence end it too (R470–R473). It
rests on the model's choices of assumption log 122, 123, 124, 125, 126, 127, 128, 129, 132 and 221. -/
def Obligations.Staging : Prop :=
  ∀ (s : State) (t : Nat), let s0 := s.advanceTo t
    let frame := Keeps [.evt, .link, .stage, .wall] [CFG_STAGE, CFG_STAGE_RX, EVT_LOST]
    (∀ (msg : StageMsg) (s1 : State) (m : StageIn),
      (Arrives 1 msg s0 s1 m → s1.stage.session = none →
        let length := leAt m.data 0 4
        let seq := BitVec.ofNat 32 (leAt m.data 4 4)
        (length ≤ maxImage → s1.inHarbour = true ∨ serialAbove seq (s1.reg CFG_SEQ) = true →
          Completes (.stageBegin t msg) s fun u =>
            u.stage.session = some ⟨m.caravan, s1.stageSender m, m.session, length, seq, s1.stageTarget,
              decide (8388608 < length), [], s1.now, none⟩ ∧
            u.stageReceived = 0 ∧ u.fld CFG_STAGE_state = 1 ∧ u.fld CFG_STAGE_session = m.session.toNat ∧
            StageAnswered m 0 s1.stageTarget s1 u ∧ (length ≤ 8388608 → frame s1 u)) ∧
        (maxImage < length → Completes (.stageBegin t msg) s fun u =>
          StageAnswered m 4 0xFF s1 u ∧ u.stage = s1.stage ∧ frame s1 u) ∧
        (length ≤ maxImage → s1.inHarbour = false → serialAbove seq (s1.reg CFG_SEQ) = false →
          Completes (.stageBegin t msg) s fun u => StageAnswered m 5 0xFF s1 u ∧ u.stage = s1.stage ∧ frame s1 u)) ∧
      (∀ op cmd, (op, cmd) ∈ [(2, Instr.stageData t msg true), (3, .stageCommit t msg), (4, .stageAbort t msg), (5, .stageQuery t msg)] →
        Arrives op msg s0 s1 m → s1.stage.session = none → Completes cmd s fun u =>
          StageAnswered m 2 0xFF s1 u ∧ u.stage = s1.stage ∧ frame s1 u) ∧
      ∀ x : Session, s1.stage.session = some x → x.number = m.session → x.commit = none →
        (∀ cmd, cmd = Instr.stageBegin t msg → Arrives 1 msg s0 s1 m → x.caravan ≠ m.caravan ∨ x.sender ≠ s1.stageSender m →
          Completes cmd s fun u => StageAnswered m 1 x.target s1 u ∧ u.stage = s1.stage ∧ frame s1 u) ∧
        (Arrives 2 msg s0 s1 m →
          (m.offset = s1.stageReceived → s1.stageReceived + m.data.length ≤ x.length → x.length < 2 ^ 32 →
            (Completes (.stageData t msg true) s fun u => u.stageReceived = s1.stageReceived + m.data.length ∧
              StageAnswered m 0 x.target s1 u ∧
              (x.direct = false → Sparse.wf s1.boot.flash = true →
                u.boot.flashBytes (stagingBase + s1.stageReceived) m.data.length = m.data)) ∧
            Completes (.stageData t msg false) s fun u => u.boot = s1.boot ∧ u.stageReceived = s1.stageReceived ∧
              StageAnswered m 7 x.target s1 u ∧ frame s1 u) ∧
          (m.offset ≠ s1.stageReceived → Completes (.stageData t msg true) s fun u =>
            u.stageReceived = s1.stageReceived ∧ StageAnswered m 3 x.target s1 u ∧ frame s1 u)) ∧
        (Arrives 3 msg s0 s1 m →
          (s1.stagedOk x = true → Completes (.stageCommit t msg) s fun u =>
            u.stage.session = some { x with lastAt := s1.now, commit := some msg } ∧ u.fld CFG_STAGE_state = 2 ∧
            Keeps [.stage] [CFG_STAGE] s1 u) ∧
          (s1.stagedOk x = false → Completes (.stageCommit t msg) s fun u =>
            StageAnswered m 6 x.target s1 u ∧ u.stage.session = some { x with lastAt := s1.now } ∧ frame s1 u)) ∧
        (Arrives 4 msg s0 s1 m → Completes (.stageAbort t msg) s fun u =>
          StageAnswered m 0 x.target s1 u ∧ u.stage.session = none ∧ u.fld CFG_STAGE_state = 0 ∧ frame s1 u) ∧
        (Arrives 5 msg s0 s1 m → Completes (.stageQuery t msg) s fun u =>
          StageAnswered m 0 x.target s1 u ∧ u.stage.session = some { x with lastAt := s1.now } ∧ frame s1 u)) ∧
    ∀ x : Session, s0.stage.session = some x →
      (x.commit = none → s0.elapsed x.lastAt (edgesS 10) = true → Completes (.sessionTimeout t) s fun u =>
        u.stage = { s0.stage with session := none } ∧ u.fld CFG_STAGE_state = 0 ∧ Keeps [.stage] [CFG_STAGE] s0 u) ∧
      ∀ msg, x.commit = some msg → s0.power.lossAt = none →
        (Completes (.commitComplete t true) s fun u =>
          u.stage.session = none ∧ u.fld CFG_STAGE_state = 0 ∧ StageAnswered (x.commitIn msg) 0 x.target s0 u ∧
          LogsOpen s0 u 251 (3 * 2 ^ 16 + x.number.toNat) ∧
          (x.direct = false → x.header.length = 256 → 256 ≤ x.length → Sparse.wf s0.boot.flash = true →
            u.boot.flashBytes (slotBase x.target) x.length = s0.stagedImage x) ∧
          Keeps [.boot, .evt, .link, .stage, .wall] [CFG_STAGE, EVT_LOST] s0 u) ∧
        Completes (.commitComplete t false) s fun u =>
          u.stage.session = some { x with commit := none } ∧ u.fld CFG_STAGE_state = 1 ∧
          StageAnswered (x.commitIn msg) 7 x.target s0 u ∧ Keeps [.boot, .evt, .link, .stage, .wall] [CFG_STAGE, EVT_LOST] s0 u

/-! ### Cameras -/

/-- A frame boundary, at the divided tick of a port's output or, without one, at its grid instant, counts the capture
counter, pulses FSYNC, closes an open frame with LONG and marks a window without a Frame Start with MISSING; a Frame Start
opens the frame of its window, late or without a free ring buffer marked so; a second one closes it with MALFORMED, a Frame
End closes it (R382, R384–R386, R396). It rests on the model's choices of assumption log 150 and 151. -/
def Obligations.CameraFrames : Prop :=
  ∀ (s : State) (t : Nat) (p : Port), let s0 := s.advanceTo t
    let c := s0.cam p
    let r := s0.camRec p
    let others (u : State) : Prop := ∀ q : Port, q ≠ p → u.cam q = s0.cam q
    let frame := KeepsBlocks [.cams, .evt, .fresh, .porter, .power] [CAM_P_STAT 0, EVT_LOST, PWR_PD_STATE 0] s0
    s0.camOn p = true →
    ((if s0.paced p then c.due = true else (s0.freeBoundary p).1 ≤ s0.timeNs) → Completes (.frameBoundary t p) s fun u =>
      u.fld (CAM_P_FRAME_counter p.val) = (s0.fld (CAM_P_FRAME_counter p.val) + 1) % 2 ^ 32 ∧
      (u.cam p).window = true ∧ (u.cam p).started = false ∧ (u.cam p).due = false ∧ (u.cam p).boundaryAt = s0.now ∧
      (u.cam p).fsyncAt = (if r.fsync = 0 then c.fsyncAt else some s0.now) ∧
      (s0.paced p = false → (u.cam p).nextGrid = (s0.freeBoundary p).1 + s0.nominalPeriod (s0.camOutput p) ∧
        (u.cam p).gridCount = c.gridCount + (s0.freeBoundary p).2 + 1) ∧
      (c.frame = none → c.window = true → c.started = false →
        u.fld (CAM_P_STAT_marks p.val) = mkMissing.toNat ∧ u.reg (CAM_P_LINES p.val) = 0 ∧
        Logs s0 u (152 + p.val) 2 (2 * 2 ^ 24 + mkMissing.toNat)) ∧
      (∀ f, c.frame = some f → c.started = true → CamClosed p f mkLong s0 u) ∧ others u ∧ frame u) ∧
    ∀ hdr : CsiHdr, let s1 := s0.headerCounted p hdr
      (s0.packetSound p hdr 0 →
        (c.frame = none → c.window = true → c.started = false → Completes (.frameStart t p hdr) s fun u =>
          let free := (s1.freeRing p).cam p
          let full := s0.frozen || free.ring.any fun x => x.buffer = c.nextBuf
          let gen := s0.reg (CAM_P_FRAME p.val)
          free.ring = c.ring.filter s0.ringHeld ∧
          u.cam p = { free with
            frame := some {
              gen, discard := full, buffer := c.nextBuf, wb := s0.gains p, taps := if full then [] else s0.chooseTaps p gen
              marks := (if c.boundaryAt + edgesUs r.lateUs < s0.now then mkLate else 0) ||| if full then mkRingFull else 0 }
            started := true
            ring := if full then free.ring else free.ring ++ [⟨c.nextBuf, gen, 0, true, 0⟩]
            nextBuf := if full then c.nextBuf else (c.nextBuf + 1) % max 1 r.ring
            tapNext := (u.cam p).tapNext } ∧
          (∀ k : Fin 4, (u.cam p).tapNext.get k =
            c.tapNext.get k + b2n (!full && (s0.chooseTaps p gen).any fun x => x.1 = k.val)) ∧
          u.fld (CAM_P_STAT_open p.val) = 1 ∧ (full = true → LogsOpen s0 u 162 p.val) ∧ others u ∧
          Keeps [.cams, .evt] [CAM_P_STAT p.val, EVT_LOST] s1 u) ∧
        (∀ f, c.frame = some f → Completes (.frameStart t p hdr) s fun u => CamClosed p f mkMalformed s1 u ∧ others u ∧ frame u) ∧
        (c.frame = none → c.window = false ∨ c.started = true → Completes (.frameStart t p hdr) s fun u => u = s1)) ∧
      (s0.packetSound p hdr 1 →
        (∀ f, c.frame = some f → Completes (.frameEnd t p hdr) s fun u => CamClosed p f 0 s1 u ∧ others u ∧ frame u) ∧
        (c.frame = none → Completes (.frameEnd t p hdr) s fun u =>
          u.fld (CAM_P_DISC_count p.val) = min (s0.fld (CAM_P_DISC_count p.val) + 1) (2 ^ 32 - 1) ∧
          Keeps [] [CAM_P_DISC p.val] s1 u))

/-- Packets: a header beyond correction is counted, marks the open frame and ends its image; one of another channel or type
is counted and discarded; line starts and ends are ignored; a line of the wrong length marks MALFORMED, a wrong CRC is
counted and its line kept, EV152 + p cause 3 follows 16 of either error; a sound line enters the buffer, beyond the image it
is dropped, and with the buffer full it and the rest of the image are dropped with EV160 (R380, R381, R386, R388, R396). It
rests on the model's choices of assumption log 149 and 150. -/
def Obligations.CameraLines : Prop :=
  ∀ (s : State) (t : Nat) (p : Port) (hdr : CsiHdr) (payload : Bytes) (crc : BitVec 16), let s0 := s.advanceTo t
    let c := s0.cam p
    let r := s0.camRec p
    let s1 := s0.headerCounted p hdr
    let count (f : RegField) (u : State) : Prop := u.fld f = min (s0.fld f + 1) (2 ^ (f.hi + 1 - f.lo) - 1)
    let regs := [CAM_P_ECC p.val, CAM_P_DISC p.val, CAM_P_DROP p.val, CAM_P_CRC p.val, EVT_LOST]
    s0.camOn p = true →
    (∀ n cmd, (n, cmd) ∈ [(0, Instr.frameStart t p hdr), (1, .frameEnd t p hdr), (2, .lineStart t p hdr), (3, .lineEnd t p hdr),
        (r.dtype, .longPacket t p hdr payload crc)] →
      (hdr.ecc = .bad → Completes cmd s fun u =>
        count (CAM_P_ECC_uncorrectable p.val) u ∧
        (u.cam p).frame = (c.frame.map fun f => { withErrors f 0 1 mkEcc with imageEnd := true }) ∧
        (∀ f, c.frame = some f → ThresholdLogged p f (withErrors f 0 1 mkEcc) s0 u) ∧ Keeps [.cams, .evt] regs s0 u) ∧
      (hdr.ecc ≠ .bad → ¬ s0.packetSound p hdr n → Completes cmd s fun u =>
        count (CAM_P_DISC_count p.val) u ∧ (u.cam p).frame = (c.frame.map fun f => withErrors f 0 0 0) ∧
        Keeps [.cams, .evt] regs s0 u)) ∧
    (s0.packetSound p hdr 2 → Completes (.lineStart t p hdr) s fun u => u = s1) ∧
    (s0.packetSound p hdr 3 → Completes (.lineEnd t p hdr) s fun u => u = s1) ∧
    (s0.packetSound p hdr r.dtype →
      (hdr.wc.toNat ≠ r.width * codeBits r.dtype / 8 → Completes (.longPacket t p hdr payload crc) s fun u =>
        count (CAM_P_DISC_count p.val) u ∧ (u.cam p).frame = (c.frame.map fun f =>
          { f with marks := f.marks ||| mkMalformed, imageEnd := true, arrived := f.arrived + 1 }) ∧
        Keeps [.cams] regs s0 u) ∧
      (hdr.wc.toNat = r.width * codeBits r.dtype / 8 →
        let bad := crcCsi payload ≠ crc
        (c.frame = none → Completes (.longPacket t p hdr payload crc) s fun u =>
          count (CAM_P_DROP_count p.val) u ∧ (bad → count (CAM_P_CRC_count p.val) u) ∧ u.cams = s0.cams ∧ Keeps [.cams] regs s0 u) ∧
        ∀ f, c.frame = some f →
          let g := if bad then withErrors f 1 0 mkCrc else withErrors f 0 0 0
          let done (P : State → Prop) : Prop := Completes (.longPacket t p hdr payload crc) s fun u =>
            P u ∧ (bad → count (CAM_P_CRC_count p.val) u) ∧ ThresholdLogged p f g s0 u ∧
              (∀ q : Port, q ≠ p → u.cam q = s0.cam q) ∧ Keeps [.cams, .evt] regs s0 u
          (f.arrived < r.height → f.discard = false → f.imageEnd = false → c.buffer.length < 16 → done fun u =>
            (u.cam p).frame = some { g with arrived := f.arrived + 1, lines := f.lines + 1 } ∧
            (u.cam p).buffer = c.buffer ++ [(f.gen, unpackRaw (codeBits r.dtype) r.width payload.toArray)]) ∧
          (f.arrived < r.height → f.discard = false → f.imageEnd = false → 16 ≤ c.buffer.length → done fun u =>
            (u.cam p).frame = some { g with
              arrived := f.arrived + 1, dropped := f.dropped + 1, imageEnd := true, marks := g.marks ||| mkOverrun } ∧
            (u.cam p).buffer = c.buffer ∧ count (CAM_P_DROP_count p.val) u ∧
            LogsOpen s0 u 160 (p.val + min 65535 (f.dropped + 1) * 2 ^ 16)) ∧
          (f.arrived < r.height → f.discard = true ∨ f.imageEnd = true → done fun u =>
            (u.cam p).frame = some { g with arrived := f.arrived + 1, dropped := f.dropped + 1 } ∧
            (u.cam p).buffer = c.buffer ∧ count (CAM_P_DROP_count p.val) u) ∧
          (r.height ≤ f.arrived → done fun u =>
            (u.cam p).frame = some { g with
              arrived := f.arrived + 1, dropped := f.dropped + 1, marks := g.marks ||| mkLong } ∧
            (u.cam p).buffer = c.buffer ∧ count (CAM_P_DROP_count p.val) u)))

/-- The ISP takes whole lines round robin after the port served last; a line whose writes lack tokens stalls it and takes
what there is; when the line ends its frame has one more row, and the rows whose demosaiced rows are complete are written to
CAP as far as the lines taken give them (R183, R192, R388–R390, R396; assumption log 205). It rests on the model's choices
of assumption log 138, 139, 140, 205 and 213. -/
def Obligations.IspLines : Prop :=
  ∀ (s : State) (t : Nat), let s0 := s.advanceTo t
    let last := s0.isp.last
    (s0.isp.line = none → s0.pd 36 = 2 → ∀ i, i < 8 →
      (∀ j, j < i → (s0.cam (Fin.ofNat 8 (last + 1 + j))).buffer = []) → ∀ p : Port, p = Fin.ofNat 8 (last + 1 + i) →
      ∀ gen codes rest, (s0.cam p).buffer = (gen, codes) :: rest → Completes (.ispLineTake t none) s fun u =>
        u.isp = ⟨some (p, gen, codes), p.val, 0⟩ ∧ u.cam p = { s0.cam p with buffer := rest } ∧
        (∀ q : Port, q ≠ p → u.cam q = s0.cam q) ∧ u.fld ISP_STAT_busy = 1 ∧ u.fld ISP_STAT_port = p.val ∧
        Keeps [.cams, .isp] [ISP_STAT] s0 u) ∧
    ∀ p gen codes f, s0.isp.line = some (p, gen, codes) → (s0.cam p).frameOf gen = some f →
      let need := s0.lineTokens p f
      let img := s0.ispFrame p { f with rows := f.rows ++ [codes] }
      let frame := KeepsBlocks [.cams, .evt, .fresh, .isp, .porter, .power] [ISP_STAT, EVT_LOST, PWR_PD_STATE 0] s0
      (s0.isp.paid + s0.porter.tokC < need → Completes (.ispLineDone t) s fun u =>
        u.fld ISP_STAT_stalled = 1 ∧ u.isp = { s0.isp with paid := s0.isp.paid + s0.porter.tokC } ∧
        u.porter = { s0.porter with tokC := 0 } ∧ Keeps [.isp, .porter] [ISP_STAT] s0 u) ∧
      (need ≤ s0.isp.paid + s0.porter.tokC → Completes (.ispLineDone t) s fun u =>
        u.fld ISP_STAT_stalled = 0 ∧ u.fld ISP_STAT_busy = 0 ∧ u.isp = { s0.isp with line := none, paid := 0 } ∧
        u.porter.tokC = s0.porter.tokC - (need - s0.isp.paid) ∧ (∀ q : Port, q ≠ p → u.cam q = s0.cam q) ∧ frame u ∧
        ((s0.cam p).frame = some f → (∀ x ∈ (s0.cam p).closing, x.gen ≠ gen) →
          (∃ g, (u.cam p).frame = some g ∧ g.rows = f.rows ++ [codes] ∧ g.lines = f.lines ∧ g.marks = f.marks) ∧
          (s0.frozen = false → ∀ j, f.outRows ≤ j →
            j < img.complete (f.rows.length + 1) 2 (s0.allTaken p { f with rows := f.rows ++ [codes] } false) →
            Sparse.get? (u.cam p).outRows (gen.toNat * 65536 + j) = some (img.outRow j))) ∧
        ((s0.cam p).closing = [f] → f.rows.length + 1 = f.lines → (s0.cam p).frame.any (fun x => x.gen = gen) = false →
          (u.cam p).closing = [] ∧ (s0.frozen = false → f.discard = false →
            ∃ record, (u.cam p).stats = (s0.cam p).stats ++ [(gen, record)])))

/-- A waiting tap whose tokens are there goes up as a TAP item; a statistics record is written with its tokens once no
overlay list of the output is before it; AE and AWB write the gains and run the AE script of a port whose INIT has
succeeded; a failed port runs INIT again after 1 s; a CCI transaction that fails twice counts as failed, the third in a row
fails the port, all others lead to the next step (R191, R334, R387, R394, R395). It rests on the model's choices of
assumption log 146, 147, 152, 153, 154 and 155. -/
def Obligations.CameraServices : Prop :=
  ∀ (s : State) (t : Nat) (p : Port), let s0 := s.advanceTo t
    let c := s0.cam p
    let st := s0.fld (CAM_P_STAT_state p.val)
    (∀ (tap : Fin 4) (b : TapBuf) (s1 : State), c.taps.find? (fun x => x.waiting && x.tap = tap.val) = some b →
      s0.frozen = false → s0.hopUsed .up = true → s0.pay 2 rqEgress (ceilDiv b.bytes.length 64) = (true, s1) →
      Completes (.tapSend t p tap) s fun u =>
        u.link.txUp.q2own = s0.link.txUp.q2own ++
          fragments 0x46 p.val s0.tileId true (b.bytes.length / 9216 + 1) 0 b.bytes ∧
        (let gone := s0.link.txUp.ownDone + u.link.txUp.q2own.length
         u.cam p = { c with taps := c.taps.map fun x => if x = b then { x with waiting := false, sentAt := gone } else x }) ∧
        (∀ q : Port, q ≠ p → u.cam q = s0.cam q) ∧ Keeps [.cams, .link] [] s1 u) ∧
    (∀ gen record rest s1, c.stats = (gen, record) :: rest → s0.frozen = false →
      (∀ o k, ClassD.list o k ∈ s0.porter.qd → o ≠ s0.camOutput p) → ClassD.stats p ∈ s0.porter.qd →
      s0.pay 3 rqIsp (ceilDiv record.length 64) = (true, s1) → Completes (.statisticsWaybill t p) s fun u =>
        u.cam p = { c with stats := rest, record, aeDue := true } ∧ u.reg (ISP_STATS_FRAME p.val) = gen ∧
        u.porter = { s1.porter with qd := s0.porter.qd.erase (ClassD.stats p) } ∧
        (∀ q : Port, q ≠ p → u.cam q = s0.cam q) ∧ Keeps [.cams, .porter] [ISP_STATS_FRAME p.val] s1 u) ∧
    (∀ ae : AeAwb, let vals := [ae.exposure.toNat, ae.analog.toNat, ae.digital.toNat]
      s0.camOn p = true → c.aeDue = true → Completes (.aeAwbUpdate t p ae) s fun u =>
        u.reg (ISP_WB_RG p.val) = ae.rg ∧ u.reg (ISP_WB_BG p.val) = ae.bg ∧ (u.cam p).aeDue = false ∧
        (st ≠ 2 → u.cam p = { c with aeDue := false }) ∧
        (st = 2 → c.script.isSome = true → u.cam p = { c with aeDue := false, todo := c.todo ++ [(3, vals)] }) ∧
        (st = 2 → c.script = none → ScriptGoes p 3 0 vals c.todo s0 u) ∧ (∀ q : Port, q ≠ p → u.cam q = s0.cam q) ∧
        Keeps [.cams, .evt] [ISP_WB_RG p.val, ISP_WB_BG p.val, CAM_P_STAT p.val, EVT_LOST] s0 u) ∧
    (s0.camOn p = true → st = 3 → s0.elapsed c.failedAt (edgesS 1) = true → Completes (.initRetry t p) s fun u =>
      ((∃ x ∈ s0.script p 0, x.op ≠ 5) → u.fld (CAM_P_STAT_state p.val) = 1) ∧ (u.cam p).cciFails = 0 ∧
      ScriptGoes p 0 0 [] [] s0 u ∧ (∀ q : Port, q ≠ p → u.cam q = s0.cam q) ∧
      Keeps [.cams, .evt] [CAM_P_STAT p.val, EVT_LOST] s0 u) ∧
    ∀ (ack : Bool) (value : BitVec 16) (run : ScriptRun) (x : ScriptStep), c.script = some run →
      (s0.script p run.script)[run.step]? = some x →
      let does (P : State → Prop) : Prop := Completes (.cciTransactionDone t p ack value) s fun u => P u ∧
        (∀ q : Port, q ≠ p → u.cam q = s0.cam q) ∧ Keeps [.cams, .evt] [CAM_P_STAT p.val, EVT_LOST] s0 u
      let next (fails : Nat) (u : State) : Prop :=
        (u.cam p).cciFails = fails ∧ ScriptGoes p run.script (run.step + 1) run.ae c.todo s0 u
      let fails := (x.op ≠ 4 ∧ ack = false ∧ run.retried = true) ∨ (x.op = 2 ∧ ack = true ∧ x.match_ value = false) ∨
        (x.op = 3 ∧ ack = true ∧ x.match_ value = false ∧ s0.elapsed run.since (edgesMs 100) = true)
      (x.op = 4 → s0.elapsed run.since (edgesUs x.value) = true → does (next c.cciFails)) ∧
      (x.op ≠ 4 → ack = true → x.op = 2 ∨ x.op = 3 → x.match_ value = true → does (next 0)) ∧
      (x.op ≠ 4 → ack = true → x.op ≠ 2 → x.op ≠ 3 → does (next 0)) ∧
      (x.op ≠ 4 → ack = false → run.retried = false → does fun u =>
        u.cam p = { c with script := some { run with retried := true } }) ∧
      (x.op = 3 → ack = true → x.match_ value = false → s0.elapsed run.since (edgesMs 100) = false → does fun u =>
        u.cam p = { c with script := some { run with retried := false } }) ∧
      (fails → c.cciFails < 2 → does (next (c.cciFails + 1))) ∧
      (fails → 2 ≤ c.cciFails → does fun u =>
        u.fld (CAM_P_STAT_state p.val) = 3 ∧ Logs s0 u (152 + p.val) 4 (4 * 2 ^ 24 + s0.fld (CAM_P_STAT_marks p.val)) ∧
        u.cam p = { c with cciFails := c.cciFails + 1, rstHigh := false, script := none, todo := [], failedAt := s0.now })

/-! ### Power, temperature and the start -/

/-- A group requests sleep under its trigger: the lowest member that holds a waybill refuses, or, once none still drains,
every member that is on goes to the target state; after 10 µs whoever has not replied refuses (R418–R421). A domain's
transition, no earlier than it may take, ends: one gone off has lost its engines, units and registers; a group whose members
have all arrived sleeps or is awake; a wake that came during the commit starts then, with EV226 and PWR_LAST_WAKE (R415,
R416, R420, R422, R423). It rests on the model's choices of assumption log 58, 59, 157, 158 and 222. -/
def Obligations.Domains : Prop :=
  (∀ (s : State) (t : Nat) (g : SleepGroup) (r : SleepRec), let s0 := s.advanceTo t
     let st := s0.fld (PWR_SG_STAT_state g.val)
     let sg := s0.power.groups.get g
     s0.itin.sleep[g] = some r → (∀ pd ∈ r.members, pd < 48) →
     (s0.alive = true → s0.boot.phase ≠ .thermalShutdown → st = 1 →
       (if r.static then
         (∀ o : Output, s0.scanning o = true → s0.fld (SCN_OUT_STAT_static o.val) = 1 ∧
           ∀ n, s0.nextRelease o = some n → s0.timeNs + 300000 < n) ∧ s0.classADemand = false ∧
         ∀ e, sg.refusedAt = some e → ∃ o : Output, e < (s0.out o).cycle.tickEdge
       else s0.elapsed sg.since (edgesUs r.idleUs) = true ∧ ∀ pd ∈ r.members, s0.holdsWork pd = false) →
       (∀ pd ∈ r.members, s0.holdsWork pd = true → (∀ k ∈ r.members, s0.holdsWork k = true → pd ≤ k) →
         Completes (.sleepRequest t g) s fun u => SleepRefused g pd s0 u) ∧
       ((∀ pd ∈ r.members, s0.holdsWork pd = false ∧ s0.drains pd = false) →
         Completes (.sleepRequest t g) s fun u => SleepCommitted g r s0 u) ∧
       ((∀ pd ∈ r.members, s0.holdsWork pd = false) → (∃ pd ∈ r.members, s0.drains pd = true) →
         Completes (.sleepRequest t g) s fun u => u.fld (PWR_SG_STAT_state g.val) = 2 ∧
           u.power.groups.get g = { sg with since := s0.now, refusedAt := none } ∧
           Keeps [.power] [PWR_SG_STAT g.val] s0 u)) ∧
     (st = 2 → s0.elapsed sg.since (edgesUs 10) = true →
       (∀ pd ∈ r.members, s0.holdsWork pd = true ∨ s0.drains pd = true →
         (∀ k ∈ r.members, s0.holdsWork k = true ∨ s0.drains k = true → pd ≤ k) →
         Completes (.prepareTimeout t g) s fun u => SleepRefused g pd s0 u) ∧
       ((∀ pd ∈ r.members, s0.holdsWork pd = false ∧ s0.drains pd = false) →
         Completes (.prepareTimeout t g) s fun u => SleepCommitted g r s0 u))) ∧
  (∀ (s : State) (t : Nat) (pd : Domain) (k : Nat), let s0 := s.advanceTo t
     let group (g : SleepGroup) : Prop := pd.val ∈ s0.members g ∧ (∀ h : SleepGroup, h ≠ g → pd.val ∉ s0.members h) ∧
       ∀ d ∈ s0.members g, d ≠ pd.val → Sparse.get? s0.power.target d = none
     Sparse.wf s0.power.target = true → Sparse.get? s0.power.target pd.val = some k → k < 3 →
     Sparse.getD s0.power.due pd.val 0 ≤ s0.now →
     ((∀ g : SleepGroup, pd.val ∉ s0.members g) → Completes (.domainTransitionComplete t pd) s fun u =>
       u.pd pd.val = k ∧ Sparse.get? u.power.target pd.val = none ∧
       (∀ d, d < 48 → d ≠ pd.val → u.pd d = s0.pd d) ∧
       (k = 0 → pd.val < 32 → u.engines = s0.engines.filter (fun (e, _) => e / 16 != pd.val)) ∧
       (k = 0 → 32 ≤ pd.val → pd.val < 36 → ∀ c ∈ domainUnits pd.val, u.codec c = {}) ∧
       (k = 0 → pd.val = 37 → u.blt = {}) ∧
       (k = 0 → 32 ≤ pd.val → pd.val < 47 → pd.val ≠ 38 → ∀ a, regDomain (blockOf a) (a % 0x10000) = pd.val → u.reg a = resetOf a) ∧
       u.rooms = s0.rooms ∧ u.porter = s0.porter ∧ u.outs = s0.outs ∧ u.chains = s0.chains ∧ u.therm = s0.therm) ∧
     ∀ g : SleepGroup, group g → pd.val < 38 → pd.val ≠ 36 →
       (s0.fld (PWR_SG_STAT_state g.val) = 3 → (s0.power.groups.get g).wake = none →
         Completes (.domainTransitionComplete t pd) s fun u => u.pd pd.val = k ∧ u.fld (PWR_SG_STAT_state g.val) = 4) ∧
       (s0.fld (PWR_SG_STAT_state g.val) = 5 → Completes (.domainTransitionComplete t pd) s fun u =>
         u.pd pd.val = k ∧ u.fld (PWR_SG_STAT_state g.val) = 1 ∧ (u.power.groups.get g).since = s0.now) ∧
       ∀ source, s0.fld (PWR_SG_STAT_state g.val) = 3 → (s0.power.groups.get g).wake = some source →
         s0.skipsWake pd.val = false → (∀ d ∈ s0.members g, d < 48) → Completes (.domainTransitionComplete t pd) s fun u =>
           u.fld (PWR_SG_STAT_state g.val) = 5 ∧ u.pd pd.val = 3 ∧ Sparse.get? u.power.target pd.val = some 2 ∧
           u.reg PWR_LAST_WAKE = BitVec.ofNat 32 (source * 2 ^ 24 + g.val * 2 ^ 16) ∧
           u.reg PWR_LAST_WAKE_T = BitVec.ofNat 32 s0.timeNs ∧ LogsOpen s0 u 226 (g.val * 2 ^ 8 + source))

/-- Braces: a WARN crossing halves the clock and is counted, another one continues the brace; 50 µs later a snapshot is
requested; 100 µs after the last one the base step returns with EV208 + m for each dip; more than 16 starts in 1 s raise
EV228 and the alert, which clears 10 s after the last instant that sees more than 16 of them (R425–R428). It rests on the
model's choices of assumption log 159, 160 and 161. -/
def Obligations.Braces : Prop :=
  ∀ (s : State) (t : Nat), let s0 := s.advanceTo t
    let w := s0.power
    let active := s0.fld PWR_BRACE_active
    (∀ (m : Monitor) (mv : Nat), s0.alive = true → mv < (s0.monitor m.val).1 →
      (active = 0 →
        let starts := (w.starts.filter fun e => decide (s0.now < e + edgesS 1)) ++ [s0.now]
        Completes (.warnCrossing t m mv) s fun u =>
          u.fld PWR_BRACE_active = 1 ∧ ClockShows true s0 u ∧ DipNoted m.val mv none s0 u ∧
          u.power = { w with
            starts, braceAt := s0.now, braceSnap := false, dips := [(m.val, ⟨s0.now, mv / 2 * 2⟩)], crossAt := s0.now
            alertAt := if 16 < starts.length then starts.getD (starts.length - 17) 0 + edgesS 1 else w.alertAt } ∧
          (16 < starts.length → u.fld PWR_BRACE_alert = 1 ∧
            (s0.fld PWR_BRACE_alert = 0 → LogsOpen s0 u 228 (min 255 starts.length))) ∧
          (starts.length ≤ 16 → u.fld PWR_BRACE_alert = s0.fld PWR_BRACE_alert ∧ NoEvent s0 u) ∧
          Keeps [.evt, .power] [PWR_BRACE, ENG_CLOCK, PWR_MON_STAT m.val, PWR_MON_DIPS m.val, EVT_LOST] s0 u) ∧
      (active = 1 → Completes (.warnCrossing t m mv) s fun u =>
        DipNoted m.val mv (Sparse.get? w.dips m.val) s0 u ∧ u.power = { w with dips := u.power.dips, crossAt := s0.now } ∧
        Keeps [.power] [PWR_MON_STAT m.val, PWR_MON_DIPS m.val] s0 u)) ∧
    (active = 1 → w.braceSnap = false → s0.elapsed w.braceAt (edgesUs 50) = true → Completes (.braceSnapshot t) s fun u =>
      u.power = { w with braceSnap := true } ∧
      (s0.sbx.queued = none → s0.sbx.lastLimited.any (fun e => !s0.elapsed e (edgesS 1)) = false →
        u.sbx.queued = some { kind := 2 }) ∧
      (s0.sbx.lastLimited.any (fun e => !s0.elapsed e (edgesS 1)) = true →
        u.sbx = { s0.sbx with merged := s0.sbx.merged + 1 }) ∧ Keeps [.power, .sbx] [SBX_STAT] s0 u) ∧
    (active = 1 → s0.elapsed w.crossAt (edgesUs 100) = true → (w.dips.map (·.1)).Nodup → Completes (.braceEnd t) s fun u =>
      u.fld PWR_BRACE_active = 0 ∧ ClockShows false s0 u ∧ u.power = { w with dips := [] } ∧
      (∀ m d, w.dips = [(m, d)] →
        Logs s0 u (208 + m) 1 (d.min * 2 ^ 16 + min 65535 ((s0.now - edgesUs 100 - d.since) / 500))) ∧
      (∀ m d, (m, d) ∈ w.dips → ∃ us, us < 2 ^ 16 ∧ Logs s0 u (208 + m) 1 (d.min * 2 ^ 16 + us)) ∧
      Keeps [.evt, .fresh, .power] [PWR_BRACE, ENG_CLOCK, EVT_LOST] s0 u) ∧
    (s0.fld PWR_BRACE_alert = 1 → s0.elapsed w.alertAt (edgesS 10) = true → Completes (.braceAlertClear t) s fun u =>
      u.fld PWR_BRACE_alert = 0 ∧ u.fld PWR_BRACE_active = active ∧ Keeps [] [PWR_BRACE] s0 u)

/-- A RESET crossing is counted with EV208 + m cause 2 and ends a brace: VDD_IO is an abrupt loss, VDD_AON resets at once, a
lane rail stops the lanes, VDD_CSI turns the cameras off, any other takes a snapshot and then acts as RESET_N, which resets
once every output is unpowered; a recovered rail brings its part back; an expired watchdog raises EV252 and resets after a
snapshot (R288, R297, R429, R445, R496). It rests on the model's choices of assumption log 21 and 165. -/
def Obligations.SupplyResets : Prop :=
  ∀ (s : State) (t : Nat), let s0 := s.advanceTo t
    let powered := ∃ o : Output, s0.panelState o ≠ 0
    let frame := KeepsBlocks [.boot, .cams, .evt, .outs, .power, .sbx]
      [ENG_CLOCK, EVT_LOST, PNL_OUT_STAT 0, SCN_OUT_STAT 0, THM_STATE, PWR_BRACE, SBX_STAT] s0
    (∀ (m : Monitor) (mv : Nat), mv < (s0.monitor m.val).2.1 → s0.boot.phase ≠ .inReset →
      let v := match Sparse.get? s0.power.dips m.val with
        | some d => min d.min (mv / 2 * 2)
        | none => mv / 2 * 2
      let noted (u : State) : Prop := Logs s0 u (208 + m.val) 2 v ∧ u.fld (PWR_MON_STAT_min_mv m.val) = v % 2 ^ 16 ∧
        u.fld (PWR_MON_DIPS_resets m.val) = min (s0.fld (PWR_MON_DIPS_resets m.val) + 1) (2 ^ 16 - 1)
      let braceOver (u : State) : Prop := s0.fld PWR_BRACE_active = 1 → u.fld PWR_BRACE_active = 0 ∧ ClockShows false s0 u
      (s0.power.lossAt ≠ none → Completes (.resetCrossing t m mv) s fun u =>
        noted u ∧ Keeps [.evt] [PWR_MON_STAT m.val, PWR_MON_DIPS m.val, EVT_LOST] s0 u) ∧
      (s0.power.lossAt = none →
        (m.val = 13 → Completes (.resetCrossing t m mv) s fun u => noted u ∧ u.power.lossAt = some s0.now ∧
          u.boot = { s0.boot with phase := .poweredDown, waiting := some .afterSnapshot } ∧
          (∀ o : Output, s0.panelState o ≠ 0 → s0.panelSeq o ≠ 3 → u.panelSeq o = 3 ∧ u.panelState o = 3 ∧ u.panelStep o = 1) ∧
          (∀ pd, pd < 39 ∨ 43 ≤ pd ∧ pd ≤ 46 → u.pd pd = 0)) ∧
        (m.val = 6 → Completes (.resetCrossing t m mv) s fun u => u = s0.afterReset) ∧
        (m.val = 9 ∨ m.val = 10 → Completes (.resetCrossing t m mv) s fun u => noted u ∧ braceOver u ∧
          u.link.stopped = true ∧ m.val ∈ u.power.recovering ∧ LogsOpen s0 u 109 1 ∧ u.fld TIM_STAT_state = 3 ∧
          (∀ h : Hop, u.hopState h = if s0.hopState h = 0 then 0 else 4) ∧
          ∀ n, n < 32 → u.fld (LPH_STAT_deskewed n) = 0 ∧ u.fld (LPH_STAT_block_lock n) = 0) ∧
        (m.val = 14 → Completes (.resetCrossing t m mv) s fun u => noted u ∧ braceOver u ∧ u.pd 36 = 0 ∧
          14 ∈ u.power.recovering ∧ ∀ p : Port, u.fld (CAM_P_STAT_state p.val) =
            if s0.fld (CAM_P_STAT_state p.val) = 0 then 0 else 3) ∧
        (m.val ∉ [6, 9, 10, 13, 14] → Completes (.resetCrossing t m mv) s fun u => noted u ∧ braceOver u ∧
          ResetWaits .afterSnapshot s0 u ∧ (s0.sbx.queued = none → u.sbx.queued = some { kind := 5 }) ∧ frame u))) ∧
    (∀ m : Monitor, s0.alive = true → m.val ∈ s0.power.recovering →
      let rest := s0.power.recovering.filter (· != m.val)
      (m.val = 14 → Completes (.railRecovery t m) s fun u => u.pd 36 = 3 ∧ Sparse.get? u.power.target 36 = some 2 ∧
        u.power.recovering = rest ∧ Keeps [.power] [PWR_PD_STATE 2] s0 u) ∧
      (m.val ≠ 14 → 9 ∈ rest ∨ 10 ∈ rest → Completes (.railRecovery t m) s fun u =>
        u.power = { s0.power with recovering := rest } ∧ Keeps [.power] [] s0 u) ∧
      (m.val ≠ 14 → 9 ∉ rest → 10 ∉ rest → Completes (.railRecovery t m) s fun u =>
        u.power = { s0.power with recovering := rest } ∧ u.link.stopped = false ∧
        (∀ h : Hop, u.hopState h = if s0.hopState h ≠ 0 ∧ s0.fld LNK_STAT_refclk_ok = 1 then 1 else s0.hopState h) ∧
        Keeps [.link, .power] [LNK_STAT] s0 u)) ∧
    (s0.boot.waiting = none →
      (powered → Completes (.resetN t) s fun u => ResetWaits .resetN s0 u ∧ frame u) ∧
      (¬ powered → Completes (.resetN t) s fun u => u = s0.afterReset)) ∧
    ∀ pc : Word, Completes (.conciergeWatchdog t pc) s fun u => LogsOpen s0 u 252 pc.toNat ∧ ResetWaits .afterSnapshot s0 u ∧
      (s0.sbx.queued = none → u.sbx.queued = some { kind := 7 }) ∧ frame u

/-- A housekeeping round takes the readings; a sensor out of range, stuck or off its neighbours fails for good with EV176 +
s and a hold-off of 30 s, and a cluster without sensors leaves service; the maximum, 10 °C higher while one is failed,
enters a threshold in its 2nd round at or above it and leaves it in the 8th below it by 5 °C; throttle levels become pending
or act at once; shutdown turns domains 0–37 off and powers every output off for good (R277, R286, R433–R444). It rests on
the model's choices of assumption log 162, 163 and 164. -/
def Obligations.ThermalRounds : Prop :=
  ∀ (s : State) (t : Nat) (ch : List Int), let s0 := s.advanceTo t
    let read (n : Nat) : Int := ch.getD n 0
    let ain (a : Nat) : Nat := min 4095 (ch.getD (40 + a % 16) 0).toNat
    (56 ≤ ch.length → Completes (.housekeepingRound t ch) s fun u =>
      let valid := (List.range 24).filter fun n => !u.sensorFailed n
      let newly := ∃ n, n < 24 ∧ s0.sensorFailed n = false ∧ s0.sensorCause read n ≠ 0
      let level := if u.therm.forced || u.therm.entered.get 2 then 2 else if u.therm.entered.get 1 then 1 else 0
      u.fld THM_ROUND_count = (s0.fld THM_ROUND_count + 1) % 2 ^ 32 ∧
      (∀ n : Fin 24, u.fld (THM_S_STAT_reading n.val) = patternOf 16 (read n.val) ∧ u.therm.raw.get n = some (read n.val) ∧
        u.fld (THM_S_STAT_same n.val) =
          if s0.therm.raw.get n = some (read n.val) then min 127 (s0.fld (THM_S_STAT_same n.val) + 1) else 0) ∧
      (∀ m, m < 16 → u.fld (PWR_MON_STAT_round_mv m) = (ch.getD (24 + m) 0).toNat % 2 ^ 16 ∧ u.fld (THM_AIN_code m) = ain m) ∧
      (∀ n, n < 24 → s0.sensorFailed n = true ∨ s0.sensorCause read n = 0 → u.sensorFailed n = s0.sensorFailed n ∧
        u.fld (THM_S_STAT_cause n) = s0.fld (THM_S_STAT_cause n)) ∧
      (∀ n c, n < 24 → s0.sensorFailed n = false → s0.sensorCause read n = c → c ≠ 0 → u.sensorFailed n = true ∧
        u.fld (THM_S_STAT_cause n) = c ∧ Logs s0 u (176 + n) c (c * 2 ^ 24 + patternOf 16 (read n))) ∧
      (newly → u.therm.holdUntil = some (s0.now + edgesS 30) ∧ u.fld THM_STATE_valid = valid.length) ∧
      (¬ newly → u.therm.holdUntil = s0.therm.holdUntil.filter fun e => decide (s0.now < e)) ∧
      (valid.length < 8 → u.therm.forced = true ∧ (s0.therm.forced = false → LogsOpen s0 u 206 valid.length)) ∧
      (8 ≤ valid.length → u.therm.forced = s0.therm.forced) ∧
      (∀ cl, cl < 32 → u.sensorFailed (coverSensors cl).1 = true → u.sensorFailed (coverSensors cl).2 = true →
        s0.inService cl = true → u.inService cl = false ∧ u.fld (ENG_CL_STAT_cause cl) = 3 ∧
          (u.boot.phase ≠ .thermalShutdown → s0.pd cl = 2 → u.pd cl = 3 ∧ Sparse.get? u.power.target cl = some 1)) ∧
      (valid = [] → u.reg THM_MAX = s0.reg THM_MAX ∧ u.therm.entered = s0.therm.entered ∧
        (s0.boot.phase ≠ .thermalShutdown → u.therm.level = 2)) ∧
      (∀ k ∈ valid, (∀ n ∈ valid, read n ≤ read k) → ∀ top, top = read k + (if valid.length < 24 then 160 else 0) →
        u.fld THM_MAX_max = patternOf 16 top ∧ u.fld THM_MAX_substituted = b2n (valid.length < 24) ∧
        (s0.boot.phase ≠ .thermalShutdown →
          (∀ i : Fin 4, (s0.therm.entered.get i = false → u.therm.entered.get i =
              (decide (s0.threshold i ≤ top) && decide (1 ≤ s0.therm.above.get i))) ∧
            (s0.therm.entered.get i = true → u.therm.entered.get i =
              !(decide (top < s0.threshold i - 80) && decide (7 ≤ s0.therm.below.get i) &&
                (decide (i = 0) || u.therm.holdUntil.isNone)))) ∧
          (u.therm.entered.get 0 ≠ s0.therm.entered.get 0 →
            Logs s0 u 200 (b2n (u.therm.entered.get 0)) (patternOf 16 top) ∧
            u.fld THM_STATE_warning = b2n (u.therm.entered.get 0)) ∧
          u.therm.level = level ∧
          (level ≠ s0.therm.level → LogsOpen s0 u 201 level ∧
            (s0.lowestActive = none → u.fld THM_STATE_level = level ∧ u.fld THM_STATE_pending = 0) ∧
            ∀ o, s0.lowestActive = some o → (∀ q : Output, u.scanning q = s0.scanning q) →
              u.fld THM_STATE_pending = 1 ∧ u.fld THM_STATE_next = level ∧
              ∃ x ∈ u.therm.steps, x.kind = .throttle level ∧ x.since = s0.now) ∧
          (s0.therm.entered.get 3 = false → u.therm.entered.get 3 = true →
            LogsOpen s0 u 202 (patternOf 16 top) ∧ u.boot = { s0.boot with phase := .thermalShutdown } ∧
            u.fld THM_STATE_shutdown = 1 ∧ (∀ pd, pd < 38 → u.pd pd = 0) ∧
            (s0.sbx.queued = none → u.sbx.queued = some { kind := 6 }) ∧
            ∀ o : Output, s0.panelState o ≠ 0 → s0.panelSeq o < 2 → u.panelSeq o = 2 ∧ u.panelState o = 3))) ∧
      (s0.therm.entered.get 3 = true ∨ u.therm.entered.get 3 = false →
        KeepsBlocks [.cams, .engines, .evt, .outs, .power, .therm] [ENG_CLOCK, EVT_LOST, PNL_OUT_STAT 0, PWR_BRACE,
          RAY_SPAN_FAIL 0, SCN_OUT_STAT 0, THM_STATE] s0 u) ∧
      ∀ (o : Output) (p : PanelRec), s0.itin.panel[o] = some p →
        let temps := (p.thermAin.map fun a => tableTemp p.table (ain a)).filter fun x => decide (-800 ≤ x) && decide (x ≤ 2400)
        (∀ r, r < 4 → u.fld (match r with
            | 0 => PNL_RAIL_A_avdd_mv o.val | 1 => PNL_RAIL_A_vgh_mv o.val
            | 2 => PNL_RAIL_B_vgl_mv o.val | _ => PNL_RAIL_B_vcom_mv o.val) =
          patternOf 16 ((p.rails.getD r {}).mv (ain (p.rails.getD r {}).ain))) ∧
        (s0.bands o ≠ [] → (temps = [] → u.fld (PNL_BAND_tfail o.val) = 1) ∧
          ∀ x ∈ temps, (∀ y ∈ temps, x ≤ y) → u.fld (PNL_BAND_temp o.val) = patternOf 16 x ∧ u.fld (PNL_BAND_tfail o.val) = 0)) ∧
    ∀ e, s0.therm.holdUntil = some e → e ≤ s0.now → Completes (.holdoffExpiry t) s fun u =>
      u.therm = { s0.therm with holdUntil := none } ∧ u.fld THM_STATE_holdoff = 0 ∧ u.fld THM_STATE_holdoff_s = 0 ∧
      Keeps [.therm] [THM_STATE] s0 u

/-- POWER_ON_RESET completes on every input: the straps are sampled, the edges count from 0, the device stands in safe
harbour, in training or in operation, and flash, fuses and Strongbox keep their contents. With BOOT_SAFE, without flash,
without a valid slot or with a PLL that does not lock the device enters safe harbour; else the first valid slot in seq order
starts, EV248 code 0, its records apply, the MAC is enabled unless a PHY write fails, which raises EV127 (R357), and DRAM
trains or is rejected (R239, R414, R441, R445–R448, R456, R461, R464–R467). DRAM_TRAINING_COMPLETE completes on every result
that R237 allows: the channels' margins, attempts and failing steps stand in the registers, bank sweep is over, and the
device is in operation. A margin below the limits of R237, or an error left in the last pattern, fails its channel. With
every channel passed the rooms of the populated channels are fitted and every output whose records hold begins its power-on;
with one failed EV057 names it, no space is mapped, every output fails admission with EV233 and every port is off (R200,
R230, R237, R238, R287, R467). It rests on the model's choices of assumption log 4, 17, 18, 121, 166, 167, 168, 170, 171,
172, 173, 176, 179, 180, 212, 217, 221, 222, 223 and 227. -/
def Obligations.Starts : Prop :=
  (∀ (s : State) (t : Nat) (por : PorInput), let r := s.afterReset
     let readOk (k : Nat) : Bool := if k = 0 then por.readOkA else por.readOkB
     let good (k : Nat) : Bool := headerGood (s.boot.flashBytes (slotBase k) 256)
     let seq (k : Nat) : Word := hdrSeq (s.boot.flashBytes (slotBase k) 256)
     let cause (k : Nat) : Nat := s.boot.slotCause (slotBase k) (readOk k)
     let starts (k : Nat) : Prop := k < 2 ∧ cause k = 0 ∧
       ∀ j, j < 2 → j ≠ k → cause j ≠ 0 ∨ (if k = 0 then serialAbove (seq 1) (seq 0) = false else serialAbove (seq 1) (seq 0) = true)
     s.boot.phase = .inReset →
     Completes (.powerOnReset t por) s (fun u =>
       u.reg CFG_STRAPS = BitVec.ofNat 32 (b2n por.bootSafe * 16 + por.tileId.toNat) ∧
       (u.pd 38 ≠ 0 → u.fld LNK_STAT_tile = por.tileId.toNat) ∧
       u.now = 0 ∧ u.boot.romDone = true ∧ u.boot.phase ∈ [.safeHarbour, .training, .running] ∧ u.boot.flash = s.boot.flash ∧
       u.boot.otp = s.boot.otp ∧ u.sbx.slots = s.sbx.slots ∧ u.pending = s.pending) ∧
     (por.bootSafe = true → Completes (.powerOnReset t por) s fun u => Harbour 1 r u ∧ u.reg CFG_STRAPS =
       BitVec.ofNat 32 (16 + por.tileId.toNat)) ∧
     (por.bootSafe = false →
       (s.boot.flashPresent = false → Completes (.powerOnReset t por) s fun u => Harbour 3 r u) ∧
       (s.boot.flashPresent = true →
         (cause 0 ≠ 0 → cause 1 ≠ 0 → Completes (.powerOnReset t por) s fun u =>
           Harbour 2 r u ∧ u.fld CFG_BOOT_cause_a = cause 0 ∧ u.fld CFG_BOOT_cause_b = cause 1) ∧
         ∀ k, starts k →
           (por.pllOk = false → Completes (.powerOnReset t por) s fun u => Harbour 4 r u) ∧
           (por.pllOk = true → ∀ img rs n, img = s.boot.imageAt (slotBase k) → imageRecords img = some (rs, n) →
             findRec rs 0x60 0 = none → Completes (.powerOnReset t por) s fun u =>
               let it := itinOf rs por.tileId.toNat
               u.reg CFG_STRAPS = BitVec.ofNat 32 por.tileId.toNat ∧ u.boot.image = img ∧ u.boot.flash = s.boot.flash ∧ u.boot.otp = s.boot.otp ∧
               u.sbx.slots = s.sbx.slots ∧ u.now = 0 ∧ u.itin = { it with prog := u.itin.prog } ∧
               u.fld CFG_BOOT_slot = k ∧ u.fld CFG_BOOT_harbour = 0 ∧ u.reg CFG_SEQ = hdrSeq img ∧ u.reg CFG_CRC = hdrCrc img ∧
               u.reg CFG_LEN = BitVec.ofNat 32 (hdrLength img) ∧ Logs r u 248 0 k ∧
               (∀ i w, por.mdioFail = some i → it.wall = some w → i.val < w.writes.length →
                 u.wall.up = false ∧ LogsOpen r u 127 i.val) ∧
               ((∀ i w, por.mdioFail = some i → it.wall = some w → w.writes.length ≤ i.val) → u.wall.up = true) ∧
               (u.pd 36 = 0 ↔ ∀ p : Port, it.camera[p] = none) ∧
               (u.pd 38 = 0 ↔ (it.caravan.any fun c => c.upUsed || c.dnUsed) = false) ∧
               (∀ x, findRec rs 0x42 0 = some x → thermalOk x.body = true → u.fld THM_CFG_warning = leAt x.body 0 1 ∧
                 u.fld THM_CFG_throttle = leAt x.body 1 1 ∧ u.fld THM_CFG_throttle2 = leAt x.body 2 1 ∧
                 u.fld THM_CFG_shutdown = leAt x.body 3 1) ∧
               (it.dram.any dramSupported = true → u.boot.phase = .training ∧ u.boot.dramFailed = false ∧
                 ∀ c ∈ u.populated, u.chState c = 1) ∧
               (it.dram.any dramSupported = false → u.boot.phase = .running ∧ u.boot.dramFailed = true ∧
                 LogsOpen r u 57 (15 * 2 ^ 25) ∧ ∀ c : Channel, u.chState c = 4 ∧
                   u.fld (DRC_CH_TRAIN_fail_step c.val) = 15 ∧ u.fld (DRC_CH_TRAIN_attempts c.val) = 0))))) ∧
  (∀ (s : State) (t : Nat) (res : List ChannelTrain), let s0 := s.advanceTo t
     s0.boot.phase = .training → res.length = s0.populated.length →
     (∀ r ∈ res, 1 ≤ r.attempts ∧ r.attempts ≤ 3 ∧ r.failStep.toNat ≤ 8 ∧ (trainFailedAt r = 0 ∨ r.attempts = 3)) →
     let shown (u : State) : Prop := ∀ (i : Nat) (c : Channel) (r : ChannelTrain), s0.populated[i]? = some c → res[i]? = some r →
       u.chState c = (if trainFailedAt r = 0 then 2 else 4) ∧ u.fld (DRC_CH_TRAIN_attempts c.val) = r.attempts ∧
       u.fld (DRC_CH_TRAIN_fail_step c.val) = trainFailedAt r ∧ u.fld (DRC_CH_MARGIN_ca c.val) = r.ca.toNat ∧
       u.fld (DRC_CH_MARGIN_vrefdq c.val) = r.vrefdq.toNat ∧ u.fld (DRC_CH_MARGIN_write c.val) = r.write.toNat ∧
       u.fld (DRC_CH_MARGIN_read c.val) = r.read.toNat ∧ u.fld (DRC_CH_STAT_sweep c.val) = 0
     Completes (.dramTrainingComplete t res) s (fun u => shown u ∧
       u.boot = { s0.boot with
         phase := .running, dramFailed := s0.boot.dramFailed || res.any (fun r => trainFailedAt r != 0) } ∧
       u.wall = s0.wall ∧ u.link = s0.link ∧ u.servo = s0.servo ∧ u.pending = s.pending) ∧
     (∀ (i : Nat) (r : ChannelTrain), res[i]? = some r → r.failStep = 0 →
       (r.ca.toNat < 24 → trainFailedAt r = 3) ∧
       (24 ≤ r.ca.toNat → r.read.toNat < 16 → trainFailedAt r = 6) ∧
       (24 ≤ r.ca.toNat → 16 ≤ r.read.toNat → r.write.toNat < 16 → trainFailedAt r = 7) ∧
       (24 ≤ r.ca.toNat → 16 ≤ r.read.toNat → 16 ≤ r.write.toNat → (∃ e ∈ r.errors, e ≠ 0) → trainFailedAt r = 8)) ∧
     ((∀ r ∈ res, trainFailedAt r = 0) → Completes (.dramTrainingComplete t res) s fun u =>
       u.fld INK_ROOMS_fitted = s0.fld DRC_CFG_channels * (s0.chanUnits * 64 / roomBytes) % 2 ^ 18 ∧
       (∀ o : Output, o ∈ u.configured → u.configOk o = true → u.panelSeq o = 1 ∧ u.panelState o = 1 ∧ u.panelStep o = 1) ∧
       (∀ o : Output, o ∈ u.configured → u.configOk o = false → u.panelSeq o = s0.panelSeq o ∧
         ∃ x ∈ u.evt.pend, x.src = 233)) ∧
     ((∃ r ∈ res, trainFailedAt r ≠ 0) → Completes (.dramTrainingComplete t res) s fun u =>
       (∀ (i : Nat) (c : Channel) (r : ChannelTrain), s0.populated[i]? = some c → res[i]? = some r → trainFailedAt r ≠ 0 →
         (∀ j x, res[j]? = some x → trainFailedAt x ≠ 0 → j = i) →
         LogsOpen s0 u 57 (c.val * 2 ^ 29 + trainFailedAt r * 2 ^ 25 + r.attempts * 2 ^ 23)) ∧
       u.reg INK_ROOMS = s0.reg INK_ROOMS ∧ u.rooms = s0.rooms ∧ u.outs = s0.outs ∧
       (∀ p : Port, u.cam p = {} ∧ u.fld (CAM_P_STAT_state p.val) = 0) ∧
       ∀ o, o ∈ s0.configured → ∃ x ∈ u.evt.pend, x.src = 233))

/-! ### Failed alcoves of the shared pool -/

/-- A double-bit error in an alcove raises EV244 with its number, and the alcove waits for its spare; the reading goes on: a
line slot with free entries in the word, a line of the ISP with four free samples, a leg with one free word; a list that the
blitter takes is abandoned, and queue entries are aborted. At the owner's next tick a spare replaces the alcove; without one
the output powers off or the port stops, with EV233, and the calibration store stays dead (R208, R209). It rests on the
model's choices of assumption log 191. -/
def Obligations.FailedAlcoves : Prop :=
  ∀ (s : State) (t : Nat), let s0 := s.advanceTo t
    let fails (a : Nat) (o : Output) (p : Option Port) (u : State) : Prop :=
      LogsOpen s0 u 244 (a % 2048) ∧ ((∀ d ∈ s0.rooms.dead, d.alcove ≠ a) → (⟨a, some o, p, true⟩ : DeadAlcove) ∈ u.rooms.dead)
    (∀ (o : Output) (line xs : Nat) (echo : List (Fin 256)),
      let y := line - (s0.outRec o).blank
      (s0.out o).scan.line = line → (s0.outRec o).blank ≤ line → line < s0.frameLines o → s0.lineReached o line = true →
      s0.panelSeq o ≠ 2 → s0.scanning o = true → (s0.out o).cycle.ticked = true → xs < s0.wsub o →
      Completes (.lineSlotStart t o line echo (some xs)) s fun u =>
        fails (s0.ringAlcove o (s0.ringIndex o xs y)) o none u ∧ (u.out o).scan.line = line + 1 ∧
        (∀ k, k / 4 = s0.ringIndex o xs y / 4 → Sparse.get? (u.out o).render.ring k = none) ∧
        (∀ k, k / 4 ≠ s0.ringIndex o xs y / 4 →
          Sparse.get? (u.out o).render.ring k = Sparse.get? (s0.out o).render.ring k)) ∧
    (∀ (p : Port) (h : IspHit) (gen : Word) (codes : List Nat) (rest : List (Word × List Nat)),
      s0.isp.line = none → s0.pd 36 = 2 → s0.nextPort = some p → (s0.cam p).buffer = (gen, codes) :: rest →
      Completes (.ispLineTake t (some h)) s fun u =>
        fails (if h.store then s0.alStore + h.alcove.val else 402 + 2 * p.val + h.alcove.val % 2) (s0.camOutput p) (some p) u ∧
        (u.cam p).buffer = rest ∧ ∃ got, u.isp.line = some (p, gen, got) ∧ got.length = codes.length ∧
          ∀ i, i / 4 ≠ h.word → got.getD i 0 = codes.getD i 0) ∧
    (∀ (u : CodecUnit) (h : WindowHit) (r : LegRun) (s1 : State), let k := r.hdr.chain
      s0.frozen = false → (s0.codec u).leg = some r → r.finished = true → s0.pastB (Fin.ofNat 4 r.hdr.output) = false →
      s0.transact (rqCodec u) (s0.ctxWrite k) = (.done, s1) →
      Completes (.legComplete t u (some h)) s fun v =>
        fails (18 + 16 * u.val + h.alcove.val) (Fin.ofNat 4 r.hdr.output) none v ∧
        LogsOpen s0 v (32 + u.val) r.hdr.legId.toNat ∧ (v.codec u).leg = none ∧
        (v.chain k).pend = some (ctxOf r) ∧
        ((∀ y ∈ ctxOf r :: (s0.chain k).records, (ctxBytes k y).length = 4096) → ∀ x,
          (∀ a, s1.windowWord u r h.pixel = some a → x < a ∨ a + 8 ≤ x) →
          (∀ slot p i, slot < 3 → s0.phys? spCTX (ctxSlot k slot) = some p → i < 4096 → x ≠ p + i) →
          v.memByte x = s0.memByte x)) ∧
    (∀ (o : Output) (k : Fin 8), s0.blitFree = true →
      let lists := s0.porter.qd.filterMap fun w => match w with | .list q n => if q = o then some n else none | _ => none
      (∀ (n : Nat) (x : LegItem) (s1 : State), leastOf lists = some n → s0.item? n = some x →
        s0.transact rqBlitter (s0.itemXacts x 0 x.got false) = (.done, s1) →
        Completes (.overlayListDispatch t o (some k)) s fun v =>
          fails (s0.alBlit + k.val) o none v ∧ Abandoned o (leAt (s0.itemBytes x 0 x.got) 4 1 % 4) false 4 0 s0 v) ∧
      (lists = [] → ClassD.card o ∈ s0.porter.qd → Completes (.staticCardRender t o (some k)) s fun v =>
        fails (s0.alBlit + k.val) o none v ∧ Abandoned o ((s0.cardRec o).plane % 4) true 4 0 s0 v)) ∧
    ∀ (o : Output) (n : Nat), s0.scanning o = true → s0.tickInstant o = some n →
      (∀ d : DeadAlcove, s0.rooms.dead = [d] → d.owner = none ∨ d.owner = some o →
        (0 < s0.fld INK_ALCOVE_spare → Completes (.tick t o none) s fun u =>
          u.rooms.dead = [] ∧ u.fld INK_ALCOVE_spare + 1 = s0.fld INK_ALCOVE_spare ∧
          u.fld INK_ALCOVE_retired = min (s0.fld INK_ALCOVE_retired + 1) 2047 ∧ (u.out o).cycle.tickAt = n) ∧
        (s0.fld INK_ALCOVE_spare = 0 → d.stops = false → Completes (.tick t o none) s fun u =>
          u.rooms.dead = [d] ∧ (u.out o).cycle.tickAt = n) ∧
        (s0.fld INK_ALCOVE_spare = 0 → d.stops = true → d.owner = some o →
          (d.port = none → s0.panelState o ≠ 0 → s0.panelSeq o < 2 → Completes (.tick t o none) s fun u =>
            u.rooms.dead = [] ∧ OffBegins o s0 u ∧
            ((∀ r ∈ s0.evt.pend, r.src ≠ 233) → ∃ r ∈ u.evt.pend, r.src = 233 ∧ r.arg.toNat / 2 ^ 30 = o.val)) ∧
          (∀ p, d.port = some p → Completes (.tick t o none) s fun u =>
            u.rooms.dead = [] ∧ u.fld (CAM_P_STAT_state p.val) = 0 ∧ (u.out o).cycle.tickAt = n))) ∧
      (∀ h : QueueHit, s0.rooms.dead = [] → Completes (.tick t o (some h)) s fun u =>
        LogsOpen s0 u 244 (16 + h.alcove.val) ∧ (⟨16 + h.alcove.val, none, none, false⟩ : DeadAlcove) ∈ u.rooms.dead ∧
        (∀ x ∈ u.porter.qa, ∃ i, i ∉ h.a ∧ s0.porter.qa[i]? = some x) ∧
        (∀ x ∈ u.porter.qb, ∃ i, i ∉ h.b ∧ s0.porter.qb[i]? = some x) ∧ (u.out o).cycle.tickAt = n)
end

