-- ==== Sys2Proof/Laws/Maps.lean ====
section
/-!
SUPPORT. Finite maps and DRAM contents: reading after writing, and the canonical forms that every operation keeps.
-/
namespace Sys2Proof.Machine

/-! ### Finite maps -/

@[simp] theorem Sparse.get?_nil {α : Type} (x : Nat) : Sparse.get? ([] : Sparse α) x = none := rfl

theorem Sparse.get?_set {α : Type} (m : Sparse α) (x y : Nat) (w : α) (h : Sparse.wf m = true) :
    Sparse.get? (Sparse.set m x w) y = if x = y then some w else Sparse.get? m y := by
  induction m with
  | nil => simp [Sparse.set, Sparse.get?]
  | cons p m ih =>
    obtain ⟨k, v⟩ := p
    have hm : Sparse.wf m = true := by
      cases m with
      | nil => rfl
      | cons q m => simp [Sparse.wf] at h; exact h.2
    simp only [Sparse.set]
    by_cases h1 : x < k
    · simp [h1, Sparse.get?]
    · by_cases h2 : x = k
      · subst h2; simp [Sparse.get?]; grind
      · simp [h1, h2, Sparse.get?, ih hm]; grind

/-- Reading another key than the one written, in any list of pairs. -/
theorem Sparse.get?_set_ne {α : Type} (m : Sparse α) (x y : Nat) (w : α) (h : x ≠ y) :
    Sparse.get? (Sparse.set m x w) y = Sparse.get? m y := by
  induction m with
  | nil => simp [Sparse.set, Sparse.get?, h]
  | cons p m ih =>
    obtain ⟨k, v⟩ := p
    simp only [Sparse.set]
    by_cases h1 : x < k
    · simp [h1, Sparse.get?, h]
    · by_cases h2 : x = k
      · subst h2; simp [Sparse.get?, h]
      · simp [h1, h2, Sparse.get?, ih]

/-- Reading the key just written, in any list of pairs. -/
@[simp] theorem Sparse.get?_set_self {α : Type} (m : Sparse α) (x : Nat) (w : α) :
    Sparse.get? (Sparse.set m x w) x = some w := by
  induction m with
  | nil => simp [Sparse.set, Sparse.get?]
  | cons p m ih =>
    obtain ⟨k, v⟩ := p
    simp only [Sparse.set]
    by_cases h1 : x < k
    · simp [h1, Sparse.get?]
    · by_cases h2 : x = k
      · subst h2; simp [Sparse.get?]
      · simp [h1, h2, Sparse.get?, ih, Ne.symm h2]

theorem Sparse.getD_set {α : Type} (m : Sparse α) (x y : Nat) (w d : α) :
    Sparse.getD (Sparse.set m x w) y d = if x = y then w else Sparse.getD m y d := by
  unfold Sparse.getD
  by_cases h : x = y
  · subst h; simp
  · simp [h, Sparse.get?_set_ne _ _ _ _ h]

/-- The keys of a map. -/
theorem Sparse.wf_iff {α : Type} (m : Sparse α) : Sparse.wf m = true ↔ (m.map Prod.fst).Pairwise (· < ·) := by
  induction m with
  | nil => simp [Sparse.wf]
  | cons p m ih =>
    cases m with
    | nil => simp [Sparse.wf]
    | cons q m =>
      simp only [Sparse.wf, Bool.and_eq_true, decide_eq_true_eq, ih]
      simp only [List.map_cons, List.pairwise_cons]
      constructor
      · rintro ⟨h1, h2, h3⟩
        refine ⟨?_, h2, h3⟩
        intro a ha
        simp only [List.mem_cons] at ha
        rcases ha with rfl | ha
        · exact h1
        · have := h2 a ha; omega
      · rintro ⟨h1, h2, h3⟩
        exact ⟨h1 _ (by simp), h2, h3⟩

theorem Sparse.mem_keys_set {α : Type} (m : Sparse α) (x k : Nat) (w : α) (h : k ∈ (Sparse.set m x w).map Prod.fst) :
    k = x ∨ k ∈ m.map Prod.fst := by
  induction m with
  | nil => simpa [Sparse.set] using h
  | cons p m ih =>
    obtain ⟨a, v⟩ := p
    simp only [Sparse.set] at h
    split at h
    · simpa using h
    · split at h
      · simp at h ⊢; grind
      · simp only [List.map_cons, List.mem_cons] at h ⊢
        rcases h with h | h
        · exact Or.inr (Or.inl h)
        · rcases ih h with h | h
          · exact Or.inl h
          · exact Or.inr (Or.inr h)

/-- Writing keeps the canonical form. -/
theorem Sparse.wf_set {α : Type} (m : Sparse α) (x : Nat) (w : α) (h : Sparse.wf m = true) :
    Sparse.wf (Sparse.set m x w) = true := by
  rw [Sparse.wf_iff] at h ⊢
  induction m with
  | nil => simp [Sparse.set]
  | cons p m ih =>
    obtain ⟨a, v⟩ := p
    simp only [List.map_cons, List.pairwise_cons] at h
    simp only [Sparse.set]
    split
    · rename_i hx
      simp only [List.map_cons, List.pairwise_cons, List.mem_cons]
      refine ⟨?_, h.1, h.2⟩
      rintro b (rfl | hb)
      · exact hx
      · have := h.1 b hb; omega
    · split
      · rename_i _ hx
        subst hx
        simpa using h
      · rename_i h1 h2
        simp only [List.map_cons, List.pairwise_cons]
        refine ⟨?_, ih h.2⟩
        intro b hb
        rcases Sparse.mem_keys_set m x b w hb with rfl | hb
        · omega
        · exact h.1 b hb

/-- Filtering keeps the canonical form. -/
theorem Sparse.wf_filter {α : Type} (m : Sparse α) (p : Nat × α → Bool) (h : Sparse.wf m = true) :
    Sparse.wf (m.filter p) = true := by
  rw [Sparse.wf_iff] at h ⊢
  exact h.sublist (List.Sublist.map _ List.filter_sublist)

/-! ### DRAM contents -/

theorem memGet?_eq (m : List Host.Cell) (a : Nat) : memGet? m a = Sparse.get? m a := by
  induction m with
  | nil => rfl
  | cons p m ih => obtain ⟨k, v⟩ := p; simp [memGet?, Sparse.get?, ih]

theorem memSet_eq (m : List Host.Cell) (a : Nat) (b : Byte) : memSet m a b = Sparse.set m a b := by
  induction m with
  | nil => rfl
  | cons p m ih => obtain ⟨k, v⟩ := p; simp [memSet, Sparse.set, ih]

theorem Memory.wf_eq (m : List Host.Cell) : Memory.wf m = Sparse.wf m := by
  induction m with
  | nil => rfl
  | cons p m ih =>
    cases m with
    | nil => rfl
    | cons q m => simp [Memory.wf, Sparse.wf, ih]

/-- One byte written keeps the canonical form of DRAM. -/
theorem Memory.wf_memSet (m : List Host.Cell) (a : Nat) (b : Byte) (h : Memory.wf m = true) :
    Memory.wf (memSet m a b) = true := by
  rw [Memory.wf_eq] at h ⊢
  rw [memSet_eq]
  exact Sparse.wf_set m a b h

/-- So do several. -/
theorem Memory.wf_memSetBytes (m : List Host.Cell) (a : Nat) (bs : Bytes) (h : Memory.wf m = true) :
    Memory.wf (memSetBytes m a bs) = true := by
  induction bs generalizing m a with
  | nil => exact h
  | cons b bs ih => exact ih _ _ (Memory.wf_memSet m a b h)

theorem memGet?_memSet (m : List Host.Cell) (a x : Nat) (b : Byte) :
    memGet? (memSet m a b) x = if a = x then some b else memGet? m x := by
  rw [memGet?_eq, memSet_eq, memGet?_eq]
  by_cases h : a = x
  · subst h; simp
  · simp [h, Sparse.get?_set_ne _ _ _ _ h]

/-- A byte outside what is written reads as before. -/
theorem memGet?_memSetBytes_out (m : List Host.Cell) (a x : Nat) (bs : Bytes) (h : x < a ∨ a + bs.length ≤ x) :
    memGet? (memSetBytes m a bs) x = memGet? m x := by
  induction bs generalizing m a with
  | nil => rfl
  | cons b bs ih =>
    simp only [memSetBytes, List.length_cons] at *
    rw [ih _ _ (by omega), memGet?_memSet, if_neg (by omega)]

/-- A byte written reads as written. -/
theorem memGet?_memSetBytes_in (m : List Host.Cell) (a i : Nat) (bs : Bytes) (h : i < bs.length) :
    memGet? (memSetBytes m a bs) (a + i) = some bs[i] := by
  induction bs generalizing m a i with
  | nil => simp at h
  | cons b bs ih =>
    simp only [memSetBytes]
    cases i with
    | zero =>
      rw [memGet?_memSetBytes_out _ _ _ _ (by omega), memGet?_memSet]
      simp
    | succ i =>
      have := ih (memSet m a b) (a + 1) i (by simpa using h)
      rw [show a + (i + 1) = a + 1 + i by omega, this]
      simp

/-- DRAM after a write: the bytes written where they lie, the others as before. -/
theorem State.memByte_memWrite_out (s : State) (a x : Nat) (bs : Bytes) (h : x < a ∨ a + bs.length ≤ x) :
    (s.memWrite a bs).memByte x = s.memByte x := by
  simp [State.memByte, State.memWrite, memGet?_memSetBytes_out _ _ _ _ h]

theorem State.memByte_memWrite_in (s : State) (a i : Nat) (bs : Bytes) (h : i < bs.length) :
    (s.memWrite a bs).memByte (a + i) = bs[i] := by
  simp [State.memByte, State.memWrite, memGet?_memSetBytes_in _ _ _ _ h]

end Sys2Proof.Machine
end

