-- ==== Sys2Proof/Laws/State.lean ====
section
/-!
SUPPORT. What each update of State leaves as it was: one lemma for each field and update, true by unfolding the record.
-/
namespace Sys2Proof.Machine

variable (s : State)

/-! ### setReg -/

@[simp] theorem State.setReg_pending (a : Nat) (w : Word) : (s.setReg a w).pending = s.pending := rfl
@[simp] theorem State.setReg_fresh (a : Nat) (w : Word) : (s.setReg a w).fresh = s.fresh := rfl
@[simp] theorem State.setReg_clock (a : Nat) (w : Word) : (s.setReg a w).clock = s.clock := rfl
@[simp] theorem State.setReg_shadow (a : Nat) (w : Word) : (s.setReg a w).shadow = s.shadow := rfl
@[simp] theorem State.setReg_lowWords (a : Nat) (w : Word) : (s.setReg a w).lowWords = s.lowWords := rfl
@[simp] theorem State.setReg_boot (a : Nat) (w : Word) : (s.setReg a w).boot = s.boot := rfl
@[simp] theorem State.setReg_itin (a : Nat) (w : Word) : (s.setReg a w).itin = s.itin := rfl
@[simp] theorem State.setReg_evt (a : Nat) (w : Word) : (s.setReg a w).evt = s.evt := rfl
@[simp] theorem State.setReg_sbx (a : Nat) (w : Word) : (s.setReg a w).sbx = s.sbx := rfl
@[simp] theorem State.setReg_svc (a : Nat) (w : Word) : (s.setReg a w).svc = s.svc := rfl
@[simp] theorem State.setReg_dram (a : Nat) (w : Word) : (s.setReg a w).dram = s.dram := rfl
@[simp] theorem State.setReg_rooms (a : Nat) (w : Word) : (s.setReg a w).rooms = s.rooms := rfl
@[simp] theorem State.setReg_porter (a : Nat) (w : Word) : (s.setReg a w).porter = s.porter := rfl
@[simp] theorem State.setReg_outs (a : Nat) (w : Word) : (s.setReg a w).outs = s.outs := rfl
@[simp] theorem State.setReg_engines (a : Nat) (w : Word) : (s.setReg a w).engines = s.engines := rfl
@[simp] theorem State.setReg_caches (a : Nat) (w : Word) : (s.setReg a w).caches = s.caches := rfl
@[simp] theorem State.setReg_imem (a : Nat) (w : Word) : (s.setReg a w).imem = s.imem := rfl
@[simp] theorem State.setReg_codecs (a : Nat) (w : Word) : (s.setReg a w).codecs = s.codecs := rfl
@[simp] theorem State.setReg_chains (a : Nat) (w : Word) : (s.setReg a w).chains = s.chains := rfl
@[simp] theorem State.setReg_link (a : Nat) (w : Word) : (s.setReg a w).link = s.link := rfl
@[simp] theorem State.setReg_servo (a : Nat) (w : Word) : (s.setReg a w).servo = s.servo := rfl
@[simp] theorem State.setReg_wall (a : Nat) (w : Word) : (s.setReg a w).wall = s.wall := rfl
@[simp] theorem State.setReg_cams (a : Nat) (w : Word) : (s.setReg a w).cams = s.cams := rfl
@[simp] theorem State.setReg_isp (a : Nat) (w : Word) : (s.setReg a w).isp = s.isp := rfl
@[simp] theorem State.setReg_blt (a : Nat) (w : Word) : (s.setReg a w).blt = s.blt := rfl
@[simp] theorem State.setReg_power (a : Nat) (w : Word) : (s.setReg a w).power = s.power := rfl
@[simp] theorem State.setReg_therm (a : Nat) (w : Word) : (s.setReg a w).therm = s.therm := rfl
@[simp] theorem State.setReg_stage (a : Nat) (w : Word) : (s.setReg a w).stage = s.stage := rfl
@[simp] theorem State.setReg_energy (a : Nat) (w : Word) : (s.setReg a w).energy = s.energy := rfl

/-! ### setFld -/

@[simp] theorem State.setFld_pending (f : RegField) (v : Nat) : (s.setFld f v).pending = s.pending := rfl
@[simp] theorem State.setFld_fresh (f : RegField) (v : Nat) : (s.setFld f v).fresh = s.fresh := rfl
@[simp] theorem State.setFld_clock (f : RegField) (v : Nat) : (s.setFld f v).clock = s.clock := rfl
@[simp] theorem State.setFld_shadow (f : RegField) (v : Nat) : (s.setFld f v).shadow = s.shadow := rfl
@[simp] theorem State.setFld_lowWords (f : RegField) (v : Nat) : (s.setFld f v).lowWords = s.lowWords := rfl
@[simp] theorem State.setFld_boot (f : RegField) (v : Nat) : (s.setFld f v).boot = s.boot := rfl
@[simp] theorem State.setFld_itin (f : RegField) (v : Nat) : (s.setFld f v).itin = s.itin := rfl
@[simp] theorem State.setFld_evt (f : RegField) (v : Nat) : (s.setFld f v).evt = s.evt := rfl
@[simp] theorem State.setFld_sbx (f : RegField) (v : Nat) : (s.setFld f v).sbx = s.sbx := rfl
@[simp] theorem State.setFld_svc (f : RegField) (v : Nat) : (s.setFld f v).svc = s.svc := rfl
@[simp] theorem State.setFld_dram (f : RegField) (v : Nat) : (s.setFld f v).dram = s.dram := rfl
@[simp] theorem State.setFld_rooms (f : RegField) (v : Nat) : (s.setFld f v).rooms = s.rooms := rfl
@[simp] theorem State.setFld_porter (f : RegField) (v : Nat) : (s.setFld f v).porter = s.porter := rfl
@[simp] theorem State.setFld_outs (f : RegField) (v : Nat) : (s.setFld f v).outs = s.outs := rfl
@[simp] theorem State.setFld_engines (f : RegField) (v : Nat) : (s.setFld f v).engines = s.engines := rfl
@[simp] theorem State.setFld_caches (f : RegField) (v : Nat) : (s.setFld f v).caches = s.caches := rfl
@[simp] theorem State.setFld_imem (f : RegField) (v : Nat) : (s.setFld f v).imem = s.imem := rfl
@[simp] theorem State.setFld_codecs (f : RegField) (v : Nat) : (s.setFld f v).codecs = s.codecs := rfl
@[simp] theorem State.setFld_chains (f : RegField) (v : Nat) : (s.setFld f v).chains = s.chains := rfl
@[simp] theorem State.setFld_link (f : RegField) (v : Nat) : (s.setFld f v).link = s.link := rfl
@[simp] theorem State.setFld_servo (f : RegField) (v : Nat) : (s.setFld f v).servo = s.servo := rfl
@[simp] theorem State.setFld_wall (f : RegField) (v : Nat) : (s.setFld f v).wall = s.wall := rfl
@[simp] theorem State.setFld_cams (f : RegField) (v : Nat) : (s.setFld f v).cams = s.cams := rfl
@[simp] theorem State.setFld_isp (f : RegField) (v : Nat) : (s.setFld f v).isp = s.isp := rfl
@[simp] theorem State.setFld_blt (f : RegField) (v : Nat) : (s.setFld f v).blt = s.blt := rfl
@[simp] theorem State.setFld_power (f : RegField) (v : Nat) : (s.setFld f v).power = s.power := rfl
@[simp] theorem State.setFld_therm (f : RegField) (v : Nat) : (s.setFld f v).therm = s.therm := rfl
@[simp] theorem State.setFld_stage (f : RegField) (v : Nat) : (s.setFld f v).stage = s.stage := rfl
@[simp] theorem State.setFld_energy (f : RegField) (v : Nat) : (s.setFld f v).energy = s.energy := rfl

/-! ### incFld -/

@[simp] theorem State.incFld_pending (f : RegField) (n : Nat) : (s.incFld f n).pending = s.pending := rfl
@[simp] theorem State.incFld_fresh (f : RegField) (n : Nat) : (s.incFld f n).fresh = s.fresh := rfl
@[simp] theorem State.incFld_clock (f : RegField) (n : Nat) : (s.incFld f n).clock = s.clock := rfl
@[simp] theorem State.incFld_shadow (f : RegField) (n : Nat) : (s.incFld f n).shadow = s.shadow := rfl
@[simp] theorem State.incFld_lowWords (f : RegField) (n : Nat) : (s.incFld f n).lowWords = s.lowWords := rfl
@[simp] theorem State.incFld_boot (f : RegField) (n : Nat) : (s.incFld f n).boot = s.boot := rfl
@[simp] theorem State.incFld_itin (f : RegField) (n : Nat) : (s.incFld f n).itin = s.itin := rfl
@[simp] theorem State.incFld_evt (f : RegField) (n : Nat) : (s.incFld f n).evt = s.evt := rfl
@[simp] theorem State.incFld_sbx (f : RegField) (n : Nat) : (s.incFld f n).sbx = s.sbx := rfl
@[simp] theorem State.incFld_svc (f : RegField) (n : Nat) : (s.incFld f n).svc = s.svc := rfl
@[simp] theorem State.incFld_dram (f : RegField) (n : Nat) : (s.incFld f n).dram = s.dram := rfl
@[simp] theorem State.incFld_rooms (f : RegField) (n : Nat) : (s.incFld f n).rooms = s.rooms := rfl
@[simp] theorem State.incFld_porter (f : RegField) (n : Nat) : (s.incFld f n).porter = s.porter := rfl
@[simp] theorem State.incFld_outs (f : RegField) (n : Nat) : (s.incFld f n).outs = s.outs := rfl
@[simp] theorem State.incFld_engines (f : RegField) (n : Nat) : (s.incFld f n).engines = s.engines := rfl
@[simp] theorem State.incFld_caches (f : RegField) (n : Nat) : (s.incFld f n).caches = s.caches := rfl
@[simp] theorem State.incFld_imem (f : RegField) (n : Nat) : (s.incFld f n).imem = s.imem := rfl
@[simp] theorem State.incFld_codecs (f : RegField) (n : Nat) : (s.incFld f n).codecs = s.codecs := rfl
@[simp] theorem State.incFld_chains (f : RegField) (n : Nat) : (s.incFld f n).chains = s.chains := rfl
@[simp] theorem State.incFld_link (f : RegField) (n : Nat) : (s.incFld f n).link = s.link := rfl
@[simp] theorem State.incFld_servo (f : RegField) (n : Nat) : (s.incFld f n).servo = s.servo := rfl
@[simp] theorem State.incFld_wall (f : RegField) (n : Nat) : (s.incFld f n).wall = s.wall := rfl
@[simp] theorem State.incFld_cams (f : RegField) (n : Nat) : (s.incFld f n).cams = s.cams := rfl
@[simp] theorem State.incFld_isp (f : RegField) (n : Nat) : (s.incFld f n).isp = s.isp := rfl
@[simp] theorem State.incFld_blt (f : RegField) (n : Nat) : (s.incFld f n).blt = s.blt := rfl
@[simp] theorem State.incFld_power (f : RegField) (n : Nat) : (s.incFld f n).power = s.power := rfl
@[simp] theorem State.incFld_therm (f : RegField) (n : Nat) : (s.incFld f n).therm = s.therm := rfl
@[simp] theorem State.incFld_stage (f : RegField) (n : Nat) : (s.incFld f n).stage = s.stage := rfl
@[simp] theorem State.incFld_energy (f : RegField) (n : Nat) : (s.incFld f n).energy = s.energy := rfl

/-! ### wrapFld -/

@[simp] theorem State.wrapFld_pending (f : RegField) : (s.wrapFld f).pending = s.pending := rfl
@[simp] theorem State.wrapFld_fresh (f : RegField) : (s.wrapFld f).fresh = s.fresh := rfl
@[simp] theorem State.wrapFld_clock (f : RegField) : (s.wrapFld f).clock = s.clock := rfl
@[simp] theorem State.wrapFld_shadow (f : RegField) : (s.wrapFld f).shadow = s.shadow := rfl
@[simp] theorem State.wrapFld_lowWords (f : RegField) : (s.wrapFld f).lowWords = s.lowWords := rfl
@[simp] theorem State.wrapFld_boot (f : RegField) : (s.wrapFld f).boot = s.boot := rfl
@[simp] theorem State.wrapFld_itin (f : RegField) : (s.wrapFld f).itin = s.itin := rfl
@[simp] theorem State.wrapFld_evt (f : RegField) : (s.wrapFld f).evt = s.evt := rfl
@[simp] theorem State.wrapFld_sbx (f : RegField) : (s.wrapFld f).sbx = s.sbx := rfl
@[simp] theorem State.wrapFld_svc (f : RegField) : (s.wrapFld f).svc = s.svc := rfl
@[simp] theorem State.wrapFld_dram (f : RegField) : (s.wrapFld f).dram = s.dram := rfl
@[simp] theorem State.wrapFld_rooms (f : RegField) : (s.wrapFld f).rooms = s.rooms := rfl
@[simp] theorem State.wrapFld_porter (f : RegField) : (s.wrapFld f).porter = s.porter := rfl
@[simp] theorem State.wrapFld_outs (f : RegField) : (s.wrapFld f).outs = s.outs := rfl
@[simp] theorem State.wrapFld_engines (f : RegField) : (s.wrapFld f).engines = s.engines := rfl
@[simp] theorem State.wrapFld_caches (f : RegField) : (s.wrapFld f).caches = s.caches := rfl
@[simp] theorem State.wrapFld_imem (f : RegField) : (s.wrapFld f).imem = s.imem := rfl
@[simp] theorem State.wrapFld_codecs (f : RegField) : (s.wrapFld f).codecs = s.codecs := rfl
@[simp] theorem State.wrapFld_chains (f : RegField) : (s.wrapFld f).chains = s.chains := rfl
@[simp] theorem State.wrapFld_link (f : RegField) : (s.wrapFld f).link = s.link := rfl
@[simp] theorem State.wrapFld_servo (f : RegField) : (s.wrapFld f).servo = s.servo := rfl
@[simp] theorem State.wrapFld_wall (f : RegField) : (s.wrapFld f).wall = s.wall := rfl
@[simp] theorem State.wrapFld_cams (f : RegField) : (s.wrapFld f).cams = s.cams := rfl
@[simp] theorem State.wrapFld_isp (f : RegField) : (s.wrapFld f).isp = s.isp := rfl
@[simp] theorem State.wrapFld_blt (f : RegField) : (s.wrapFld f).blt = s.blt := rfl
@[simp] theorem State.wrapFld_power (f : RegField) : (s.wrapFld f).power = s.power := rfl
@[simp] theorem State.wrapFld_therm (f : RegField) : (s.wrapFld f).therm = s.therm := rfl
@[simp] theorem State.wrapFld_stage (f : RegField) : (s.wrapFld f).stage = s.stage := rfl
@[simp] theorem State.wrapFld_energy (f : RegField) : (s.wrapFld f).energy = s.energy := rfl

/-! ### setPair -/

@[simp] theorem State.setPair_pending (lo hi v : Nat) : (s.setPair lo hi v).pending = s.pending := rfl
@[simp] theorem State.setPair_fresh (lo hi v : Nat) : (s.setPair lo hi v).fresh = s.fresh := rfl
@[simp] theorem State.setPair_clock (lo hi v : Nat) : (s.setPair lo hi v).clock = s.clock := rfl
@[simp] theorem State.setPair_shadow (lo hi v : Nat) : (s.setPair lo hi v).shadow = s.shadow := rfl
@[simp] theorem State.setPair_lowWords (lo hi v : Nat) : (s.setPair lo hi v).lowWords = s.lowWords := rfl
@[simp] theorem State.setPair_boot (lo hi v : Nat) : (s.setPair lo hi v).boot = s.boot := rfl
@[simp] theorem State.setPair_itin (lo hi v : Nat) : (s.setPair lo hi v).itin = s.itin := rfl
@[simp] theorem State.setPair_evt (lo hi v : Nat) : (s.setPair lo hi v).evt = s.evt := rfl
@[simp] theorem State.setPair_sbx (lo hi v : Nat) : (s.setPair lo hi v).sbx = s.sbx := rfl
@[simp] theorem State.setPair_svc (lo hi v : Nat) : (s.setPair lo hi v).svc = s.svc := rfl
@[simp] theorem State.setPair_dram (lo hi v : Nat) : (s.setPair lo hi v).dram = s.dram := rfl
@[simp] theorem State.setPair_rooms (lo hi v : Nat) : (s.setPair lo hi v).rooms = s.rooms := rfl
@[simp] theorem State.setPair_porter (lo hi v : Nat) : (s.setPair lo hi v).porter = s.porter := rfl
@[simp] theorem State.setPair_outs (lo hi v : Nat) : (s.setPair lo hi v).outs = s.outs := rfl
@[simp] theorem State.setPair_engines (lo hi v : Nat) : (s.setPair lo hi v).engines = s.engines := rfl
@[simp] theorem State.setPair_caches (lo hi v : Nat) : (s.setPair lo hi v).caches = s.caches := rfl
@[simp] theorem State.setPair_imem (lo hi v : Nat) : (s.setPair lo hi v).imem = s.imem := rfl
@[simp] theorem State.setPair_codecs (lo hi v : Nat) : (s.setPair lo hi v).codecs = s.codecs := rfl
@[simp] theorem State.setPair_chains (lo hi v : Nat) : (s.setPair lo hi v).chains = s.chains := rfl
@[simp] theorem State.setPair_link (lo hi v : Nat) : (s.setPair lo hi v).link = s.link := rfl
@[simp] theorem State.setPair_servo (lo hi v : Nat) : (s.setPair lo hi v).servo = s.servo := rfl
@[simp] theorem State.setPair_wall (lo hi v : Nat) : (s.setPair lo hi v).wall = s.wall := rfl
@[simp] theorem State.setPair_cams (lo hi v : Nat) : (s.setPair lo hi v).cams = s.cams := rfl
@[simp] theorem State.setPair_isp (lo hi v : Nat) : (s.setPair lo hi v).isp = s.isp := rfl
@[simp] theorem State.setPair_blt (lo hi v : Nat) : (s.setPair lo hi v).blt = s.blt := rfl
@[simp] theorem State.setPair_power (lo hi v : Nat) : (s.setPair lo hi v).power = s.power := rfl
@[simp] theorem State.setPair_therm (lo hi v : Nat) : (s.setPair lo hi v).therm = s.therm := rfl
@[simp] theorem State.setPair_stage (lo hi v : Nat) : (s.setPair lo hi v).stage = s.stage := rfl
@[simp] theorem State.setPair_energy (lo hi v : Nat) : (s.setPair lo hi v).energy = s.energy := rfl

/-! ### setPd -/

@[simp] theorem State.setPd_pending (k v : Nat) : (s.setPd k v).pending = s.pending := rfl
@[simp] theorem State.setPd_fresh (k v : Nat) : (s.setPd k v).fresh = s.fresh := rfl
@[simp] theorem State.setPd_clock (k v : Nat) : (s.setPd k v).clock = s.clock := rfl
@[simp] theorem State.setPd_shadow (k v : Nat) : (s.setPd k v).shadow = s.shadow := rfl
@[simp] theorem State.setPd_lowWords (k v : Nat) : (s.setPd k v).lowWords = s.lowWords := rfl
@[simp] theorem State.setPd_boot (k v : Nat) : (s.setPd k v).boot = s.boot := rfl
@[simp] theorem State.setPd_itin (k v : Nat) : (s.setPd k v).itin = s.itin := rfl
@[simp] theorem State.setPd_evt (k v : Nat) : (s.setPd k v).evt = s.evt := rfl
@[simp] theorem State.setPd_sbx (k v : Nat) : (s.setPd k v).sbx = s.sbx := rfl
@[simp] theorem State.setPd_svc (k v : Nat) : (s.setPd k v).svc = s.svc := rfl
@[simp] theorem State.setPd_dram (k v : Nat) : (s.setPd k v).dram = s.dram := rfl
@[simp] theorem State.setPd_rooms (k v : Nat) : (s.setPd k v).rooms = s.rooms := rfl
@[simp] theorem State.setPd_porter (k v : Nat) : (s.setPd k v).porter = s.porter := rfl
@[simp] theorem State.setPd_outs (k v : Nat) : (s.setPd k v).outs = s.outs := rfl
@[simp] theorem State.setPd_engines (k v : Nat) : (s.setPd k v).engines = s.engines := rfl
@[simp] theorem State.setPd_caches (k v : Nat) : (s.setPd k v).caches = s.caches := rfl
@[simp] theorem State.setPd_imem (k v : Nat) : (s.setPd k v).imem = s.imem := rfl
@[simp] theorem State.setPd_codecs (k v : Nat) : (s.setPd k v).codecs = s.codecs := rfl
@[simp] theorem State.setPd_chains (k v : Nat) : (s.setPd k v).chains = s.chains := rfl
@[simp] theorem State.setPd_link (k v : Nat) : (s.setPd k v).link = s.link := rfl
@[simp] theorem State.setPd_servo (k v : Nat) : (s.setPd k v).servo = s.servo := rfl
@[simp] theorem State.setPd_wall (k v : Nat) : (s.setPd k v).wall = s.wall := rfl
@[simp] theorem State.setPd_cams (k v : Nat) : (s.setPd k v).cams = s.cams := rfl
@[simp] theorem State.setPd_isp (k v : Nat) : (s.setPd k v).isp = s.isp := rfl
@[simp] theorem State.setPd_blt (k v : Nat) : (s.setPd k v).blt = s.blt := rfl
@[simp] theorem State.setPd_power (k v : Nat) : (s.setPd k v).power = s.power := rfl
@[simp] theorem State.setPd_therm (k v : Nat) : (s.setPd k v).therm = s.therm := rfl
@[simp] theorem State.setPd_stage (k v : Nat) : (s.setPd k v).stage = s.stage := rfl
@[simp] theorem State.setPd_energy (k v : Nat) : (s.setPd k v).energy = s.energy := rfl

/-! ### setOut -/

@[simp] theorem State.setOut_pending (o : Output) (x : Out) : (s.setOut o x).pending = s.pending := rfl
@[simp] theorem State.setOut_fresh (o : Output) (x : Out) : (s.setOut o x).fresh = s.fresh := rfl
@[simp] theorem State.setOut_clock (o : Output) (x : Out) : (s.setOut o x).clock = s.clock := rfl
@[simp] theorem State.setOut_regs (o : Output) (x : Out) : (s.setOut o x).regs = s.regs := rfl
@[simp] theorem State.setOut_shadow (o : Output) (x : Out) : (s.setOut o x).shadow = s.shadow := rfl
@[simp] theorem State.setOut_lowWords (o : Output) (x : Out) : (s.setOut o x).lowWords = s.lowWords := rfl
@[simp] theorem State.setOut_boot (o : Output) (x : Out) : (s.setOut o x).boot = s.boot := rfl
@[simp] theorem State.setOut_itin (o : Output) (x : Out) : (s.setOut o x).itin = s.itin := rfl
@[simp] theorem State.setOut_evt (o : Output) (x : Out) : (s.setOut o x).evt = s.evt := rfl
@[simp] theorem State.setOut_sbx (o : Output) (x : Out) : (s.setOut o x).sbx = s.sbx := rfl
@[simp] theorem State.setOut_svc (o : Output) (x : Out) : (s.setOut o x).svc = s.svc := rfl
@[simp] theorem State.setOut_dram (o : Output) (x : Out) : (s.setOut o x).dram = s.dram := rfl
@[simp] theorem State.setOut_rooms (o : Output) (x : Out) : (s.setOut o x).rooms = s.rooms := rfl
@[simp] theorem State.setOut_porter (o : Output) (x : Out) : (s.setOut o x).porter = s.porter := rfl
@[simp] theorem State.setOut_engines (o : Output) (x : Out) : (s.setOut o x).engines = s.engines := rfl
@[simp] theorem State.setOut_caches (o : Output) (x : Out) : (s.setOut o x).caches = s.caches := rfl
@[simp] theorem State.setOut_imem (o : Output) (x : Out) : (s.setOut o x).imem = s.imem := rfl
@[simp] theorem State.setOut_codecs (o : Output) (x : Out) : (s.setOut o x).codecs = s.codecs := rfl
@[simp] theorem State.setOut_chains (o : Output) (x : Out) : (s.setOut o x).chains = s.chains := rfl
@[simp] theorem State.setOut_link (o : Output) (x : Out) : (s.setOut o x).link = s.link := rfl
@[simp] theorem State.setOut_servo (o : Output) (x : Out) : (s.setOut o x).servo = s.servo := rfl
@[simp] theorem State.setOut_wall (o : Output) (x : Out) : (s.setOut o x).wall = s.wall := rfl
@[simp] theorem State.setOut_cams (o : Output) (x : Out) : (s.setOut o x).cams = s.cams := rfl
@[simp] theorem State.setOut_isp (o : Output) (x : Out) : (s.setOut o x).isp = s.isp := rfl
@[simp] theorem State.setOut_blt (o : Output) (x : Out) : (s.setOut o x).blt = s.blt := rfl
@[simp] theorem State.setOut_power (o : Output) (x : Out) : (s.setOut o x).power = s.power := rfl
@[simp] theorem State.setOut_therm (o : Output) (x : Out) : (s.setOut o x).therm = s.therm := rfl
@[simp] theorem State.setOut_stage (o : Output) (x : Out) : (s.setOut o x).stage = s.stage := rfl
@[simp] theorem State.setOut_energy (o : Output) (x : Out) : (s.setOut o x).energy = s.energy := rfl

/-! ### updCycle -/

@[simp] theorem State.updCycle_pending (o : Output) (f : Cycle → Cycle) : (s.updCycle o f).pending = s.pending := rfl
@[simp] theorem State.updCycle_fresh (o : Output) (f : Cycle → Cycle) : (s.updCycle o f).fresh = s.fresh := rfl
@[simp] theorem State.updCycle_clock (o : Output) (f : Cycle → Cycle) : (s.updCycle o f).clock = s.clock := rfl
@[simp] theorem State.updCycle_regs (o : Output) (f : Cycle → Cycle) : (s.updCycle o f).regs = s.regs := rfl
@[simp] theorem State.updCycle_shadow (o : Output) (f : Cycle → Cycle) : (s.updCycle o f).shadow = s.shadow := rfl
@[simp] theorem State.updCycle_lowWords (o : Output) (f : Cycle → Cycle) : (s.updCycle o f).lowWords = s.lowWords := rfl
@[simp] theorem State.updCycle_boot (o : Output) (f : Cycle → Cycle) : (s.updCycle o f).boot = s.boot := rfl
@[simp] theorem State.updCycle_itin (o : Output) (f : Cycle → Cycle) : (s.updCycle o f).itin = s.itin := rfl
@[simp] theorem State.updCycle_evt (o : Output) (f : Cycle → Cycle) : (s.updCycle o f).evt = s.evt := rfl
@[simp] theorem State.updCycle_sbx (o : Output) (f : Cycle → Cycle) : (s.updCycle o f).sbx = s.sbx := rfl
@[simp] theorem State.updCycle_svc (o : Output) (f : Cycle → Cycle) : (s.updCycle o f).svc = s.svc := rfl
@[simp] theorem State.updCycle_dram (o : Output) (f : Cycle → Cycle) : (s.updCycle o f).dram = s.dram := rfl
@[simp] theorem State.updCycle_rooms (o : Output) (f : Cycle → Cycle) : (s.updCycle o f).rooms = s.rooms := rfl
@[simp] theorem State.updCycle_porter (o : Output) (f : Cycle → Cycle) : (s.updCycle o f).porter = s.porter := rfl
@[simp] theorem State.updCycle_engines (o : Output) (f : Cycle → Cycle) : (s.updCycle o f).engines = s.engines := rfl
@[simp] theorem State.updCycle_caches (o : Output) (f : Cycle → Cycle) : (s.updCycle o f).caches = s.caches := rfl
@[simp] theorem State.updCycle_imem (o : Output) (f : Cycle → Cycle) : (s.updCycle o f).imem = s.imem := rfl
@[simp] theorem State.updCycle_codecs (o : Output) (f : Cycle → Cycle) : (s.updCycle o f).codecs = s.codecs := rfl
@[simp] theorem State.updCycle_chains (o : Output) (f : Cycle → Cycle) : (s.updCycle o f).chains = s.chains := rfl
@[simp] theorem State.updCycle_link (o : Output) (f : Cycle → Cycle) : (s.updCycle o f).link = s.link := rfl
@[simp] theorem State.updCycle_servo (o : Output) (f : Cycle → Cycle) : (s.updCycle o f).servo = s.servo := rfl
@[simp] theorem State.updCycle_wall (o : Output) (f : Cycle → Cycle) : (s.updCycle o f).wall = s.wall := rfl
@[simp] theorem State.updCycle_cams (o : Output) (f : Cycle → Cycle) : (s.updCycle o f).cams = s.cams := rfl
@[simp] theorem State.updCycle_isp (o : Output) (f : Cycle → Cycle) : (s.updCycle o f).isp = s.isp := rfl
@[simp] theorem State.updCycle_blt (o : Output) (f : Cycle → Cycle) : (s.updCycle o f).blt = s.blt := rfl
@[simp] theorem State.updCycle_power (o : Output) (f : Cycle → Cycle) : (s.updCycle o f).power = s.power := rfl
@[simp] theorem State.updCycle_therm (o : Output) (f : Cycle → Cycle) : (s.updCycle o f).therm = s.therm := rfl
@[simp] theorem State.updCycle_stage (o : Output) (f : Cycle → Cycle) : (s.updCycle o f).stage = s.stage := rfl
@[simp] theorem State.updCycle_energy (o : Output) (f : Cycle → Cycle) : (s.updCycle o f).energy = s.energy := rfl

/-! ### updRender -/

@[simp] theorem State.updRender_pending (o : Output) (f : Render → Render) : (s.updRender o f).pending = s.pending := rfl
@[simp] theorem State.updRender_fresh (o : Output) (f : Render → Render) : (s.updRender o f).fresh = s.fresh := rfl
@[simp] theorem State.updRender_clock (o : Output) (f : Render → Render) : (s.updRender o f).clock = s.clock := rfl
@[simp] theorem State.updRender_regs (o : Output) (f : Render → Render) : (s.updRender o f).regs = s.regs := rfl
@[simp] theorem State.updRender_shadow (o : Output) (f : Render → Render) : (s.updRender o f).shadow = s.shadow := rfl
@[simp] theorem State.updRender_lowWords (o : Output) (f : Render → Render) : (s.updRender o f).lowWords = s.lowWords := rfl
@[simp] theorem State.updRender_boot (o : Output) (f : Render → Render) : (s.updRender o f).boot = s.boot := rfl
@[simp] theorem State.updRender_itin (o : Output) (f : Render → Render) : (s.updRender o f).itin = s.itin := rfl
@[simp] theorem State.updRender_evt (o : Output) (f : Render → Render) : (s.updRender o f).evt = s.evt := rfl
@[simp] theorem State.updRender_sbx (o : Output) (f : Render → Render) : (s.updRender o f).sbx = s.sbx := rfl
@[simp] theorem State.updRender_svc (o : Output) (f : Render → Render) : (s.updRender o f).svc = s.svc := rfl
@[simp] theorem State.updRender_dram (o : Output) (f : Render → Render) : (s.updRender o f).dram = s.dram := rfl
@[simp] theorem State.updRender_rooms (o : Output) (f : Render → Render) : (s.updRender o f).rooms = s.rooms := rfl
@[simp] theorem State.updRender_porter (o : Output) (f : Render → Render) : (s.updRender o f).porter = s.porter := rfl
@[simp] theorem State.updRender_engines (o : Output) (f : Render → Render) : (s.updRender o f).engines = s.engines := rfl
@[simp] theorem State.updRender_caches (o : Output) (f : Render → Render) : (s.updRender o f).caches = s.caches := rfl
@[simp] theorem State.updRender_imem (o : Output) (f : Render → Render) : (s.updRender o f).imem = s.imem := rfl
@[simp] theorem State.updRender_codecs (o : Output) (f : Render → Render) : (s.updRender o f).codecs = s.codecs := rfl
@[simp] theorem State.updRender_chains (o : Output) (f : Render → Render) : (s.updRender o f).chains = s.chains := rfl
@[simp] theorem State.updRender_link (o : Output) (f : Render → Render) : (s.updRender o f).link = s.link := rfl
@[simp] theorem State.updRender_servo (o : Output) (f : Render → Render) : (s.updRender o f).servo = s.servo := rfl
@[simp] theorem State.updRender_wall (o : Output) (f : Render → Render) : (s.updRender o f).wall = s.wall := rfl
@[simp] theorem State.updRender_cams (o : Output) (f : Render → Render) : (s.updRender o f).cams = s.cams := rfl
@[simp] theorem State.updRender_isp (o : Output) (f : Render → Render) : (s.updRender o f).isp = s.isp := rfl
@[simp] theorem State.updRender_blt (o : Output) (f : Render → Render) : (s.updRender o f).blt = s.blt := rfl
@[simp] theorem State.updRender_power (o : Output) (f : Render → Render) : (s.updRender o f).power = s.power := rfl
@[simp] theorem State.updRender_therm (o : Output) (f : Render → Render) : (s.updRender o f).therm = s.therm := rfl
@[simp] theorem State.updRender_stage (o : Output) (f : Render → Render) : (s.updRender o f).stage = s.stage := rfl
@[simp] theorem State.updRender_energy (o : Output) (f : Render → Render) : (s.updRender o f).energy = s.energy := rfl

/-! ### updScan -/

@[simp] theorem State.updScan_pending (o : Output) (f : Scan → Scan) : (s.updScan o f).pending = s.pending := rfl
@[simp] theorem State.updScan_fresh (o : Output) (f : Scan → Scan) : (s.updScan o f).fresh = s.fresh := rfl
@[simp] theorem State.updScan_clock (o : Output) (f : Scan → Scan) : (s.updScan o f).clock = s.clock := rfl
@[simp] theorem State.updScan_regs (o : Output) (f : Scan → Scan) : (s.updScan o f).regs = s.regs := rfl
@[simp] theorem State.updScan_shadow (o : Output) (f : Scan → Scan) : (s.updScan o f).shadow = s.shadow := rfl
@[simp] theorem State.updScan_lowWords (o : Output) (f : Scan → Scan) : (s.updScan o f).lowWords = s.lowWords := rfl
@[simp] theorem State.updScan_boot (o : Output) (f : Scan → Scan) : (s.updScan o f).boot = s.boot := rfl
@[simp] theorem State.updScan_itin (o : Output) (f : Scan → Scan) : (s.updScan o f).itin = s.itin := rfl
@[simp] theorem State.updScan_evt (o : Output) (f : Scan → Scan) : (s.updScan o f).evt = s.evt := rfl
@[simp] theorem State.updScan_sbx (o : Output) (f : Scan → Scan) : (s.updScan o f).sbx = s.sbx := rfl
@[simp] theorem State.updScan_svc (o : Output) (f : Scan → Scan) : (s.updScan o f).svc = s.svc := rfl
@[simp] theorem State.updScan_dram (o : Output) (f : Scan → Scan) : (s.updScan o f).dram = s.dram := rfl
@[simp] theorem State.updScan_rooms (o : Output) (f : Scan → Scan) : (s.updScan o f).rooms = s.rooms := rfl
@[simp] theorem State.updScan_porter (o : Output) (f : Scan → Scan) : (s.updScan o f).porter = s.porter := rfl
@[simp] theorem State.updScan_engines (o : Output) (f : Scan → Scan) : (s.updScan o f).engines = s.engines := rfl
@[simp] theorem State.updScan_caches (o : Output) (f : Scan → Scan) : (s.updScan o f).caches = s.caches := rfl
@[simp] theorem State.updScan_imem (o : Output) (f : Scan → Scan) : (s.updScan o f).imem = s.imem := rfl
@[simp] theorem State.updScan_codecs (o : Output) (f : Scan → Scan) : (s.updScan o f).codecs = s.codecs := rfl
@[simp] theorem State.updScan_chains (o : Output) (f : Scan → Scan) : (s.updScan o f).chains = s.chains := rfl
@[simp] theorem State.updScan_link (o : Output) (f : Scan → Scan) : (s.updScan o f).link = s.link := rfl
@[simp] theorem State.updScan_servo (o : Output) (f : Scan → Scan) : (s.updScan o f).servo = s.servo := rfl
@[simp] theorem State.updScan_wall (o : Output) (f : Scan → Scan) : (s.updScan o f).wall = s.wall := rfl
@[simp] theorem State.updScan_cams (o : Output) (f : Scan → Scan) : (s.updScan o f).cams = s.cams := rfl
@[simp] theorem State.updScan_isp (o : Output) (f : Scan → Scan) : (s.updScan o f).isp = s.isp := rfl
@[simp] theorem State.updScan_blt (o : Output) (f : Scan → Scan) : (s.updScan o f).blt = s.blt := rfl
@[simp] theorem State.updScan_power (o : Output) (f : Scan → Scan) : (s.updScan o f).power = s.power := rfl
@[simp] theorem State.updScan_therm (o : Output) (f : Scan → Scan) : (s.updScan o f).therm = s.therm := rfl
@[simp] theorem State.updScan_stage (o : Output) (f : Scan → Scan) : (s.updScan o f).stage = s.stage := rfl
@[simp] theorem State.updScan_energy (o : Output) (f : Scan → Scan) : (s.updScan o f).energy = s.energy := rfl

/-! ### updPlay -/

@[simp] theorem State.updPlay_pending (o : Output) (f : Play → Play) : (s.updPlay o f).pending = s.pending := rfl
@[simp] theorem State.updPlay_fresh (o : Output) (f : Play → Play) : (s.updPlay o f).fresh = s.fresh := rfl
@[simp] theorem State.updPlay_clock (o : Output) (f : Play → Play) : (s.updPlay o f).clock = s.clock := rfl
@[simp] theorem State.updPlay_regs (o : Output) (f : Play → Play) : (s.updPlay o f).regs = s.regs := rfl
@[simp] theorem State.updPlay_shadow (o : Output) (f : Play → Play) : (s.updPlay o f).shadow = s.shadow := rfl
@[simp] theorem State.updPlay_lowWords (o : Output) (f : Play → Play) : (s.updPlay o f).lowWords = s.lowWords := rfl
@[simp] theorem State.updPlay_boot (o : Output) (f : Play → Play) : (s.updPlay o f).boot = s.boot := rfl
@[simp] theorem State.updPlay_itin (o : Output) (f : Play → Play) : (s.updPlay o f).itin = s.itin := rfl
@[simp] theorem State.updPlay_evt (o : Output) (f : Play → Play) : (s.updPlay o f).evt = s.evt := rfl
@[simp] theorem State.updPlay_sbx (o : Output) (f : Play → Play) : (s.updPlay o f).sbx = s.sbx := rfl
@[simp] theorem State.updPlay_svc (o : Output) (f : Play → Play) : (s.updPlay o f).svc = s.svc := rfl
@[simp] theorem State.updPlay_dram (o : Output) (f : Play → Play) : (s.updPlay o f).dram = s.dram := rfl
@[simp] theorem State.updPlay_rooms (o : Output) (f : Play → Play) : (s.updPlay o f).rooms = s.rooms := rfl
@[simp] theorem State.updPlay_porter (o : Output) (f : Play → Play) : (s.updPlay o f).porter = s.porter := rfl
@[simp] theorem State.updPlay_engines (o : Output) (f : Play → Play) : (s.updPlay o f).engines = s.engines := rfl
@[simp] theorem State.updPlay_caches (o : Output) (f : Play → Play) : (s.updPlay o f).caches = s.caches := rfl
@[simp] theorem State.updPlay_imem (o : Output) (f : Play → Play) : (s.updPlay o f).imem = s.imem := rfl
@[simp] theorem State.updPlay_codecs (o : Output) (f : Play → Play) : (s.updPlay o f).codecs = s.codecs := rfl
@[simp] theorem State.updPlay_chains (o : Output) (f : Play → Play) : (s.updPlay o f).chains = s.chains := rfl
@[simp] theorem State.updPlay_link (o : Output) (f : Play → Play) : (s.updPlay o f).link = s.link := rfl
@[simp] theorem State.updPlay_servo (o : Output) (f : Play → Play) : (s.updPlay o f).servo = s.servo := rfl
@[simp] theorem State.updPlay_wall (o : Output) (f : Play → Play) : (s.updPlay o f).wall = s.wall := rfl
@[simp] theorem State.updPlay_cams (o : Output) (f : Play → Play) : (s.updPlay o f).cams = s.cams := rfl
@[simp] theorem State.updPlay_isp (o : Output) (f : Play → Play) : (s.updPlay o f).isp = s.isp := rfl
@[simp] theorem State.updPlay_blt (o : Output) (f : Play → Play) : (s.updPlay o f).blt = s.blt := rfl
@[simp] theorem State.updPlay_power (o : Output) (f : Play → Play) : (s.updPlay o f).power = s.power := rfl
@[simp] theorem State.updPlay_therm (o : Output) (f : Play → Play) : (s.updPlay o f).therm = s.therm := rfl
@[simp] theorem State.updPlay_stage (o : Output) (f : Play → Play) : (s.updPlay o f).stage = s.stage := rfl
@[simp] theorem State.updPlay_energy (o : Output) (f : Play → Play) : (s.updPlay o f).energy = s.energy := rfl

/-! ### setCodec -/

@[simp] theorem State.setCodec_pending (u : CodecUnit) (x : Codec) : (s.setCodec u x).pending = s.pending := rfl
@[simp] theorem State.setCodec_fresh (u : CodecUnit) (x : Codec) : (s.setCodec u x).fresh = s.fresh := rfl
@[simp] theorem State.setCodec_clock (u : CodecUnit) (x : Codec) : (s.setCodec u x).clock = s.clock := rfl
@[simp] theorem State.setCodec_regs (u : CodecUnit) (x : Codec) : (s.setCodec u x).regs = s.regs := rfl
@[simp] theorem State.setCodec_shadow (u : CodecUnit) (x : Codec) : (s.setCodec u x).shadow = s.shadow := rfl
@[simp] theorem State.setCodec_lowWords (u : CodecUnit) (x : Codec) : (s.setCodec u x).lowWords = s.lowWords := rfl
@[simp] theorem State.setCodec_boot (u : CodecUnit) (x : Codec) : (s.setCodec u x).boot = s.boot := rfl
@[simp] theorem State.setCodec_itin (u : CodecUnit) (x : Codec) : (s.setCodec u x).itin = s.itin := rfl
@[simp] theorem State.setCodec_evt (u : CodecUnit) (x : Codec) : (s.setCodec u x).evt = s.evt := rfl
@[simp] theorem State.setCodec_sbx (u : CodecUnit) (x : Codec) : (s.setCodec u x).sbx = s.sbx := rfl
@[simp] theorem State.setCodec_svc (u : CodecUnit) (x : Codec) : (s.setCodec u x).svc = s.svc := rfl
@[simp] theorem State.setCodec_dram (u : CodecUnit) (x : Codec) : (s.setCodec u x).dram = s.dram := rfl
@[simp] theorem State.setCodec_rooms (u : CodecUnit) (x : Codec) : (s.setCodec u x).rooms = s.rooms := rfl
@[simp] theorem State.setCodec_porter (u : CodecUnit) (x : Codec) : (s.setCodec u x).porter = s.porter := rfl
@[simp] theorem State.setCodec_outs (u : CodecUnit) (x : Codec) : (s.setCodec u x).outs = s.outs := rfl
@[simp] theorem State.setCodec_engines (u : CodecUnit) (x : Codec) : (s.setCodec u x).engines = s.engines := rfl
@[simp] theorem State.setCodec_caches (u : CodecUnit) (x : Codec) : (s.setCodec u x).caches = s.caches := rfl
@[simp] theorem State.setCodec_imem (u : CodecUnit) (x : Codec) : (s.setCodec u x).imem = s.imem := rfl
@[simp] theorem State.setCodec_chains (u : CodecUnit) (x : Codec) : (s.setCodec u x).chains = s.chains := rfl
@[simp] theorem State.setCodec_link (u : CodecUnit) (x : Codec) : (s.setCodec u x).link = s.link := rfl
@[simp] theorem State.setCodec_servo (u : CodecUnit) (x : Codec) : (s.setCodec u x).servo = s.servo := rfl
@[simp] theorem State.setCodec_wall (u : CodecUnit) (x : Codec) : (s.setCodec u x).wall = s.wall := rfl
@[simp] theorem State.setCodec_cams (u : CodecUnit) (x : Codec) : (s.setCodec u x).cams = s.cams := rfl
@[simp] theorem State.setCodec_isp (u : CodecUnit) (x : Codec) : (s.setCodec u x).isp = s.isp := rfl
@[simp] theorem State.setCodec_blt (u : CodecUnit) (x : Codec) : (s.setCodec u x).blt = s.blt := rfl
@[simp] theorem State.setCodec_power (u : CodecUnit) (x : Codec) : (s.setCodec u x).power = s.power := rfl
@[simp] theorem State.setCodec_therm (u : CodecUnit) (x : Codec) : (s.setCodec u x).therm = s.therm := rfl
@[simp] theorem State.setCodec_stage (u : CodecUnit) (x : Codec) : (s.setCodec u x).stage = s.stage := rfl
@[simp] theorem State.setCodec_energy (u : CodecUnit) (x : Codec) : (s.setCodec u x).energy = s.energy := rfl

/-! ### setCam -/

@[simp] theorem State.setCam_pending (p : Port) (x : Cam) : (s.setCam p x).pending = s.pending := rfl
@[simp] theorem State.setCam_fresh (p : Port) (x : Cam) : (s.setCam p x).fresh = s.fresh := rfl
@[simp] theorem State.setCam_clock (p : Port) (x : Cam) : (s.setCam p x).clock = s.clock := rfl
@[simp] theorem State.setCam_regs (p : Port) (x : Cam) : (s.setCam p x).regs = s.regs := rfl
@[simp] theorem State.setCam_shadow (p : Port) (x : Cam) : (s.setCam p x).shadow = s.shadow := rfl
@[simp] theorem State.setCam_lowWords (p : Port) (x : Cam) : (s.setCam p x).lowWords = s.lowWords := rfl
@[simp] theorem State.setCam_boot (p : Port) (x : Cam) : (s.setCam p x).boot = s.boot := rfl
@[simp] theorem State.setCam_itin (p : Port) (x : Cam) : (s.setCam p x).itin = s.itin := rfl
@[simp] theorem State.setCam_evt (p : Port) (x : Cam) : (s.setCam p x).evt = s.evt := rfl
@[simp] theorem State.setCam_sbx (p : Port) (x : Cam) : (s.setCam p x).sbx = s.sbx := rfl
@[simp] theorem State.setCam_svc (p : Port) (x : Cam) : (s.setCam p x).svc = s.svc := rfl
@[simp] theorem State.setCam_dram (p : Port) (x : Cam) : (s.setCam p x).dram = s.dram := rfl
@[simp] theorem State.setCam_rooms (p : Port) (x : Cam) : (s.setCam p x).rooms = s.rooms := rfl
@[simp] theorem State.setCam_porter (p : Port) (x : Cam) : (s.setCam p x).porter = s.porter := rfl
@[simp] theorem State.setCam_outs (p : Port) (x : Cam) : (s.setCam p x).outs = s.outs := rfl
@[simp] theorem State.setCam_engines (p : Port) (x : Cam) : (s.setCam p x).engines = s.engines := rfl
@[simp] theorem State.setCam_caches (p : Port) (x : Cam) : (s.setCam p x).caches = s.caches := rfl
@[simp] theorem State.setCam_imem (p : Port) (x : Cam) : (s.setCam p x).imem = s.imem := rfl
@[simp] theorem State.setCam_codecs (p : Port) (x : Cam) : (s.setCam p x).codecs = s.codecs := rfl
@[simp] theorem State.setCam_chains (p : Port) (x : Cam) : (s.setCam p x).chains = s.chains := rfl
@[simp] theorem State.setCam_link (p : Port) (x : Cam) : (s.setCam p x).link = s.link := rfl
@[simp] theorem State.setCam_servo (p : Port) (x : Cam) : (s.setCam p x).servo = s.servo := rfl
@[simp] theorem State.setCam_wall (p : Port) (x : Cam) : (s.setCam p x).wall = s.wall := rfl
@[simp] theorem State.setCam_isp (p : Port) (x : Cam) : (s.setCam p x).isp = s.isp := rfl
@[simp] theorem State.setCam_blt (p : Port) (x : Cam) : (s.setCam p x).blt = s.blt := rfl
@[simp] theorem State.setCam_power (p : Port) (x : Cam) : (s.setCam p x).power = s.power := rfl
@[simp] theorem State.setCam_therm (p : Port) (x : Cam) : (s.setCam p x).therm = s.therm := rfl
@[simp] theorem State.setCam_stage (p : Port) (x : Cam) : (s.setCam p x).stage = s.stage := rfl
@[simp] theorem State.setCam_energy (p : Port) (x : Cam) : (s.setCam p x).energy = s.energy := rfl

/-! ### setDch -/

@[simp] theorem State.setDch_pending (c : Channel) (x : DramCh) : (s.setDch c x).pending = s.pending := rfl
@[simp] theorem State.setDch_fresh (c : Channel) (x : DramCh) : (s.setDch c x).fresh = s.fresh := rfl
@[simp] theorem State.setDch_clock (c : Channel) (x : DramCh) : (s.setDch c x).clock = s.clock := rfl
@[simp] theorem State.setDch_regs (c : Channel) (x : DramCh) : (s.setDch c x).regs = s.regs := rfl
@[simp] theorem State.setDch_shadow (c : Channel) (x : DramCh) : (s.setDch c x).shadow = s.shadow := rfl
@[simp] theorem State.setDch_lowWords (c : Channel) (x : DramCh) : (s.setDch c x).lowWords = s.lowWords := rfl
@[simp] theorem State.setDch_boot (c : Channel) (x : DramCh) : (s.setDch c x).boot = s.boot := rfl
@[simp] theorem State.setDch_itin (c : Channel) (x : DramCh) : (s.setDch c x).itin = s.itin := rfl
@[simp] theorem State.setDch_evt (c : Channel) (x : DramCh) : (s.setDch c x).evt = s.evt := rfl
@[simp] theorem State.setDch_sbx (c : Channel) (x : DramCh) : (s.setDch c x).sbx = s.sbx := rfl
@[simp] theorem State.setDch_svc (c : Channel) (x : DramCh) : (s.setDch c x).svc = s.svc := rfl
@[simp] theorem State.setDch_rooms (c : Channel) (x : DramCh) : (s.setDch c x).rooms = s.rooms := rfl
@[simp] theorem State.setDch_porter (c : Channel) (x : DramCh) : (s.setDch c x).porter = s.porter := rfl
@[simp] theorem State.setDch_outs (c : Channel) (x : DramCh) : (s.setDch c x).outs = s.outs := rfl
@[simp] theorem State.setDch_engines (c : Channel) (x : DramCh) : (s.setDch c x).engines = s.engines := rfl
@[simp] theorem State.setDch_caches (c : Channel) (x : DramCh) : (s.setDch c x).caches = s.caches := rfl
@[simp] theorem State.setDch_imem (c : Channel) (x : DramCh) : (s.setDch c x).imem = s.imem := rfl
@[simp] theorem State.setDch_codecs (c : Channel) (x : DramCh) : (s.setDch c x).codecs = s.codecs := rfl
@[simp] theorem State.setDch_chains (c : Channel) (x : DramCh) : (s.setDch c x).chains = s.chains := rfl
@[simp] theorem State.setDch_link (c : Channel) (x : DramCh) : (s.setDch c x).link = s.link := rfl
@[simp] theorem State.setDch_servo (c : Channel) (x : DramCh) : (s.setDch c x).servo = s.servo := rfl
@[simp] theorem State.setDch_wall (c : Channel) (x : DramCh) : (s.setDch c x).wall = s.wall := rfl
@[simp] theorem State.setDch_cams (c : Channel) (x : DramCh) : (s.setDch c x).cams = s.cams := rfl
@[simp] theorem State.setDch_isp (c : Channel) (x : DramCh) : (s.setDch c x).isp = s.isp := rfl
@[simp] theorem State.setDch_blt (c : Channel) (x : DramCh) : (s.setDch c x).blt = s.blt := rfl
@[simp] theorem State.setDch_power (c : Channel) (x : DramCh) : (s.setDch c x).power = s.power := rfl
@[simp] theorem State.setDch_therm (c : Channel) (x : DramCh) : (s.setDch c x).therm = s.therm := rfl
@[simp] theorem State.setDch_stage (c : Channel) (x : DramCh) : (s.setDch c x).stage = s.stage := rfl
@[simp] theorem State.setDch_energy (c : Channel) (x : DramCh) : (s.setDch c x).energy = s.energy := rfl

/-! ### memWrite -/

@[simp] theorem State.memWrite_pending (a : Nat) (bs : Bytes) : (s.memWrite a bs).pending = s.pending := rfl
@[simp] theorem State.memWrite_fresh (a : Nat) (bs : Bytes) : (s.memWrite a bs).fresh = s.fresh := rfl
@[simp] theorem State.memWrite_clock (a : Nat) (bs : Bytes) : (s.memWrite a bs).clock = s.clock := rfl
@[simp] theorem State.memWrite_regs (a : Nat) (bs : Bytes) : (s.memWrite a bs).regs = s.regs := rfl
@[simp] theorem State.memWrite_shadow (a : Nat) (bs : Bytes) : (s.memWrite a bs).shadow = s.shadow := rfl
@[simp] theorem State.memWrite_lowWords (a : Nat) (bs : Bytes) : (s.memWrite a bs).lowWords = s.lowWords := rfl
@[simp] theorem State.memWrite_boot (a : Nat) (bs : Bytes) : (s.memWrite a bs).boot = s.boot := rfl
@[simp] theorem State.memWrite_itin (a : Nat) (bs : Bytes) : (s.memWrite a bs).itin = s.itin := rfl
@[simp] theorem State.memWrite_evt (a : Nat) (bs : Bytes) : (s.memWrite a bs).evt = s.evt := rfl
@[simp] theorem State.memWrite_sbx (a : Nat) (bs : Bytes) : (s.memWrite a bs).sbx = s.sbx := rfl
@[simp] theorem State.memWrite_svc (a : Nat) (bs : Bytes) : (s.memWrite a bs).svc = s.svc := rfl
@[simp] theorem State.memWrite_rooms (a : Nat) (bs : Bytes) : (s.memWrite a bs).rooms = s.rooms := rfl
@[simp] theorem State.memWrite_porter (a : Nat) (bs : Bytes) : (s.memWrite a bs).porter = s.porter := rfl
@[simp] theorem State.memWrite_outs (a : Nat) (bs : Bytes) : (s.memWrite a bs).outs = s.outs := rfl
@[simp] theorem State.memWrite_engines (a : Nat) (bs : Bytes) : (s.memWrite a bs).engines = s.engines := rfl
@[simp] theorem State.memWrite_caches (a : Nat) (bs : Bytes) : (s.memWrite a bs).caches = s.caches := rfl
@[simp] theorem State.memWrite_imem (a : Nat) (bs : Bytes) : (s.memWrite a bs).imem = s.imem := rfl
@[simp] theorem State.memWrite_codecs (a : Nat) (bs : Bytes) : (s.memWrite a bs).codecs = s.codecs := rfl
@[simp] theorem State.memWrite_chains (a : Nat) (bs : Bytes) : (s.memWrite a bs).chains = s.chains := rfl
@[simp] theorem State.memWrite_link (a : Nat) (bs : Bytes) : (s.memWrite a bs).link = s.link := rfl
@[simp] theorem State.memWrite_servo (a : Nat) (bs : Bytes) : (s.memWrite a bs).servo = s.servo := rfl
@[simp] theorem State.memWrite_wall (a : Nat) (bs : Bytes) : (s.memWrite a bs).wall = s.wall := rfl
@[simp] theorem State.memWrite_cams (a : Nat) (bs : Bytes) : (s.memWrite a bs).cams = s.cams := rfl
@[simp] theorem State.memWrite_isp (a : Nat) (bs : Bytes) : (s.memWrite a bs).isp = s.isp := rfl
@[simp] theorem State.memWrite_blt (a : Nat) (bs : Bytes) : (s.memWrite a bs).blt = s.blt := rfl
@[simp] theorem State.memWrite_power (a : Nat) (bs : Bytes) : (s.memWrite a bs).power = s.power := rfl
@[simp] theorem State.memWrite_therm (a : Nat) (bs : Bytes) : (s.memWrite a bs).therm = s.therm := rfl
@[simp] theorem State.memWrite_stage (a : Nat) (bs : Bytes) : (s.memWrite a bs).stage = s.stage := rfl
@[simp] theorem State.memWrite_energy (a : Nat) (bs : Bytes) : (s.memWrite a bs).energy = s.energy := rfl

/-! ### setEngine -/

@[simp] theorem State.setEngine_pending (e : EngineId) (g : Engine) : (s.setEngine e g).pending = s.pending := rfl
@[simp] theorem State.setEngine_fresh (e : EngineId) (g : Engine) : (s.setEngine e g).fresh = s.fresh := rfl
@[simp] theorem State.setEngine_clock (e : EngineId) (g : Engine) : (s.setEngine e g).clock = s.clock := rfl
@[simp] theorem State.setEngine_regs (e : EngineId) (g : Engine) : (s.setEngine e g).regs = s.regs := rfl
@[simp] theorem State.setEngine_shadow (e : EngineId) (g : Engine) : (s.setEngine e g).shadow = s.shadow := rfl
@[simp] theorem State.setEngine_lowWords (e : EngineId) (g : Engine) : (s.setEngine e g).lowWords = s.lowWords := rfl
@[simp] theorem State.setEngine_boot (e : EngineId) (g : Engine) : (s.setEngine e g).boot = s.boot := rfl
@[simp] theorem State.setEngine_itin (e : EngineId) (g : Engine) : (s.setEngine e g).itin = s.itin := rfl
@[simp] theorem State.setEngine_evt (e : EngineId) (g : Engine) : (s.setEngine e g).evt = s.evt := rfl
@[simp] theorem State.setEngine_sbx (e : EngineId) (g : Engine) : (s.setEngine e g).sbx = s.sbx := rfl
@[simp] theorem State.setEngine_svc (e : EngineId) (g : Engine) : (s.setEngine e g).svc = s.svc := rfl
@[simp] theorem State.setEngine_dram (e : EngineId) (g : Engine) : (s.setEngine e g).dram = s.dram := rfl
@[simp] theorem State.setEngine_rooms (e : EngineId) (g : Engine) : (s.setEngine e g).rooms = s.rooms := rfl
@[simp] theorem State.setEngine_porter (e : EngineId) (g : Engine) : (s.setEngine e g).porter = s.porter := rfl
@[simp] theorem State.setEngine_outs (e : EngineId) (g : Engine) : (s.setEngine e g).outs = s.outs := rfl
@[simp] theorem State.setEngine_caches (e : EngineId) (g : Engine) : (s.setEngine e g).caches = s.caches := rfl
@[simp] theorem State.setEngine_imem (e : EngineId) (g : Engine) : (s.setEngine e g).imem = s.imem := rfl
@[simp] theorem State.setEngine_codecs (e : EngineId) (g : Engine) : (s.setEngine e g).codecs = s.codecs := rfl
@[simp] theorem State.setEngine_chains (e : EngineId) (g : Engine) : (s.setEngine e g).chains = s.chains := rfl
@[simp] theorem State.setEngine_link (e : EngineId) (g : Engine) : (s.setEngine e g).link = s.link := rfl
@[simp] theorem State.setEngine_servo (e : EngineId) (g : Engine) : (s.setEngine e g).servo = s.servo := rfl
@[simp] theorem State.setEngine_wall (e : EngineId) (g : Engine) : (s.setEngine e g).wall = s.wall := rfl
@[simp] theorem State.setEngine_cams (e : EngineId) (g : Engine) : (s.setEngine e g).cams = s.cams := rfl
@[simp] theorem State.setEngine_isp (e : EngineId) (g : Engine) : (s.setEngine e g).isp = s.isp := rfl
@[simp] theorem State.setEngine_blt (e : EngineId) (g : Engine) : (s.setEngine e g).blt = s.blt := rfl
@[simp] theorem State.setEngine_power (e : EngineId) (g : Engine) : (s.setEngine e g).power = s.power := rfl
@[simp] theorem State.setEngine_therm (e : EngineId) (g : Engine) : (s.setEngine e g).therm = s.therm := rfl
@[simp] theorem State.setEngine_stage (e : EngineId) (g : Engine) : (s.setEngine e g).stage = s.stage := rfl
@[simp] theorem State.setEngine_energy (e : EngineId) (g : Engine) : (s.setEngine e g).energy = s.energy := rfl

end Sys2Proof.Machine
end

