-- ==== Sys2Proof/Laws/Ops.lean ====
section
/-!
SUPPORT. Registers, fields, the clock, events and frames: what each shared operation does, once.
-/
namespace Sys2Proof.Machine

/-! ### Registers -/

@[simp] theorem State.reg_setReg_self (s : State) (a : Nat) (w : Word) : (s.setReg a w).reg a = w := by
  simp [State.reg, State.setReg, Sparse.getD_set]

theorem State.reg_setReg_ne (s : State) (a b : Nat) (w : Word) (h : a ≠ b) : (s.setReg a w).reg b = s.reg b := by
  simp [State.reg, State.setReg, Sparse.getD_set, h]

theorem State.reg_setReg (s : State) (a b : Nat) (w : Word) :
    (s.setReg a w).reg b = if a = b then w else s.reg b := by
  by_cases h : a = b
  · subst h; simp
  · simp [h, State.reg_setReg_ne]

theorem State.reg_setFld_ne (s : State) (f : RegField) (v b : Nat) (h : f.addr ≠ b) :
    (s.setFld f v).reg b = s.reg b := by
  simp [State.setFld, State.reg_setReg_ne _ _ _ _ h]

theorem State.reg_incFld_ne (s : State) (f : RegField) (n b : Nat) (h : f.addr ≠ b) :
    (s.incFld f n).reg b = s.reg b := State.reg_setFld_ne _ _ _ _ h

theorem State.reg_wrapFld_ne (s : State) (f : RegField) (b : Nat) (h : f.addr ≠ b) :
    (s.wrapFld f).reg b = s.reg b := State.reg_setFld_ne _ _ _ _ h

/-! ### Fields -/

theorem bits_testBit (n hi lo i : Nat) : (bits n hi lo).testBit i = (decide (i < hi + 1 - lo) && n.testBit (lo + i)) := by
  simp [bits, Nat.testBit_mod_two_pow, Nat.testBit_div_two_pow, Nat.add_comm]

theorem mask_testBit (hi lo i : Nat) :
    ((2 ^ (hi + 1 - lo) - 1) * 2 ^ lo).testBit i = (decide (lo ≤ i) && decide (i - lo < hi + 1 - lo)) := by
  rw [Nat.testBit_mul_two_pow, Nat.testBit_two_pow_sub_one]

theorem setBits_getLsbD (w : Word) (hi lo v i : Nat) (h : i < 32) :
    (setBits w hi lo v).getLsbD i =
      if lo ≤ i ∧ i < hi + 1 then v.testBit (i - lo) else w.getLsbD i := by
  simp only [setBits, BitVec.getLsbD_or, BitVec.getLsbD_and, BitVec.getLsbD_not, BitVec.getLsbD_ofNat,
    Nat.testBit_mul_two_pow]
  by_cases h1 : lo ≤ i <;> by_cases h2 : i < hi + 1 <;> simp [h, h1, h2] <;> grind

/-- A field just set reads as what its width keeps of the value. -/
theorem bits_setBits (w : Word) (hi lo v : Nat) (h : hi < 32) :
    bits (setBits w hi lo v).toNat hi lo = v % 2 ^ (hi + 1 - lo) := by
  apply Nat.eq_of_testBit_eq
  intro i
  rw [bits_testBit, Nat.testBit_mod_two_pow, BitVec.testBit_toNat]
  by_cases hi' : i < hi + 1 - lo
  · rw [setBits_getLsbD _ _ _ _ _ (by omega), if_pos (by omega)]
    simp [hi']
  · simp [hi']

/-- A field apart from the one set reads as before. -/
theorem bits_setBits_apart (w : Word) (hi lo v hi' lo' : Nat) (h : hi' < 32) (hd : hi' < lo ∨ hi < lo') :
    bits (setBits w hi lo v).toNat hi' lo' = bits w.toNat hi' lo' := by
  apply Nat.eq_of_testBit_eq
  intro i
  rw [bits_testBit, bits_testBit, BitVec.testBit_toNat, BitVec.testBit_toNat]
  by_cases hi2 : i < hi' + 1 - lo'
  · rw [setBits_getLsbD _ _ _ _ _ (by omega), if_neg (by omega)]
  · simp [hi2]

theorem State.fld_setFld_self (s : State) (f : RegField) (v : Nat) (h : f.hi < 32) :
    (s.setFld f v).fld f = v % 2 ^ (f.hi + 1 - f.lo) := by
  simp [State.fld, State.setFld, bits_setBits _ _ _ _ h]

theorem State.fld_setFld_apart (s : State) (f g : RegField) (v : Nat) (h : g.hi < 32)
    (hd : g.hi < f.lo ∨ f.hi < g.lo) : (s.setFld f v).fld g = s.fld g := by
  by_cases ha : f.addr = g.addr
  · simp [State.fld, State.setFld, ha, bits_setBits_apart _ _ _ _ _ _ h hd]
  · simp [State.fld, State.setFld, State.reg_setReg_ne _ _ _ _ ha]

theorem State.fld_setFld_ne (s : State) (f g : RegField) (v : Nat) (h : f.addr ≠ g.addr) :
    (s.setFld f v).fld g = s.fld g := by
  simp [State.fld, State.setFld, State.reg_setReg_ne _ _ _ _ h]

theorem State.fld_setReg_ne (s : State) (a : Nat) (w : Word) (g : RegField) (h : a ≠ g.addr) :
    (s.setReg a w).fld g = s.fld g := by
  simp [State.fld, State.reg_setReg_ne _ _ _ _ h]

/-! ### The clock -/

theorem State.advanceTo_keeps (s : State) (t : Nat) : Keeps [.clock] [] s (s.advanceTo t) := by
  unfold State.advanceTo
  split
  · refine ⟨fun p hp => ?_, fun a _ => rfl⟩
    cases p <;> first | rfl | exact (hp (by simp)).elim
  · exact ⟨fun p _ => by cases p <;> rfl, fun a _ => rfl⟩

@[simp] theorem State.reg_advanceTo (s : State) (t a : Nat) : (s.advanceTo t).reg a = s.reg a :=
  (s.advanceTo_keeps t).2 a (by simp)

@[simp] theorem State.fld_advanceTo (s : State) (t : Nat) (f : RegField) : (s.advanceTo t).fld f = s.fld f := by
  simp [State.fld]

/-- Time after the clock has come to an edge that lies ahead. -/
theorem State.now_advanceTo (s : State) (t : Nat) : (s.advanceTo t).now = max s.now t := by
  unfold State.advanceTo
  split <;> simp only [State.now] <;> omega

/-! ### Frames -/

theorem Part.same_refl (p : Part) (s : State) : p.same s s := by cases p <;> rfl

theorem Part.same_trans (p : Part) {s t u : State} (h : p.same s t) (k : p.same t u) : p.same s u := by
  cases p <;> exact Eq.trans k h

theorem Keeps.refl (ps : List Part) (as : List Nat) (s : State) : Keeps ps as s s :=
  ⟨fun p _ => p.same_refl s, fun _ _ => rfl⟩

theorem Keeps.trans {ps qs : List Part} {as bs : List Nat} {s t u : State} (h : Keeps ps as s t) (k : Keeps qs bs t u) :
    Keeps (ps ++ qs) (as ++ bs) s u := by
  refine ⟨fun p hp => ?_, fun a ha => ?_⟩
  · simp only [List.mem_append, not_or] at hp
    exact p.same_trans (h.1 p hp.1) (k.1 p hp.2)
  · simp only [List.mem_append, not_or] at ha
    rw [k.2 a ha.2, h.2 a ha.1]

theorem Keeps.mono {ps qs : List Part} {as bs : List Nat} {s t : State} (h : Keeps ps as s t) (hp : ps ⊆ qs)
    (ha : as ⊆ bs) : Keeps qs bs s t :=
  ⟨fun p hn => h.1 p fun hm => hn (hp hm), fun a hn => h.2 a fun hm => hn (ha hm)⟩

theorem State.setReg_keeps (s : State) (a : Nat) (w : Word) : Keeps [] [a] s (s.setReg a w) :=
  ⟨fun p _ => by cases p <;> rfl, fun b hb => State.reg_setReg_ne _ _ _ _ (fun h => hb (by simp [h]))⟩

theorem State.setFld_keeps (s : State) (f : RegField) (v : Nat) : Keeps [] [f.addr] s (s.setFld f v) :=
  State.setReg_keeps _ _ _

/-! ### Events -/

theorem addRaise_mem_new (r : Raise) (l : List Raise) (h : ∀ x ∈ l, x.src ≠ r.src) : r ∈ (addRaise r l).1 := by
  induction l with
  | nil => simp [addRaise]
  | cons x xs ih =>
    simp only [addRaise]
    have hx : x.src ≠ r.src := h x (by simp)
    split
    · simp
    · split
      · rename_i h1 h2; exact absurd h2.symm hx
      · have := ih fun y hy => h y (by simp [hy])
        simp [this]

/-- A raise that was pending stays pending; one of the source raised again is marked coalesced. -/
theorem addRaise_mem_old (r x : Raise) (l : List Raise) (hx : x ∈ l) (h : x.src ≠ r.src) : x ∈ (addRaise r l).1 := by
  induction l with
  | nil => simp at hx
  | cons y ys ih =>
    simp only [addRaise]
    split
    · simp only [List.mem_cons] at hx ⊢; exact Or.inr hx
    · split
      · rename_i h1 h2
        simp only [List.mem_cons] at hx ⊢
        rcases hx with rfl | hx
        · exact absurd h2.symm h
        · exact Or.inr hx
      · simp only [List.mem_cons] at hx ⊢
        rcases hx with rfl | hx
        · exact Or.inl rfl
        · exact Or.inr (ih hx)

theorem raisesRising_iff (l : List Raise) : raisesRising l = true ↔ (l.map Raise.src).Pairwise (· < ·) := by
  induction l with
  | nil => simp [raisesRising]
  | cons x xs ih =>
    cases xs with
    | nil => simp [raisesRising]
    | cons y ys =>
      simp only [raisesRising, Bool.and_eq_true, decide_eq_true_eq, ih]
      simp only [List.map_cons, List.pairwise_cons, List.mem_cons]
      constructor
      · rintro ⟨h1, h2, h3⟩
        refine ⟨?_, h2, h3⟩
        rintro a (rfl | ha)
        · exact h1
        · have := h2 a ha; omega
      · rintro ⟨h1, h2, h3⟩
        exact ⟨h1 _ (Or.inl rfl), h2, h3⟩

theorem addRaise_src (r : Raise) (l : List Raise) (n : Nat) (h : n ∈ (addRaise r l).1.map Raise.src) :
    n = r.src ∨ n ∈ l.map Raise.src := by
  induction l with
  | nil => simpa [addRaise] using h
  | cons x xs ih =>
    simp only [addRaise] at h
    split at h
    · simpa using h
    · split at h
      · simp at h ⊢; grind
      · simp only [List.map_cons, List.mem_cons] at h ⊢
        rcases h with h | h
        · exact Or.inr (Or.inl h)
        · rcases ih h with h | h
          · exact Or.inl h
          · exact Or.inr (Or.inr h)

/-- A raise keeps one pending raise for each source, in rising order. -/
theorem raisesRising_addRaise (r : Raise) (l : List Raise) (h : raisesRising l = true) :
    raisesRising (addRaise r l).1 = true := by
  rw [raisesRising_iff] at h ⊢
  induction l with
  | nil => simp [addRaise]
  | cons x xs ih =>
    simp only [List.map_cons, List.pairwise_cons] at h
    simp only [addRaise]
    split
    · rename_i hx
      simp only [List.map_cons, List.pairwise_cons, List.mem_cons]
      refine ⟨?_, h.1, h.2⟩
      rintro b (rfl | hb)
      · exact hx
      · have := h.1 b hb; omega
    · split
      · simpa using h
      · rename_i h1 h2
        simp only [List.map_cons, List.pairwise_cons]
        refine ⟨?_, ih h.2⟩
        intro b hb
        rcases addRaise_src r xs b hb with rfl | hb
        · omega
        · exact h.1 b hb

/-- A raise changes the pending raises and, when it coalesces, EVT_LOST. -/
theorem State.raiseWith_keeps (s : State) (n : Nat) (cause : Byte) (arg : Word) (inj : Bool) :
    Keeps [.evt] [EVT_LOST_count.addr] s (s.raiseWith n cause arg inj) := by
  unfold State.raiseWith
  dsimp only
  generalize addRaise _ _ = pc
  obtain ⟨ps, c⟩ := pc
  dsimp only
  split
  · refine ⟨fun p hp => ?_, fun a ha => ?_⟩
    · cases p <;> first | rfl | exact (hp (by simp)).elim
    · rw [State.reg_incFld_ne _ _ _ _ (fun h => ha (by simp [h]))]; rfl
  · refine ⟨fun p hp => ?_, fun a _ => rfl⟩
    cases p <;> first | rfl | exact (hp (by simp)).elim

theorem State.raiseWith_pend (s : State) (n : Nat) (cause : Byte) (arg : Word) (inj : Bool) :
    (s.raiseWith n cause arg inj).evt.pend =
      (addRaise { src := n, cause, arg, stamp := s.timeNs, coalesced := false, injected := inj, frozen := s.frozen,
                  harbour := s.boot.phase = .safeHarbour } s.evt.pend).1 := by
  unfold State.raiseWith
  dsimp only
  generalize addRaise _ _ = pc
  obtain ⟨ps, c⟩ := pc
  dsimp only
  split <;> simp

/-- A raise is in the log that `Logs` speaks of. -/
theorem State.logs_raise (s : State) (n cause arg : Nat) : Logs s (s.raise n cause arg) n cause arg := by
  intro h
  unfold State.raise
  rw [State.raiseWith_pend]
  exact ⟨_, addRaise_mem_new _ _ h, rfl, rfl, rfl, rfl, rfl, rfl⟩

theorem State.logsOpen_raiseOpen (s : State) (n arg : Nat) : LogsOpen s (s.raiseOpen n arg) n arg := by
  intro h
  unfold State.raiseOpen
  rw [State.raiseWith_pend]
  exact ⟨_, addRaise_mem_new _ _ h, rfl, rfl, rfl, rfl, rfl⟩

end Sys2Proof.Machine
end

