-- ==== Sys2Proof/Laws/Dram.lean ====
section
/-!
SUPPORT. Laws of the token buckets (R192).
-/
namespace Sys2Proof.Machine

theorem State.setTokens_keeps (s : State) (cls n : Nat) : Keeps [.porter] [] s (s.setTokens cls n) := by
  refine ⟨fun p hp => ?_, fun _ _ => rfl⟩
  cases p <;> first | rfl | exact absurd (List.mem_singleton.mpr rfl) hp

@[simp] theorem State.tokens_setTokens (s : State) (cls n : Nat) : (s.setTokens cls n).tokens cls = n := by
  unfold State.setTokens State.tokens
  split <;> simp

/-- What a payment does: nothing where none is due; else it takes the missing tokens, as far as there are any, and is done once
it has taken all. -/
theorem State.pay_cases (s : State) (cls req need : Nat) :
    (s.mustPay cls = false ∧ s.pay cls req need = (true, s)) ∨
    (s.mustPay cls = true ∧ (s.pay cls req need).2.tokens cls =
        s.tokens cls - min (need - Sparse.getD s.porter.paid req 0) (s.tokens cls) ∧
      ((s.pay cls req need).1 = true ↔
        need ≤ Sparse.getD s.porter.paid req 0 + min (need - Sparse.getD s.porter.paid req 0) (s.tokens cls)) ∧
      Keeps [.porter] [] s (s.pay cls req need).2) := by
  have keeps (u : State) (p : Porter) : Keeps [.porter] [] u { u with porter := p } := by
    refine ⟨fun p hp => ?_, fun _ _ => rfl⟩
    cases p <;> first | rfl | exact absurd (List.mem_singleton.mpr rfl) hp
  have tok (u : State) (x : Sparse Nat) : State.tokens { u with porter := { u.porter with paid := x } } cls = u.tokens cls := by
    unfold State.tokens; split <;> rfl
  unfold State.pay
  cases hm : s.mustPay cls with
  | false => exact .inl ⟨rfl, rfl⟩
  | true =>
    refine .inr ⟨rfl, ?_⟩
    simp only [Bool.not_true, Bool.false_eq_true, if_false]
    split
    · next h => exact ⟨by rw [tok, State.tokens_setTokens], by simp; omega, (s.setTokens_keeps _ _).trans (keeps _ _) |>.mono (by simp) (by simp)⟩
    · next h => exact ⟨by rw [tok, State.tokens_setTokens], by simp; omega, (s.setTokens_keeps _ _).trans (keeps _ _) |>.mono (by simp) (by simp)⟩

end Sys2Proof.Machine
end

