-- ==== Sys2Proof/Laws/Engine.lean ====
section
/-!
SUPPORT. Engines: what issuing an instruction does, and what writing a destination leaves of the registers.
-/
namespace Sys2Proof.Machine

/-! ### Issuing -/

/-- An instruction that issues: its effect at the issue clock, the pc behind its words unless it jumps. -/
theorem State.issue_of_issues {s : State} {e : EngineId} {sh : Shape} {f : Form} {lm : Bool} {u : Option SharedUnit}
    {g : Engine} {c : Nat} (h : Issues s e sh f lm u g c) (body : Engine → Effect) :
    s.issue e sh f lm u body =
      let x := { g.issuing sh f u c with clk := c + 1 }
      match body x with
      | .go g' => s.setEngine e { g' with pc := g.after f }
      | .jump g' target => s.setEngine e { g' with pc := target, clk := c + 3 }
      | .ends g' =>
        let g' := { g' with pc := g.after f, ending := true }
        if g'.reqs.isEmpty then s.finishSpan e g'.settle else s.setEngine e g'
      | .trap code soft => s.trap e x code soft g.pc := by
  have h2 : ¬ s.budget (g.issuing sh f u c).slot (g.issuing sh f u c).w <
      Engine.counted { g.issuing sh f u c with clk := c + 1 } := by
    have := h.inBudget
    simp only [Engine.counted, Engine.issuing, Engine.stallTo] at this ⊢
    omega
  have h3 : ¬ s.budget (g.issuing sh f u c).slot (g.issuing sh f u c).w + 1 <
      Engine.counted { g.issuing sh f u c with clk := c + 1 } := by omega
  unfold State.issue
  simp only [h.here]
  rw [if_neg (by simp [h.notEnding]), if_neg (by simp [h.inProgram]), if_neg (by simp [h.legal]),
    if_neg (by simp [h.noWait, h.room]), ← h.clock]
  simp only [Engine.issuing] at h2 h3 ⊢
  rw [if_neg h3]
  simp only [h2, decide_false, Bool.false_and, Bool.false_eq_true, if_false]
  cases body _ <;> rfl

/-! ### Destinations -/

theorem Engine.writeV_fields (g : Engine) (d : Nat) (mask : Byte) (val : Nat → Word) :
    ∃ v, g.writeV d mask val = { g with v := v } := by
  unfold Engine.writeV
  generalize lanes = l
  induction l generalizing g with
  | nil => exact ⟨g.v, rfl⟩
  | cons i l ih =>
    simp only [List.foldl_cons]
    split
    · obtain ⟨v, hv⟩ := ih { g with v := Sparse.set g.v (8 * d + i) (val i) }
      exact ⟨v, hv⟩
    · exact ih g

theorem Engine.vreg_setV (g : Engine) (k r i : Nat) (w : Word) :
    Engine.vreg { g with v := Sparse.set g.v k w } r i = if k = 8 * r + i then w else g.vreg r i := by
  unfold Engine.vreg
  by_cases h : k = 8 * r + i
  · subst h; simp
  · simp [h, Sparse.get?_set_ne _ _ _ _ h]

theorem Engine.vreg_writeV_list (l : List Nat) (hl : ∀ i ∈ l, i < 8) (hd : l.Nodup) (g : Engine) (d : Nat) (mask : Byte)
    (val : Nat → Word) (r i : Nat) (hi : i < 8) :
    (l.foldl (fun g i => if mask.getLsbD i then { g with v := Sparse.set g.v (8 * d + i) (val i) } else g) g).vreg r i =
      if r = d ∧ i ∈ l ∧ mask.getLsbD i = true then val i else g.vreg r i := by
  induction l generalizing g with
  | nil => simp
  | cons j l ih =>
    have hj := hl j (by simp)
    have hl' : ∀ i ∈ l, i < 8 := fun i h => hl i (by simp [h])
    have hd' := hd
    simp only [List.nodup_cons] at hd'
    simp only [List.foldl_cons]
    rw [ih hl' hd'.2]
    by_cases hb : mask.getLsbD j = true
    · simp only [hb, if_true, Engine.vreg_setV]
      by_cases h1 : r = d
      · subst h1
        by_cases h2 : i = j
        · subst h2; simp [hb, hd'.1]
        · simp [h2, Ne.symm h2]
      · have : ¬ (8 * d + j = 8 * r + i) := by omega
        simp [this, h1]
    · simp only [hb]
      by_cases h2 : i = j
      · subst h2; simp [hb]
      · simp [h2]

/-- v[d] after a write: the lanes of the mask take the values; every other lane of every register is as before (R94). -/
theorem Engine.vreg_writeV (g : Engine) (d : Nat) (mask : Byte) (val : Nat → Word) (r i : Nat) (hi : i < 8) :
    (g.writeV d mask val).vreg r i = if r = d ∧ mask.getLsbD i = true then val i else g.vreg r i := by
  unfold Engine.writeV lanes
  rw [Engine.vreg_writeV_list _ (by simp) (List.nodup_range) _ _ _ _ _ _ hi]
  simp [hi]

theorem Engine.sreg_writeS (g : Engine) (d r : Nat) (w : Word) :
    (g.writeS d w).sreg r = if r = d then w else g.sreg r := by
  unfold Engine.sreg Engine.writeS
  by_cases h : d = r
  · subst h; simp
  · simp [Sparse.get?_set_ne _ _ _ _ h, Ne.symm h]

/-- p0 keeps reading 0xFF (R93). -/
theorem Engine.preg_writeP (g : Engine) (d r : Nat) (b : Byte) :
    (g.writeP d b).preg r = if r = d ∧ d ≠ 0 then b else g.preg r := by
  unfold Engine.preg Engine.writeP
  by_cases h0 : d = 0
  · simp [h0]
  · by_cases h : d = r
    · subst h; simp [h0]
    · simp [h0, Sparse.get?_set_ne _ _ _ _ h, Ne.symm h]

theorem Engine.lmWord_writeLm (g : Engine) (k j : Nat) (w : Word) :
    (g.writeLm k w).lmWord j = if j = k then w else g.lmWord j := by
  unfold Engine.lmWord Engine.writeLm
  by_cases h : k = j
  · subst h; simp
  · simp [Sparse.get?_set_ne _ _ _ _ h, Ne.symm h]

/-- Destinations become readable at their clock; every other register as before (R106). -/
theorem Engine.busy_setBusy (g : Engine) (keys : List Nat) (c lat : Nat) :
    Engine.BusyUntil keys (c + lat) g (g.setBusy keys c lat) := by
  intro k
  unfold Engine.setBusy
  show Sparse.getD (keys.foldl (fun m k => Sparse.set m k (c + lat)) g.busy) k 0 = _
  generalize g.busy = m
  induction keys generalizing m with
  | nil => simp
  | cons j l ih =>
    simp only [List.foldl_cons]
    rw [ih, Sparse.getD_set]
    by_cases h1 : k ∈ l <;> by_cases h2 : j = k <;> simp [h1, h2] <;> grind

end Sys2Proof.Machine
end

