-- ==== Sys2Proof/Laws/Link.lean ====
section
/-!
SUPPORT. Laws of the codes on the wires: the lanes' scrambler and blocks, the columns' 8b/10b code.
-/
namespace Sys2Proof.Machine

/-! ### Lanes (R302) -/

/-- A descrambler that stands as the scrambler did gives back what went in, and both end alike. -/
theorem throughBits_descramble (l : List Bool) (st : BitVec 58) :
    throughBits descrambleBit st (throughBits scrambleBit st l).1 = (l, (throughBits scrambleBit st l).2) := by
  induction l generalizing st with
  | nil => rfl
  | cons d ds ih =>
    have twice : ∀ d x y : Bool, ((d ^^ x ^^ y) ^^ x ^^ y) = d := by decide
    have h : descrambleBit st (scrambleBit st d).1 = (d, (scrambleBit st d).2) :=
      Prod.ext (twice d _ _) rfl
    simp only [throughBits, h, ih]

/-- The scrambler sends as many bits as it is given. -/
theorem throughBits_length (f : BitVec 58 → Bool → Bool × BitVec 58) (l : List Bool) (st : BitVec 58) :
    (throughBits f st l).1.length = l.length := by
  induction l generalizing st with
  | nil => rfl
  | cons d ds ih => simp [throughBits, ih]

/-- The number whose lowest n bits are given. -/
theorem foldr_testBits (x n : Nat) :
    ((List.range n).map x.testBit).foldr (fun b k => b2n b + 2 * k) 0 = x % 2 ^ n := by
  induction n generalizing x with
  | zero => simp [Nat.mod_one]
  | succ n ih =>
    have h : (x.testBit ∘ Nat.succ) = (x / 2).testBit := by
      funext i; simp [Nat.testBit_succ]
    rw [List.range_succ_eq_map, List.map_cons, List.map_map, h, List.foldr_cons, ih, Nat.pow_succ', Nat.mod_mul,
      Nat.testBit_zero]
    congr 1
    rcases Nat.mod_two_eq_zero_or_one x with h | h <;> simp [h, b2n]

/-- A block comes off its lane as it went on, its scrambler and descrambler in step. -/
theorem takeBlock_sendBlock (st : BitVec 58) (b : Block) : takeBlock st (sendBlock st b).1 = (b, (sendBlock st b).2) := by
  have h : payloadBits b = (List.range 64).map b.data.toNat.testBit := rfl
  have hs : BitVec.ofBool (b.sync.getLsbD 1) ++ BitVec.ofBool (b.sync.getLsbD 0) = b.sync := by
    generalize b.sync = w
    revert w; decide
  simp only [takeBlock, sendBlock, List.drop_succ_cons, List.drop_zero, throughBits_descramble, List.getD_cons_zero,
    List.getD_cons_succ, hs]
  rw [h, foldr_testBits, Nat.mod_eq_of_lt b.data.isLt, BitVec.ofNat_toNat, BitVec.setWidth_eq]

/-! ### Columns (R256) -/

/-- A symbol ends at the running disparity that its flip gives, whichever it began at. -/
theorem encode10_disparity (rd : Bool) (x : Sym) : (encode10 rd x).2 = (rd ^^ flipsRd x) := by
  have h : ∀ (rd k : Bool) (b : Byte), (encode10 rd ⟨k, b⟩).2 = (rd ^^ flipsRd ⟨k, b⟩) := by decide +kernel
  exact h rd x.k x.byte

/-- A data symbol has 4, 5 or 6 ones; from negative disparity not 4, from positive not 6. -/
theorem encode10_ones (rd : Bool) (b : Byte) :
    onesOf 10 (encode10 rd ⟨false, b⟩).1.toNat ∈ (if rd then [4, 5] else [5, 6]) := by
  revert rd b; decide +kernel

end Sys2Proof.Machine
end

