-- ==== Sys2Proof/Laws/PerInstr.lean ====
section
/-!
SUPPORT. One fact of each command's syntax: an engine instruction's opcode (R110) fits its 7 bits and names that instruction
again with the same fields; the other commands have no engine form.
-/
namespace Sys2Proof.Laws

/-- The opcode of an engine instruction names it; other commands have no opcode. -/
def OpcodeNames.Statement (i : Instr) : Prop :=
  match i.engineForm with
  | none => encodeEngine i = none
  | some (op, _, f) => op < 128 ∧ encodeEngine i = some (wordOfForm op f :: f.imm.toList) ∧ ∃ e, ofOpcode op e f = some i

theorem OpcodeNames.tick (t : Nat) (o : Output) (hit : Option QueueHit) : OpcodeNames.Statement (.tick t o hit) := rfl
theorem OpcodeNames.tickServiceEnd (t : Nat) (o : Output) : OpcodeNames.Statement (.tickServiceEnd t o) := rfl
theorem OpcodeNames.spanRowRelease (t : Nat) (o : Output) (row : Nat) : OpcodeNames.Statement (.spanRowRelease t o row) := rfl
theorem OpcodeNames.trackingCutoff (t : Nat) (o : Output) : OpcodeNames.Statement (.trackingCutoff t o) := rfl
theorem OpcodeNames.decodeCutoff (t : Nat) (o : Output) : OpcodeNames.Statement (.decodeCutoff t o) := rfl
theorem OpcodeNames.classCDCutoff (t : Nat) (o : Output) : OpcodeNames.Statement (.classCDCutoff t o) := rfl
theorem OpcodeNames.spanDispatch (t : Nat) (e : EngineId) : OpcodeNames.Statement (.spanDispatch t e) := rfl
theorem OpcodeNames.clusterLeaveService (t : Nat) (cl : Cluster) (cause : LeaveCause) : OpcodeNames.Statement (.clusterLeaveService t cl cause) := rfl
theorem OpcodeNames.nop (e : EngineId) (f : Form) : OpcodeNames.Statement (.nop e f) := ⟨by decide, rfl, e, rfl⟩
theorem OpcodeNames.mov (e : EngineId) (f : Form) : OpcodeNames.Statement (.mov e f) := ⟨by decide, rfl, e, rfl⟩
theorem OpcodeNames.iadd (e : EngineId) (f : Form) : OpcodeNames.Statement (.iadd e f) := ⟨by decide, rfl, e, rfl⟩
theorem OpcodeNames.isub (e : EngineId) (f : Form) : OpcodeNames.Statement (.isub e f) := ⟨by decide, rfl, e, rfl⟩
theorem OpcodeNames.imul (e : EngineId) (f : Form) : OpcodeNames.Statement (.imul e f) := ⟨by decide, rfl, e, rfl⟩
theorem OpcodeNames.imad (e : EngineId) (f : Form) : OpcodeNames.Statement (.imad e f) := ⟨by decide, rfl, e, rfl⟩
theorem OpcodeNames.imin (e : EngineId) (f : Form) : OpcodeNames.Statement (.imin e f) := ⟨by decide, rfl, e, rfl⟩
theorem OpcodeNames.imax (e : EngineId) (f : Form) : OpcodeNames.Statement (.imax e f) := ⟨by decide, rfl, e, rfl⟩
theorem OpcodeNames.umin (e : EngineId) (f : Form) : OpcodeNames.Statement (.umin e f) := ⟨by decide, rfl, e, rfl⟩
theorem OpcodeNames.umax (e : EngineId) (f : Form) : OpcodeNames.Statement (.umax e f) := ⟨by decide, rfl, e, rfl⟩
theorem OpcodeNames.vand (e : EngineId) (f : Form) : OpcodeNames.Statement (.vand e f) := ⟨by decide, rfl, e, rfl⟩
theorem OpcodeNames.vor (e : EngineId) (f : Form) : OpcodeNames.Statement (.vor e f) := ⟨by decide, rfl, e, rfl⟩
theorem OpcodeNames.vxor (e : EngineId) (f : Form) : OpcodeNames.Statement (.vxor e f) := ⟨by decide, rfl, e, rfl⟩
theorem OpcodeNames.shl (e : EngineId) (f : Form) : OpcodeNames.Statement (.shl e f) := ⟨by decide, rfl, e, rfl⟩
theorem OpcodeNames.shr (e : EngineId) (f : Form) : OpcodeNames.Statement (.shr e f) := ⟨by decide, rfl, e, rfl⟩
theorem OpcodeNames.sar (e : EngineId) (f : Form) : OpcodeNames.Statement (.sar e f) := ⟨by decide, rfl, e, rfl⟩
theorem OpcodeNames.fadd (e : EngineId) (f : Form) : OpcodeNames.Statement (.fadd e f) := ⟨by decide, rfl, e, rfl⟩
theorem OpcodeNames.fsub (e : EngineId) (f : Form) : OpcodeNames.Statement (.fsub e f) := ⟨by decide, rfl, e, rfl⟩
theorem OpcodeNames.fmul (e : EngineId) (f : Form) : OpcodeNames.Statement (.fmul e f) := ⟨by decide, rfl, e, rfl⟩
theorem OpcodeNames.fma (e : EngineId) (f : Form) : OpcodeNames.Statement (.fma e f) := ⟨by decide, rfl, e, rfl⟩
theorem OpcodeNames.fmin (e : EngineId) (f : Form) : OpcodeNames.Statement (.fmin e f) := ⟨by decide, rfl, e, rfl⟩
theorem OpcodeNames.fmax (e : EngineId) (f : Form) : OpcodeNames.Statement (.fmax e f) := ⟨by decide, rfl, e, rfl⟩
theorem OpcodeNames.fabs (e : EngineId) (f : Form) : OpcodeNames.Statement (.fabs e f) := ⟨by decide, rfl, e, rfl⟩
theorem OpcodeNames.fneg (e : EngineId) (f : Form) : OpcodeNames.Statement (.fneg e f) := ⟨by decide, rfl, e, rfl⟩
theorem OpcodeNames.ffloor (e : EngineId) (f : Form) : OpcodeNames.Statement (.ffloor e f) := ⟨by decide, rfl, e, rfl⟩
theorem OpcodeNames.ffrac (e : EngineId) (f : Form) : OpcodeNames.Statement (.ffrac e f) := ⟨by decide, rfl, e, rfl⟩
theorem OpcodeNames.fsat (e : EngineId) (f : Form) : OpcodeNames.Statement (.fsat e f) := ⟨by decide, rfl, e, rfl⟩
theorem OpcodeNames.hadd2 (e : EngineId) (f : Form) : OpcodeNames.Statement (.hadd2 e f) := ⟨by decide, rfl, e, rfl⟩
theorem OpcodeNames.hsub2 (e : EngineId) (f : Form) : OpcodeNames.Statement (.hsub2 e f) := ⟨by decide, rfl, e, rfl⟩
theorem OpcodeNames.hmul2 (e : EngineId) (f : Form) : OpcodeNames.Statement (.hmul2 e f) := ⟨by decide, rfl, e, rfl⟩
theorem OpcodeNames.hfma2 (e : EngineId) (f : Form) : OpcodeNames.Statement (.hfma2 e f) := ⟨by decide, rfl, e, rfl⟩
theorem OpcodeNames.hmin2 (e : EngineId) (f : Form) : OpcodeNames.Statement (.hmin2 e f) := ⟨by decide, rfl, e, rfl⟩
theorem OpcodeNames.hmax2 (e : EngineId) (f : Form) : OpcodeNames.Statement (.hmax2 e f) := ⟨by decide, rfl, e, rfl⟩
theorem OpcodeNames.i2f (e : EngineId) (f : Form) : OpcodeNames.Statement (.i2f e f) := ⟨by decide, rfl, e, rfl⟩
theorem OpcodeNames.u2f (e : EngineId) (f : Form) : OpcodeNames.Statement (.u2f e f) := ⟨by decide, rfl, e, rfl⟩
theorem OpcodeNames.f2i (e : EngineId) (f : Form) : OpcodeNames.Statement (.f2i e f) := ⟨by decide, rfl, e, rfl⟩
theorem OpcodeNames.f2if (e : EngineId) (f : Form) : OpcodeNames.Statement (.f2if e f) := ⟨by decide, rfl, e, rfl⟩
theorem OpcodeNames.f2ir (e : EngineId) (f : Form) : OpcodeNames.Statement (.f2ir e f) := ⟨by decide, rfl, e, rfl⟩
theorem OpcodeNames.h2f (e : EngineId) (f : Form) : OpcodeNames.Statement (.h2f e f) := ⟨by decide, rfl, e, rfl⟩
theorem OpcodeNames.h2fh (e : EngineId) (f : Form) : OpcodeNames.Statement (.h2fh e f) := ⟨by decide, rfl, e, rfl⟩
theorem OpcodeNames.f2h2 (e : EngineId) (f : Form) : OpcodeNames.Statement (.f2h2 e f) := ⟨by decide, rfl, e, rfl⟩
theorem OpcodeNames.iseq (e : EngineId) (f : Form) : OpcodeNames.Statement (.iseq e f) := ⟨by decide, rfl, e, rfl⟩
theorem OpcodeNames.isne (e : EngineId) (f : Form) : OpcodeNames.Statement (.isne e f) := ⟨by decide, rfl, e, rfl⟩
theorem OpcodeNames.islt (e : EngineId) (f : Form) : OpcodeNames.Statement (.islt e f) := ⟨by decide, rfl, e, rfl⟩
theorem OpcodeNames.isle (e : EngineId) (f : Form) : OpcodeNames.Statement (.isle e f) := ⟨by decide, rfl, e, rfl⟩
theorem OpcodeNames.iult (e : EngineId) (f : Form) : OpcodeNames.Statement (.iult e f) := ⟨by decide, rfl, e, rfl⟩
theorem OpcodeNames.iule (e : EngineId) (f : Form) : OpcodeNames.Statement (.iule e f) := ⟨by decide, rfl, e, rfl⟩
theorem OpcodeNames.fseq (e : EngineId) (f : Form) : OpcodeNames.Statement (.fseq e f) := ⟨by decide, rfl, e, rfl⟩
theorem OpcodeNames.fsne (e : EngineId) (f : Form) : OpcodeNames.Statement (.fsne e f) := ⟨by decide, rfl, e, rfl⟩
theorem OpcodeNames.fslt (e : EngineId) (f : Form) : OpcodeNames.Statement (.fslt e f) := ⟨by decide, rfl, e, rfl⟩
theorem OpcodeNames.fsle (e : EngineId) (f : Form) : OpcodeNames.Statement (.fsle e f) := ⟨by decide, rfl, e, rfl⟩
theorem OpcodeNames.pand (e : EngineId) (f : Form) : OpcodeNames.Statement (.pand e f) := ⟨by decide, rfl, e, rfl⟩
theorem OpcodeNames.por (e : EngineId) (f : Form) : OpcodeNames.Statement (.por e f) := ⟨by decide, rfl, e, rfl⟩
theorem OpcodeNames.pxor (e : EngineId) (f : Form) : OpcodeNames.Statement (.pxor e f) := ⟨by decide, rfl, e, rfl⟩
theorem OpcodeNames.pandn (e : EngineId) (f : Form) : OpcodeNames.Statement (.pandn e f) := ⟨by decide, rfl, e, rfl⟩
theorem OpcodeNames.pset (e : EngineId) (f : Form) : OpcodeNames.Statement (.pset e f) := ⟨by decide, rfl, e, rfl⟩
theorem OpcodeNames.pget (e : EngineId) (f : Form) : OpcodeNames.Statement (.pget e f) := ⟨by decide, rfl, e, rfl⟩
theorem OpcodeNames.smov (e : EngineId) (f : Form) : OpcodeNames.Statement (.smov e f) := ⟨by decide, rfl, e, rfl⟩
theorem OpcodeNames.sadd (e : EngineId) (f : Form) : OpcodeNames.Statement (.sadd e f) := ⟨by decide, rfl, e, rfl⟩
theorem OpcodeNames.ssub (e : EngineId) (f : Form) : OpcodeNames.Statement (.ssub e f) := ⟨by decide, rfl, e, rfl⟩
theorem OpcodeNames.smul (e : EngineId) (f : Form) : OpcodeNames.Statement (.smul e f) := ⟨by decide, rfl, e, rfl⟩
theorem OpcodeNames.sand (e : EngineId) (f : Form) : OpcodeNames.Statement (.sand e f) := ⟨by decide, rfl, e, rfl⟩
theorem OpcodeNames.sor (e : EngineId) (f : Form) : OpcodeNames.Statement (.sor e f) := ⟨by decide, rfl, e, rfl⟩
theorem OpcodeNames.sxor (e : EngineId) (f : Form) : OpcodeNames.Statement (.sxor e f) := ⟨by decide, rfl, e, rfl⟩
theorem OpcodeNames.sshl (e : EngineId) (f : Form) : OpcodeNames.Statement (.sshl e f) := ⟨by decide, rfl, e, rfl⟩
theorem OpcodeNames.sshr (e : EngineId) (f : Form) : OpcodeNames.Statement (.sshr e f) := ⟨by decide, rfl, e, rfl⟩
theorem OpcodeNames.ssar (e : EngineId) (f : Form) : OpcodeNames.Statement (.ssar e f) := ⟨by decide, rfl, e, rfl⟩
theorem OpcodeNames.smin (e : EngineId) (f : Form) : OpcodeNames.Statement (.smin e f) := ⟨by decide, rfl, e, rfl⟩
theorem OpcodeNames.smax (e : EngineId) (f : Form) : OpcodeNames.Statement (.smax e f) := ⟨by decide, rfl, e, rfl⟩
theorem OpcodeNames.sseq (e : EngineId) (f : Form) : OpcodeNames.Statement (.sseq e f) := ⟨by decide, rfl, e, rfl⟩
theorem OpcodeNames.sslt (e : EngineId) (f : Form) : OpcodeNames.Statement (.sslt e f) := ⟨by decide, rfl, e, rfl⟩
theorem OpcodeNames.ssltu (e : EngineId) (f : Form) : OpcodeNames.Statement (.ssltu e f) := ⟨by decide, rfl, e, rfl⟩
theorem OpcodeNames.vlane (e : EngineId) (f : Form) : OpcodeNames.Statement (.vlane e f) := ⟨by decide, rfl, e, rfl⟩
theorem OpcodeNames.vext (e : EngineId) (f : Form) : OpcodeNames.Statement (.vext e f) := ⟨by decide, rfl, e, rfl⟩
theorem OpcodeNames.ldc (e : EngineId) (f : Form) : OpcodeNames.Statement (.ldc e f) := ⟨by decide, rfl, e, rfl⟩
theorem OpcodeNames.bra (e : EngineId) (f : Form) : OpcodeNames.Statement (.bra e f) := ⟨by decide, rfl, e, rfl⟩
theorem OpcodeNames.loop (e : EngineId) (f : Form) : OpcodeNames.Statement (.loop e f) := ⟨by decide, rfl, e, rfl⟩
theorem OpcodeNames.endSpan (e : EngineId) (f : Form) : OpcodeNames.Statement (.endSpan e f) := ⟨by decide, rfl, e, rfl⟩
theorem OpcodeNames.trap (e : EngineId) (f : Form) : OpcodeNames.Statement (.trap e f) := ⟨by decide, rfl, e, rfl⟩
theorem OpcodeNames.ldv (e : EngineId) (f : Form) : OpcodeNames.Statement (.ldv e f) := ⟨by decide, rfl, e, rfl⟩
theorem OpcodeNames.stv (e : EngineId) (f : Form) : OpcodeNames.Statement (.stv e f) := ⟨by decide, rfl, e, rfl⟩
theorem OpcodeNames.lds (e : EngineId) (f : Form) : OpcodeNames.Statement (.lds e f) := ⟨by decide, rfl, e, rfl⟩
theorem OpcodeNames.sts (e : EngineId) (f : Form) : OpcodeNames.Statement (.sts e f) := ⟨by decide, rfl, e, rfl⟩
theorem OpcodeNames.rcp (e : EngineId) (f : Form) : OpcodeNames.Statement (.rcp e f) := ⟨by decide, rfl, e, rfl⟩
theorem OpcodeNames.rsq (e : EngineId) (f : Form) : OpcodeNames.Statement (.rsq e f) := ⟨by decide, rfl, e, rfl⟩
theorem OpcodeNames.sqrt (e : EngineId) (f : Form) : OpcodeNames.Statement (.sqrt e f) := ⟨by decide, rfl, e, rfl⟩
theorem OpcodeNames.exp2 (e : EngineId) (f : Form) : OpcodeNames.Statement (.exp2 e f) := ⟨by decide, rfl, e, rfl⟩
theorem OpcodeNames.log2 (e : EngineId) (f : Form) : OpcodeNames.Statement (.log2 e f) := ⟨by decide, rfl, e, rfl⟩
theorem OpcodeNames.sinp (e : EngineId) (f : Form) : OpcodeNames.Statement (.sinp e f) := ⟨by decide, rfl, e, rfl⟩
theorem OpcodeNames.cosp (e : EngineId) (f : Form) : OpcodeNames.Statement (.cosp e f) := ⟨by decide, rfl, e, rfl⟩
theorem OpcodeNames.calq (e : EngineId) (f : Form) : OpcodeNames.Statement (.calq e f) := ⟨by decide, rfl, e, rfl⟩
theorem OpcodeNames.smpa (e : EngineId) (f : Form) : OpcodeNames.Statement (.smpa e f) := ⟨by decide, rfl, e, rfl⟩
theorem OpcodeNames.smps (e : EngineId) (f : Form) : OpcodeNames.Statement (.smps e f) := ⟨by decide, rfl, e, rfl⟩
theorem OpcodeNames.smpcd (e : EngineId) (f : Form) : OpcodeNames.Statement (.smpcd e f) := ⟨by decide, rfl, e, rfl⟩
theorem OpcodeNames.smpd (e : EngineId) (f : Form) : OpcodeNames.Statement (.smpd e f) := ⟨by decide, rfl, e, rfl⟩
theorem OpcodeNames.ovl (e : EngineId) (f : Form) : OpcodeNames.Statement (.ovl e f) := ⟨by decide, rfl, e, rfl⟩
theorem OpcodeNames.out (e : EngineId) (f : Form) : OpcodeNames.Statement (.out e f) := ⟨by decide, rfl, e, rfl⟩
theorem OpcodeNames.sharedUnitResult (t : Nat) (e : EngineId) (unit : SharedUnit) (clk : Nat) (stall : Nat) (hit : UnitHit) : OpcodeNames.Statement (.sharedUnitResult t e unit clk stall hit) := rfl
theorem OpcodeNames.spanWatchdog (t : Nat) (e : EngineId) (clk : Nat) (hits : SoftHits) : OpcodeNames.Statement (.spanWatchdog t e clk hits) := rfl
theorem OpcodeNames.viewCacheFill (t : Nat) (cl : Cluster) (line : CacheKey) (errs : List WordErr) (evict : Option CacheKey) (tbl : Option Bool) : OpcodeNames.Statement (.viewCacheFill t cl line errs evict tbl) := rfl
theorem OpcodeNames.legDispatch (t : Nat) (u : CodecUnit) (lim : Option DecodeLimit) : OpcodeNames.Statement (.legDispatch t u lim) := rfl
theorem OpcodeNames.codecStallResume (t : Nat) (u : CodecUnit) (lim : Option DecodeLimit) : OpcodeNames.Statement (.codecStallResume t u lim) := rfl
theorem OpcodeNames.legComplete (t : Nat) (u : CodecUnit) (hit : Option WindowHit) : OpcodeNames.Statement (.legComplete t u hit) := rfl
theorem OpcodeNames.captureEncodeStart (t : Nat) (u : CodecUnit) : OpcodeNames.Statement (.captureEncodeStart t u) := rfl
theorem OpcodeNames.captureLegComplete (t : Nat) (u : CodecUnit) (blocks : Bytes) (blockCount : Nat) : OpcodeNames.Statement (.captureLegComplete t u blocks blockCount) := rfl
theorem OpcodeNames.unitFreeAfterAbort (t : Nat) (unit : WorkUnit) : OpcodeNames.Statement (.unitFreeAfterAbort t unit) := rfl
theorem OpcodeNames.queueEntryAdmit (t : Nat) (cls : LowerClass) : OpcodeNames.Statement (.queueEntryAdmit t cls) := rfl
theorem OpcodeNames.overlayListDispatch (t : Nat) (o : Output) (hit : Option (Fin 8)) : OpcodeNames.Statement (.overlayListDispatch t o hit) := rfl
theorem OpcodeNames.staticCardRender (t : Nat) (o : Output) (hit : Option (Fin 8)) : OpcodeNames.Statement (.staticCardRender t o hit) := rfl
theorem OpcodeNames.cardShow (t : Nat) (o : Output) : OpcodeNames.Statement (.cardShow t o) := rfl
theorem OpcodeNames.statisticsWaybill (t : Nat) (p : Port) : OpcodeNames.Statement (.statisticsWaybill t p) := rfl
theorem OpcodeNames.tokenBucketRefill (t : Nat) : OpcodeNames.Statement (.tokenBucketRefill t) := rfl
theorem OpcodeNames.autoPlaylistStart (t : Nat) (o : Output) : OpcodeNames.Statement (.autoPlaylistStart t o) := rfl
theorem OpcodeNames.legIntakeStallResume (t : Nat) : OpcodeNames.Statement (.legIntakeStallResume t) := rfl
theorem OpcodeNames.dramRead (t : Nat) (req : Nat) (unit : Nat) (errs : List WordErr) (merge : Option MergeWrite) (tbl : Option TableHit) : OpcodeNames.Statement (.dramRead t req unit errs merge tbl) := rfl
theorem OpcodeNames.refresh (t : Nat) (c : Channel) (rank : Bool) : OpcodeNames.Statement (.refresh t c rank) := rfl
theorem OpcodeNames.dramTemperatureRead (t : Nat) (c : Channel) (readings : List (Fin 3)) : OpcodeNames.Statement (.dramTemperatureRead t c readings) := rfl
theorem OpcodeNames.scrub (t : Nat) (c : Channel) (errs : List WordErr) : OpcodeNames.Statement (.scrub t c errs) := rfl
theorem OpcodeNames.secInterval (t : Nat) : OpcodeNames.Statement (.secInterval t) := rfl
theorem OpcodeNames.selfRefreshEntry (t : Nat) (c : Channel) : OpcodeNames.Statement (.selfRefreshEntry t c) := rfl
theorem OpcodeNames.selfRefreshExit (t : Nat) (c : Channel) : OpcodeNames.Statement (.selfRefreshExit t c) := rfl
theorem OpcodeNames.bounceInterval (t : Nat) : OpcodeNames.Statement (.bounceInterval t) := rfl
theorem OpcodeNames.alertNPulse (t : Nat) (c : Channel) (width : Nat) (cmd : DramCmd) : OpcodeNames.Statement (.alertNPulse t c width cmd) := rfl
theorem OpcodeNames.retryComplete (t : Nat) (c : Channel) : OpcodeNames.Statement (.retryComplete t c) := rfl
theorem OpcodeNames.freezePanelHoldExpiry (t : Nat) : OpcodeNames.Statement (.freezePanelHoldExpiry t) := rfl
theorem OpcodeNames.thawStart (t : Nat) (path : Path) (v : Word) : OpcodeNames.Statement (.thawStart t path v) := rfl
theorem OpcodeNames.thawGo (t : Nat) (path : Path) (v : Word) : OpcodeNames.Statement (.thawGo t path v) := rfl
theorem OpcodeNames.thawReadComplete (t : Nat) (flips : List WordErr) : OpcodeNames.Statement (.thawReadComplete t flips) := rfl
theorem OpcodeNames.lineSlotStart (t : Nat) (o : Output) (line : Nat) (echo : List (Fin 256)) (hit : Option Nat) : OpcodeNames.Statement (.lineSlotStart t o line echo hit) := rfl
theorem OpcodeNames.staticDecision (t : Nat) (o : Output) : OpcodeNames.Statement (.staticDecision t o) := rfl
theorem OpcodeNames.gridInstantSkip (t : Nat) (o : Output) : OpcodeNames.Statement (.gridInstantSkip t o) := rfl
theorem OpcodeNames.railWaitDone (t : Nat) (o : Output) (mv : RailMv) : OpcodeNames.Statement (.railWaitDone t o mv) := rfl
theorem OpcodeNames.railTimeout (t : Nat) (o : Output) (mv : RailMv) : OpcodeNames.Statement (.railTimeout t o mv) := rfl
theorem OpcodeNames.cdReadyTimeout (t : Nat) (o : Output) : OpcodeNames.Statement (.cdReadyTimeout t o) := rfl
theorem OpcodeNames.abruptLoss (t : Nat) (trig : LossTrigger) : OpcodeNames.Statement (.abruptLoss t trig) := rfl
theorem OpcodeNames.hopBringUp (t : Nat) (h : Hop) (res : List LaneTrain) : OpcodeNames.Statement (.hopBringUp t h res) := rfl
theorem OpcodeNames.laneFomUpdate (t : Nat) (lane : Lane) (fom : Byte) (ctle : BitVec 4) : OpcodeNames.Statement (.laneFomUpdate t lane fom ctle) := rfl
theorem OpcodeNames.blockLockLoss (t : Nat) (lane : Lane) : OpcodeNames.Statement (.blockLockLoss t lane) := rfl
theorem OpcodeNames.cdrLockLoss (t : Nat) (lane : Lane) : OpcodeNames.Statement (.cdrLockLoss t lane) := rfl
theorem OpcodeNames.warmRetrain (t : Nat) (h : Hop) (res : List LaneTrain) : OpcodeNames.Statement (.warmRetrain t h res) := rfl
theorem OpcodeNames.coldBringUpRetry (t : Nat) (h : Hop) (res : List LaneTrain) : OpcodeNames.Statement (.coldBringUpRetry t h res) := rfl
theorem OpcodeNames.refclkLoss (t : Nat) (ratio : Nat) : OpcodeNames.Statement (.refclkLoss t ratio) := rfl
theorem OpcodeNames.refclkRestore (t : Nat) : OpcodeNames.Statement (.refclkRestore t) := rfl
theorem OpcodeNames.hello (t : Nat) (h : Hop) (w : Wagon) : OpcodeNames.Statement (.hello t h w) := rfl
theorem OpcodeNames.helloSend (t : Nat) (h : Hop) : OpcodeNames.Statement (.helloSend t h) := rfl
theorem OpcodeNames.linkState (t : Nat) (h : Hop) (w : Wagon) : OpcodeNames.Statement (.linkState t h w) := rfl
theorem OpcodeNames.linkStateSend (t : Nat) (h : Hop) : OpcodeNames.Statement (.linkStateSend t h) := rfl
theorem OpcodeNames.replayTimeout (t : Nat) (h : Hop) : OpcodeNames.Statement (.replayTimeout t h) := rfl
theorem OpcodeNames.nakRepeat (t : Nat) (h : Hop) : OpcodeNames.Statement (.nakRepeat t h) := rfl
theorem OpcodeNames.wagonTxEnd (t : Nat) (h : Hop) : OpcodeNames.Statement (.wagonTxEnd t h) := rfl
theorem OpcodeNames.sync (t : Nat) (w : Wagon) (t2 : Nat) (te : Nat) : OpcodeNames.Statement (.sync t w t2 te) := rfl
theorem OpcodeNames.pdelayReq (t : Nat) (w : Wagon) (t2 : Nat) (t3 : Nat) : OpcodeNames.Statement (.pdelayReq t w t2 t3) := rfl
theorem OpcodeNames.pdelayResp (t : Nat) (w : Wagon) (t4 : Nat) : OpcodeNames.Statement (.pdelayResp t w t4) := rfl
theorem OpcodeNames.pdelayInterval (t : Nat) (t1 : Nat) : OpcodeNames.Statement (.pdelayInterval t t1) := rfl
theorem OpcodeNames.pdelayMiss (t : Nat) : OpcodeNames.Statement (.pdelayMiss t) := rfl
theorem OpcodeNames.holdoverEntry (t : Nat) : OpcodeNames.Statement (.holdoverEntry t) := rfl
theorem OpcodeNames.lockWaitExpiry (t : Nat) : OpcodeNames.Statement (.lockWaitExpiry t) := rfl
theorem OpcodeNames.legWagon (t : Nat) (w : Wagon) : OpcodeNames.Statement (.legWagon t w) := rfl
theorem OpcodeNames.flipWagon (t : Nat) (w : Wagon) : OpcodeNames.Statement (.flipWagon t w) := rfl
theorem OpcodeNames.overlayWagon (t : Nat) (w : Wagon) : OpcodeNames.Statement (.overlayWagon t w) := rfl
theorem OpcodeNames.stockWagon (t : Nat) (w : Wagon) : OpcodeNames.Statement (.stockWagon t w) := rfl
theorem OpcodeNames.complaintWagon (t : Nat) (w : Wagon) : OpcodeNames.Statement (.complaintWagon t w) := rfl
theorem OpcodeNames.relayUp (t : Nat) (w : Wagon) : OpcodeNames.Statement (.relayUp t w) := rfl
theorem OpcodeNames.crcDn (t : Nat) (path : Path) : OpcodeNames.Statement (.crcDn t path) := rfl
theorem OpcodeNames.crcUp (t : Nat) (path : Path) : OpcodeNames.Statement (.crcUp t path) := rfl
theorem OpcodeNames.injectOne (t : Nat) (path : Path) (lane : Lane) : OpcodeNames.Statement (.injectOne t path lane) := rfl
theorem OpcodeNames.slip (t : Nat) (path : Path) (lane : Lane) : OpcodeNames.Statement (.slip t path lane) := rfl
theorem OpcodeNames.prbsErrorSecond (t : Nat) (lane : Lane) (n : Nat) : OpcodeNames.Statement (.prbsErrorSecond t lane n) := rfl
theorem OpcodeNames.peakClear (t : Nat) (path : Path) (o : Output) : OpcodeNames.Statement (.peakClear t path o) := rfl
theorem OpcodeNames.track (t : Nat) (f : Frame) : OpcodeNames.Statement (.track t f) := rfl
theorem OpcodeNames.logreq (t : Nat) (f : Frame) : OpcodeNames.Statement (.logreq t f) := rfl
theorem OpcodeNames.logdata (t : Nat) : OpcodeNames.Statement (.logdata t) := rfl
theorem OpcodeNames.regread (t : Nat) (f : Frame) : OpcodeNames.Statement (.regread t f) := rfl
theorem OpcodeNames.restart (t : Nat) (f : Frame) : OpcodeNames.Statement (.restart t f) := rfl
theorem OpcodeNames.selectPlayback (t : Nat) (f : Frame) : OpcodeNames.Statement (.selectPlayback t f) := rfl
theorem OpcodeNames.brightnessScale (t : Nat) (f : Frame) : OpcodeNames.Statement (.brightnessScale t f) := rfl
theorem OpcodeNames.strangerFrame (t : Nat) (f : Frame) : OpcodeNames.Statement (.strangerFrame t f) := rfl
theorem OpcodeNames.quarantineEnd (t : Nat) (node : Fin 32) : OpcodeNames.Statement (.quarantineEnd t node) := rfl
theorem OpcodeNames.statusPeriodic (t : Nat) : OpcodeNames.Statement (.statusPeriodic t) := rfl
theorem OpcodeNames.statusPush (t : Nat) : OpcodeNames.Statement (.statusPush t) := rfl
theorem OpcodeNames.plcaStatusChange (t : Nat) (ok : Bool) : OpcodeNames.Statement (.plcaStatusChange t ok) := rfl
theorem OpcodeNames.boundRestore (t : Nat) : OpcodeNames.Statement (.boundRestore t) := rfl
theorem OpcodeNames.stageBegin (t : Nat) (m : StageMsg) : OpcodeNames.Statement (.stageBegin t m) := rfl
theorem OpcodeNames.stageData (t : Nat) (m : StageMsg) (flashOk : Bool) : OpcodeNames.Statement (.stageData t m flashOk) := rfl
theorem OpcodeNames.stageCommit (t : Nat) (m : StageMsg) : OpcodeNames.Statement (.stageCommit t m) := rfl
theorem OpcodeNames.commitComplete (t : Nat) (flashOk : Bool) : OpcodeNames.Statement (.commitComplete t flashOk) := rfl
theorem OpcodeNames.stageAbort (t : Nat) (m : StageMsg) : OpcodeNames.Statement (.stageAbort t m) := rfl
theorem OpcodeNames.stageQuery (t : Nat) (m : StageMsg) : OpcodeNames.Statement (.stageQuery t m) := rfl
theorem OpcodeNames.sessionTimeout (t : Nat) : OpcodeNames.Statement (.sessionTimeout t) := rfl
theorem OpcodeNames.frameBoundary (t : Nat) (p : Port) : OpcodeNames.Statement (.frameBoundary t p) := rfl
theorem OpcodeNames.frameStart (t : Nat) (p : Port) (hdr : CsiHdr) : OpcodeNames.Statement (.frameStart t p hdr) := rfl
theorem OpcodeNames.frameEnd (t : Nat) (p : Port) (hdr : CsiHdr) : OpcodeNames.Statement (.frameEnd t p hdr) := rfl
theorem OpcodeNames.lineStart (t : Nat) (p : Port) (hdr : CsiHdr) : OpcodeNames.Statement (.lineStart t p hdr) := rfl
theorem OpcodeNames.lineEnd (t : Nat) (p : Port) (hdr : CsiHdr) : OpcodeNames.Statement (.lineEnd t p hdr) := rfl
theorem OpcodeNames.longPacket (t : Nat) (p : Port) (hdr : CsiHdr) (payload : Bytes) (crc : BitVec 16) : OpcodeNames.Statement (.longPacket t p hdr payload crc) := rfl
theorem OpcodeNames.ispLineTake (t : Nat) (hit : Option IspHit) : OpcodeNames.Statement (.ispLineTake t hit) := rfl
theorem OpcodeNames.ispLineDone (t : Nat) : OpcodeNames.Statement (.ispLineDone t) := rfl
theorem OpcodeNames.tapSend (t : Nat) (p : Port) (tap : Fin 4) : OpcodeNames.Statement (.tapSend t p tap) := rfl
theorem OpcodeNames.aeAwbUpdate (t : Nat) (p : Port) (ae : AeAwb) : OpcodeNames.Statement (.aeAwbUpdate t p ae) := rfl
theorem OpcodeNames.initRetry (t : Nat) (p : Port) : OpcodeNames.Statement (.initRetry t p) := rfl
theorem OpcodeNames.copy (t : Nat) : OpcodeNames.Statement (.copy t) := rfl
theorem OpcodeNames.fill (t : Nat) : OpcodeNames.Statement (.fill t) := rfl
theorem OpcodeNames.blend (t : Nat) : OpcodeNames.Statement (.blend t) := rfl
theorem OpcodeNames.key (t : Nat) : OpcodeNames.Statement (.key t) := rfl
theorem OpcodeNames.glyph (t : Nat) : OpcodeNames.Statement (.glyph t) := rfl
theorem OpcodeNames.sleepRequest (t : Nat) (g : SleepGroup) : OpcodeNames.Statement (.sleepRequest t g) := rfl
theorem OpcodeNames.prepareTimeout (t : Nat) (g : SleepGroup) : OpcodeNames.Statement (.prepareTimeout t g) := rfl
theorem OpcodeNames.domainTransitionComplete (t : Nat) (pd : Domain) : OpcodeNames.Statement (.domainTransitionComplete t pd) := rfl
theorem OpcodeNames.warnCrossing (t : Nat) (m : Monitor) (mv : Nat) : OpcodeNames.Statement (.warnCrossing t m mv) := rfl
theorem OpcodeNames.braceSnapshot (t : Nat) : OpcodeNames.Statement (.braceSnapshot t) := rfl
theorem OpcodeNames.braceEnd (t : Nat) : OpcodeNames.Statement (.braceEnd t) := rfl
theorem OpcodeNames.braceAlertClear (t : Nat) : OpcodeNames.Statement (.braceAlertClear t) := rfl
theorem OpcodeNames.resetCrossing (t : Nat) (m : Monitor) (mv : Nat) : OpcodeNames.Statement (.resetCrossing t m mv) := rfl
theorem OpcodeNames.railRecovery (t : Nat) (m : Monitor) : OpcodeNames.Statement (.railRecovery t m) := rfl
theorem OpcodeNames.housekeepingRound (t : Nat) (ch : List Int) : OpcodeNames.Statement (.housekeepingRound t ch) := rfl
theorem OpcodeNames.holdoffExpiry (t : Nat) : OpcodeNames.Statement (.holdoffExpiry t) := rfl
theorem OpcodeNames.powerOnReset (t : Nat) (por : PorInput) : OpcodeNames.Statement (.powerOnReset t por) := rfl
theorem OpcodeNames.resetN (t : Nat) : OpcodeNames.Statement (.resetN t) := rfl
theorem OpcodeNames.eventWrite (t : Nat) : OpcodeNames.Statement (.eventWrite t) := rfl
theorem OpcodeNames.snapshotWrite (t : Nat) : OpcodeNames.Statement (.snapshotWrite t) := rfl
theorem OpcodeNames.snapshotComplete (t : Nat) (ok : Bool) : OpcodeNames.Statement (.snapshotComplete t ok) := rfl
theorem OpcodeNames.snap (t : Nat) (path : Path) (v : Word) : OpcodeNames.Statement (.snap t path v) := rfl
theorem OpcodeNames.clearKeep (t : Nat) (path : Path) (v : Word) : OpcodeNames.Statement (.clearKeep t path v) := rfl
theorem OpcodeNames.svcId (t : Nat) : OpcodeNames.Statement (.svcId t) := rfl
theorem OpcodeNames.svcRead (t : Nat) (addr : Nat) (n : Nat) : OpcodeNames.Statement (.svcRead t addr n) := rfl
theorem OpcodeNames.svcWrite (t : Nat) (addr : Nat) (data : Bytes) : OpcodeNames.Statement (.svcWrite t addr data) := rfl
theorem OpcodeNames.svcWstat (t : Nat) : OpcodeNames.Statement (.svcWstat t) := rfl
theorem OpcodeNames.svcUnlock (t : Nat) (v : Word) : OpcodeNames.Statement (.svcUnlock t v) := rfl
theorem OpcodeNames.servicePortRelock (t : Nat) : OpcodeNames.Statement (.servicePortRelock t) := rfl
theorem OpcodeNames.evtInject (t : Nat) (path : Path) (v : Word) : OpcodeNames.Statement (.evtInject t path v) := rfl
theorem OpcodeNames.evtFaultClear (t : Nat) (path : Path) (idx : Fin 8) (v : Word) : OpcodeNames.Statement (.evtFaultClear t path idx v) := rfl
theorem OpcodeNames.lowWordRead (t : Nat) (path : Path) (addr : Nat) : OpcodeNames.Statement (.lowWordRead t path addr) := rfl
theorem OpcodeNames.highWordWrite (t : Nat) (path : Path) (addr : Nat) (v : Word) : OpcodeNames.Statement (.highWordWrite t path addr v) := rfl
theorem OpcodeNames.registerWrite (t : Nat) (path : Path) (addr : Nat) (width : Nat) (v : Word) : OpcodeNames.Statement (.registerWrite t path addr width v) := rfl
theorem OpcodeNames.conciergeWatchdog (t : Nat) (pc : Word) : OpcodeNames.Statement (.conciergeWatchdog t pc) := rfl
theorem OpcodeNames.cdReadyRise (t : Nat) (o : Output) : OpcodeNames.Statement (.cdReadyRise t o) := rfl
theorem OpcodeNames.panelSequenceTimeExpiry (t : Nat) (o : Output) : OpcodeNames.Statement (.panelSequenceTimeExpiry t o) := rfl
theorem OpcodeNames.dramTrainingComplete (t : Nat) (res : List ChannelTrain) : OpcodeNames.Statement (.dramTrainingComplete t res) := rfl
theorem OpcodeNames.collisionSeen (t : Nat) : OpcodeNames.Statement (.collisionSeen t) := rfl
theorem OpcodeNames.cciTransactionDone (t : Nat) (p : Port) (ack : Bool) (value : BitVec 16) : OpcodeNames.Statement (.cciTransactionDone t p ack value) := rfl
theorem OpcodeNames.unknownCommandByte (t : Nat) (b : Byte) : OpcodeNames.Statement (.unknownCommandByte t b) := rfl
theorem OpcodeNames.prbsTestEnable (t : Nat) (path : Path) (lane : Lane) (v : Word) : OpcodeNames.Statement (.prbsTestEnable t path lane v) := rfl

end Sys2Proof.Laws
end

