-- ==== Sys2Proof/Tests/Slice0.lean ====
section
/-!
SUPPORT. The model's own tests: well-formedness, the engine's words, arithmetic against known values; and for every
statement with hypotheses concrete states and operands that meet them, each clause with its own (`witness_…`).
-/
namespace Sys2Proof.Tests
-- one theorem after another: each worker thread of the compile takes its whole stack from the memory limit
set_option Elab.async false
open Sys2Proof Sys2Proof.Machine

/-- The state after a command. -/
def after (c : Instr) (s : State) : State := match exec c s with | .next t => t | _ => s

/-- What stands for a wagon where none has come. -/
def noRx : RxWagon := ⟨parseWagon [], [], [], 0⟩

/-- P of x. -/
abbrev Holds {α : Type} (x : α) (P : α → Prop) : Prop := P x

theorem delivers {kind : Nat} {f : Frame} {s : State} {P : Prop}
    (h : frameKind f = kind ∧ (s.wallReceive f).2.isSome = true ∧
      ((s.wallReceive f).2.getD ⟨0, [], f⟩).frame = f ∧ P) :
    Delivers kind f s (s.wallReceive f).1 ((s.wallReceive f).2.getD ⟨0, [], f⟩) ∧ P := by
  refine ⟨⟨h.2.2.1, fun act => ?_⟩, h.2.2.2⟩
  have h2 := h.2.1
  simp only [State.wallCommand, h.1, bne_self_eq_false, Bool.false_and, Bool.false_eq_true, if_false, if_true]
  revert h2
  cases s.wallReceive f with
  | mk a b => cases b <;> simp

/-- The staging message of a frame. -/
abbrev staged (f : Frame) (s : State) : StageIn :=
  ⟨((s.wallReceive f).2.getD ⟨0, [], f⟩).body.take (((s.wallReceive f).2.getD ⟨0, [], f⟩).body.length - 32), some f⟩

theorem arrives {op : Nat} {f : Frame} {s : State} {P : Prop}
    (h : frameKind f = 0x60 + op ∧ (s.expireSession.wallReceive f).2.isSome = true ∧ P) :
    Arrives op (.wallBus f) s (s.expireSession.wallReceive f).1 (staged f s.expireSession) ∧ P := by
  refine ⟨fun act => ?_, h.2.2⟩
  have h2 := h.2.1
  simp only [State.stageMsg, State.wallCommand, h.1, bne_self_eq_false, Bool.false_and, Bool.false_eq_true, if_false,
    if_true]
  unfold staged
  revert h2
  cases s.expireSession.wallReceive f with
  | mk a b => cases b with
    | none => simp
    | some m => intro _; rfl

/-- The state after a step. -/
def stepped (s : State) : State := match step s with | .next t => t | _ => s

/-! ### Well-formedness: a term that each check refuses -/

theorem test_wf_mov : (Instr.mov 0 { d := 1, b := 2 }).wf = true := by decide
theorem test_illformed_guarded_end : (Instr.endSpan 0 { pg := 3 }).wf = false := by decide
theorem test_illformed_scalar_operand : (Instr.iadd 0 { d := 1, a := 32, as := true, b := 2 }).wf = false := by decide
theorem test_illformed_b_beside_immediate : (Instr.iadd 0 { d := 1, a := 2, b := 3, imm := some 7 }).wf = false := by decide
theorem test_illformed_unused_a : (Instr.mov 0 { d := 1, a := 1, b := 2 }).wf = false := by decide
theorem test_illformed_p0_destination : (Instr.iseq 0 { d := 0, a := 1, b := 2 }).wf = false := by decide
theorem test_illformed_predicate_number : (Instr.pand 0 { d := 1, a := 8, b := 2 }).wf = false := by decide
theorem test_illformed_pset_source : (Instr.pset 0 { d := 1, a := 32 }).wf = false := by decide
theorem test_illformed_pget_destination : (Instr.pget 0 { d := 32, a := 1 }).wf = false := by decide
theorem test_illformed_scalar_destination : (Instr.sadd 0 { d := 32, a := 1, b := 2 }).wf = false := by decide
theorem test_illformed_smov_operand_a : (Instr.smov 0 { d := 3, a := 1, b := 2 }).wf = false := by decide
theorem test_illformed_vlane_immediate : (Instr.vlane 0 { d := 3, imm := some 1 }).wf = false := by decide
theorem test_illformed_vext_lane : (Instr.vext 0 { d := 3, a := 1, b := 8 }).wf = false := by decide
theorem test_illformed_ldc_b : (Instr.ldc 0 { d := 3, a := 1, b := 1 }).wf = false := by decide
theorem test_illformed_bra_condition : (Instr.bra 0 { d := 6, imm := some 1 }).wf = false := by decide
theorem test_illformed_bra_short : (Instr.bra 0 { d := 0 }).wf = false := by decide
theorem test_illformed_loop_short : (Instr.loop 0 { a := 1 }).wf = false := by decide
theorem test_illformed_trap_short : (Instr.trap 0 {}).wf = false := by decide
theorem test_illformed_ldv_b : (Instr.ldv 0 { d := 3, a := 1, b := 1 }).wf = false := by decide
theorem test_illformed_lds_vector : (Instr.lds 0 { d := 3, a := 33 }).wf = false := by decide
theorem test_illformed_calq_block : (Instr.calq 0 { d := 57, a := 1 }).wf = false := by decide
theorem test_illformed_smpa_block : (Instr.smpa 0 { d := 1, a := 61 }).wf = false := by decide
theorem test_illformed_smps_block : (Instr.smps 0 { d := 1, a := 62 }).wf = false := by decide
theorem test_illformed_smpcd_destination : (Instr.smpcd 0 { d := 63, a := 1 }).wf = false := by decide
theorem test_illformed_smpd_b : (Instr.smpd 0 { d := 1, a := 1, b := 1 }).wf = false := by decide
theorem test_illformed_ovl_plane : (Instr.ovl 0 { d := 1, a := 1, b := 4 }).wf = false := by decide
theorem test_illformed_out_destination : (Instr.out 0 { d := 1, a := 1, b := 2 }).wf = false := by decide
theorem test_illformed_view_line : (Instr.viewCacheFill 0 0 ⟨0, 2 ^ 26⟩ [] none none).wf = false := by decide
theorem test_illformed_lost_word : (Instr.spanWatchdog 0 0 0 { lost := [16384] }).wf = false := by decide
theorem test_illformed_hit_line : (Instr.sharedUnitResult 0 0 .sample 0 0 { line := some ⟨0, 2 ^ 26⟩ }).wf = false := by decide
theorem test_illformed_line_buffer : (Instr.ispLineTake 0 (some { store := false, alcove := 2, word := 0 })).wf = false := by decide
theorem test_illformed_word_errors :
    (Instr.scrub 0 0 [⟨3, true, 1⟩, ⟨3, true, 1⟩]).wf = false := by decide
theorem test_illformed_unit : (Instr.dramRead 0 0 (2 ^ 31) [] none none).wf = false := by decide
theorem test_illformed_merge : (Instr.dramRead 0 0 0 [] (some ⟨60, [1, 2, 3, 4, 5]⟩) none).wf = false := by decide
theorem test_illformed_wagon : (Instr.hello 0 .up { bytes := [1, 2, 3] }).wf = false := by decide
theorem test_illformed_frame :
    (Instr.track 0 { dst := 0, src := 0, etype := 0x88B5, payload := [], wire := 5 }).wf = false := by decide
theorem test_illformed_stage : (Instr.stageAbort 0 (.caravan { bytes := [] })).wf = false := by decide
theorem test_illformed_capture_count : (Instr.captureLegComplete 0 0 [] 65536).wf = false := by decide
theorem test_illformed_millivolts : (Instr.warnCrossing 0 0 4096).wf = false := by decide
theorem test_illformed_channels : (Instr.dramTrainingComplete 0 (List.replicate 9 default)).wf = false := by decide
theorem test_illformed_housekeeping : (Instr.housekeepingRound 0 []).wf = false := by decide
theorem test_illformed_lanes : (Instr.hopBringUp 0 .up []).wf = false := by decide
theorem test_illformed_alert :
    (Instr.alertNPulse 0 0 0 { code := 0, rank := false, bg := 0, bank := 0, addr := 0, req := 0, phys := 2 ^ 37 }).wf = false := by
  decide
theorem test_illformed_sync :
    (Instr.sync 0 { bytes := List.replicate 20 0 } 0 (2 ^ 16)).wf = false := by decide
theorem test_illformed_temperatures : (Instr.dramTemperatureRead 0 0 [0, 0, 0]).wf = false := by decide
theorem test_illformed_packet :
    (Instr.longPacket 0 0 { ecc := .ok, vc := 0, dtype := 0x2B, wc := 2 } [1] 0).wf = false := by decide
theorem test_illformed_width : (Instr.registerWrite 0 .service 0 24 0).wf = false := by decide
theorem test_illformed_address : (Instr.lowWordRead 0 .service (2 ^ 32)).wf = false := by decide
theorem test_illformed_high_word : (Instr.highWordWrite 0 .service (2 ^ 32) 0).wf = false := by decide
theorem test_illformed_read_count : (Instr.svcRead 0 0 256).wf = false := by decide
theorem test_illformed_write_length : (Instr.svcWrite 0 0 (List.replicate 1024 0)).wf = false := by decide +kernel

/-! ### The engine's instruction words, written out from R102 and R110: lg, op, pg, pn, d, a, b, as, bs -/

/-- NOP and END. -/
theorem test_decode_plain :
    decodeEngine 0 [0b0_0000000_000_0_000000_000000_000000_0_0] = some (.nop 0 {}, 1) ∧
    decodeEngine 0 [0b0_1011010_000_0_000000_000000_000000_0_0] = some (.endSpan 0 {}, 1) := by decide
/-- v3 := v1 + v2 under guard !p5. -/
theorem test_decode_iadd :
    decodeEngine 0 [0b0_0000010_101_1_000011_000001_000010_0_0] =
      some (.iadd 0 { pg := 5, pn := true, d := 3, a := 1, b := 2 }, 1) := by decide
/-- v4 := s7 × 0.5, a 64-bit instruction. -/
theorem test_decode_fmul :
    decodeEngine 0 [0b1_0010010_000_0_000100_000111_000000_1_0, 0x3F000000] =
      some (.fmul 0 { d := 4, a := 7, as := true, imm := some 0x3F000000 }, 2) := by decide
/-- p2 := v8 < s9. -/
theorem test_decode_fslt :
    decodeEngine 0 [0b0_0111000_000_0_000010_001000_001001_0_1] =
      some (.fslt 0 { d := 2, a := 8, b := 9, bs := true }, 1) := by decide
/-- s10 := s11 + s12. -/
theorem test_decode_sadd :
    decodeEngine 0 [0b0_1000001_000_0_001010_001011_001100_0_0] = some (.sadd 0 { d := 10, a := 11, b := 12 }, 1) := by decide
/-- s1 := constant s2 + 5. -/
theorem test_decode_ldc :
    decodeEngine 0 [0b1_1010010_000_0_000001_000010_000000_0_0, 5] = some (.ldc 0 { d := 1, a := 2, imm := some 5 }, 2) := by
  decide
/-- Always back by 4. -/
theorem test_decode_bra :
    decodeEngine 0 [0b1_1011000_000_0_000000_000000_000000_0_0, 0xFFFFFFFC] =
      some (.bra 0 { imm := some 0xFFFFFFFC }, 2) := by decide
/-- v6 := the words at v5 + 16. -/
theorem test_decode_ldv :
    decodeEngine 0 [0b1_1100000_000_0_000110_000101_000000_0_0, 16] =
      some (.ldv 0 { d := 6, a := 5, imm := some 16 }, 2) := by decide
/-- v16 := a sample at v20 to v23 of colour v24. -/
theorem test_decode_smpa :
    decodeEngine 0 [0b0_1110001_000_0_010000_010100_011000_0_0] = some (.smpa 0 { d := 16, a := 20, b := 24 }, 1) := by decide
/-- v0 into the subpixels that v1 and v2 name. -/
theorem test_decode_out :
    decodeEngine 0 [0b0_1110110_000_0_000000_000000_000001_0_0] = some (.out 0 { b := 1 }, 1) := by decide
/-- Opcodes that the table leaves out, and a set lg bit in NOP. -/
theorem test_decode_refuses :
    decodeEngine 0 [0x1B000000] = none ∧ decodeEngine 0 [0x7F000000] = none ∧
      decodeEngine 0 [0x80000000, 0] = none := by decide

/-! ### The block -/

/-- The next command is taken and the others stay. -/
theorem witness_StepRunsFront :
    (step { State.reset with pending := [.svcWstat 5, .svcId 6] } =
      exec (.svcWstat 5) { State.reset with pending := [.svcId 6] }) ∧
    State.reset.pending = [] ∧
    Holds (stepped { State.reset with pending := [.svcWstat 5, .svcId 6] }) fun t => t.pending = [.svcId 6] := ⟨rfl, rfl, by decide +kernel⟩

/-- A state in canonical form, and its next one. -/
theorem witness_StepKeepsCanonical :
    Memory.wf State.reset.dram.mem = true ∧ Sparse.wf State.reset.regs = true ∧ Sparse.wf State.reset.engines = true ∧
    raisesRising State.reset.evt.pend = true ∧
    Holds (stepped { State.reset with pending := [.evtInject 5 .concierge 0x0501] }) fun t => t.evt.pend.map (·.src) = [5] := by decide +kernel

/-- A step that takes a command (R454, R488). -/
theorem witness_StepKeepsQueueAndFuses :
    Holds (stepped { State.reset with pending := [.evtInject 5 .concierge 0x0501, .svcId 6] }) fun t => t.pending = [.svcId 6] ∧
      t.boot.otp = State.reset.boot.otp ∧ t.sbx.serial = State.reset.sbx.serial := by decide +kernel

/-- An instruction with an immediate, its words and the next instruction's word. -/
theorem witness_EncodeDecode :
    (ofOpcode 0x12 3 { d := 4, a := 7, as := true, imm := some 0x3F000000 }).isSome = true ∧
    (Instr.fmul 3 { d := 4, a := 7, as := true, imm := some 0x3F000000 }).wf = true ∧
    encodeEngine (.fmul 3 { d := 4, a := 7, as := true, imm := some 0x3F000000 }) = some [0x92010702, 0x3F000000] ∧
    (decodeEngine 3 [0x92010702, 0x3F000000, 0]).isSome = true := by decide

/-- A NaN with a number, two NaNs, 1.5 + NaN, 1e-38 × 0.5, the largest exact integer (R97, R100, R101, R110). -/
theorem witness_FloatRules :
    (isNan32 0x7FC12345 = true ∧ isNan32 0x3FC00000 = false) ∧ isNan32 0xFF800001 = true ∧
    isNan32 (fadd 0x3FC00000 0x7FC12345) = true ∧
    bits (fmul 0x006CE3EE 0x3F000000).toNat 30 23 = 0 ∧
    (0x01000000 : Word).toInt.natAbs ≤ 2 ^ 24 ∧ (0xFF000000 : Word).toInt.natAbs ≤ 2 ^ 24 := by decide +kernel

/-! ### Arithmetic against known values -/

/-- 1.0 + 2.0 = 3.0, 3.0 × 0.5 = 1.5, round to nearest even at 2²⁴ + 1. -/
theorem test_float : fadd 0x3F800000 0x40000000 = 0x40400000 ∧ fmul 0x40400000 0x3F000000 = 0x3FC00000 ∧
    fadd 0x4B800000 0x3F800000 = 0x4B800000 ∧ i2f 16777217 = 0x4B800000 := by decide +kernel
/-- The check values of the nine bytes "123456789". -/
theorem test_crc :
    crc32c (0x31 :: [0x32, 0x33, 0x34, 0x35, 0x36, 0x37, 0x38, 0x39]) = 0xE3069283 ∧
    crc32 (0x31 :: [0x32, 0x33, 0x34, 0x35, 0x36, 0x37, 0x38, 0x39]) = 0xCBF43926 ∧
    crc16 (0x31 :: [0x32, 0x33, 0x34, 0x35, 0x36, 0x37, 0x38, 0x39]) = 0x29B1 := by decide +kernel
/-- The digest of "abc". -/
theorem test_sha256 : (sha256 [0x61, 0x62, 0x63]).take 4 = [0xBA, 0x78, 0x16, 0xBF] := by decide +kernel
/-- The green byte that R219 traces. -/
theorem test_green_byte : channelOf 3 0x0EBBF4D6 = 6 ∧ localAddr 3 0x0EBBF4D6 = 30899862 := by decide
/-- Two idle symbols and D21.5 in the code of IEEE 802.3 Clause 36. -/
theorem test_code10 :
    encodeAll false [symIdle, symIdle, symLock] = [0b0011111010, 0b1100000101, 0b1010101010] := by decide +kernel
/-- PRBS7 after seven ones: six zeros, then a one (x⁷ + x⁶ + 1, R301). -/
theorem test_prbs7 : prbsBits 1 8 0x7F = [false, false, false, false, false, false, true, false] := by decide +kernel
/-- A wagon of 20 + 40 bytes takes its START row and one DATA row (R304). -/
theorem test_rows : rowCount 60 = 2 ∧ rowCount 56 = 1 ∧ rowCount (20 + 9216) = 145 := by decide

/-- A wagon of 60 bytes whose header CRC is right, with a marker row before its DATA row. -/
theorem witness_LaneRows :
    Holds (stampWagon (wagonBytes 0x43 2 0xF0 3 40 0 0 (zeros 40)) 5 false false) fun b =>
      20 ≤ b.length ∧ b.length = 20 + leAt b 6 2 ∧ (crc16 (b.take 14)).toNat = leAt b 14 2 ∧
      (16382 + 1) % 16384 ≠ 0 ∧
        (withMarkers true 16382 (wagonRows b))[1]? = some (markerRow true) := by decide +kernel

/-! ### States

`base` runs with no Itinerary, `w` scans on outputs 1 and 2 with a leg in the pool, `wb` has work in every unit. -/

def base : State := { State.reset with clock := { edges := 500000000, ns := 0x3B9ACA0000000000 }, boot := { phase := .running, romDone := true } }
def g0 : Engine := { out := 1, slot := 2, span := 3, xs0 := 60, y0 := 8, w := 40, pc := 5, clk := 100, excluded := 2, token := 1
                     v := (List.range 512).map fun k => (k, BitVec.ofNat 32 (k * 2654435761)), s := (List.range 32).map fun k => (k, BitVec.ofNat 32 (k * 40503))
                     p := [(1, 0x5A), (2, 0), (3, 0xFF), (4, 1), (5, 2), (6, 0xF0), (7, 0x0F)]
                     lm := (List.range 100).map fun k => (k, BitVec.ofNat 32 (k * 77)), busy := [(3, 102), (66, 101)], written := 5, bankFree := 90 }
def es : State := ((base.setFld (ENG_PROG_INFO_size 2) 64).setFld (ENG_PROG_INFO_cost 2) 40).setEngine 17 g0
def f1 : Form := { d := 9, a := 4, b := 7 }
def f2 : Form := { pg := 1, d := 4, a := 4, b := 5, as := true }
def f5 : Form := { d := 4, a := 4, b := 5 }
def sets (s : State) (l : List (RegField × Nat)) : State := l.foldl (fun s (f, v) => s.setFld f v) s
def orec : OutputRec := { width := 40, lines := 96, blank := 16, chCount := 2, period := 16000000, phase := 5, chFirst := 3, chRate := 1, bgRed := 1, bgGreen := 2, bgBlue := 3, staticN := 3, staticM := 8 }
def band0 : BandRec := { lower := -640, minRefresh := 10, maxRefresh := 200, inversion := 0, n := 0, phases := 2, lutSet := 0, vcomDuty := 3, gckRise := 1, gckWidth := 2, stvLead := 1, stvWidth := 2 }
def rmode : RaymodeRec := { mode := 0, prog := 0, format := 0, nu := 2, nv := 2, vw := 16, vh := 16, tanU := 0x3F000000, tanV := 0x3F000000, confMin := 3, ovlBytes := 4, planes := [{enable := true}, {}, {enable:=true}, {}] }
def regsW : List (RegField × Nat) :=
  [(SCN_OUT_STAT_state 1, 2), (SCN_OUT_STAT_state 2, 2), (PTR_OUT_PERIOD_period_ns 1, 16000000), (PTR_OUT_PERIOD_period_ns 2, 8000000),
   (DRC_CFG_channels, 8), (DRC_SR_CFG_idle_us, 100), (DRC_SR_CFG_idle_max_us, 1000), (INK_LEG_pool, 8), (INK_LEG_free, 8), (ENG_PROG_INFO_size 0, 64), (ENG_PROG_INFO_cost 0, 40), (CDC_CFG_chains, 64), (SVC_STAT_unlocked, 1)] ++
  ((List.range 8).map fun c => (DRC_CH_STAT_state c, 2)) ++ ((List.range 8).map fun c => (DRC_CH_SR_idle_us c, 100)) ++ ((List.range 12).map fun k => (INK_SPACE_SIZE_rooms k, 8))
def cyc : Cycle := { tickAt := 990000000, tickEdge := 495000000, nextTick := 1006000000, ticked := true, decided := some 6, decode := some 7, display := some 5,
                     markers := [⟨7, [(0x100, 3)], 995000000⟩], legs := [{ item := 1, legId := 0x100, chain := 3, serial := 7, outcome := none, done := true, order := 1 }], released := 7 }
def w : State := sets { base with
  itin := { State.reset.itin with output := #v[none, some orec, some { orec with width := 20, period := 8000000 }, none], raymode := #v[none, some rmode, some rmode, none], bands := #v[[], [band0], [band0], []], dram := some { channels := 8, density := 1, ranks := 1, speed := 1 } }
  outs := #v[{}, { cycle := cyc, render := { valid := [(8, 0), (16, 60)] }, scan := { line := 50 } }, { cycle := { cyc with markers := [], legs := [], decode := none, released := 12 }, scan := { line := 60 } }, {}]
  rooms := { State.reset.rooms with
             first := Vector.ofFn (fun k => if k.val < 12 then some (8 * k.val) else none)
             legTags := [(0, (1, 7))]
             fills := [⟨1, 7, 0, 128⟩]
             cursor := 1
             arrivals := 5
             items := [{ kind := 0, out := 1, serial := 7, stream := 3, offset := 0, got := 128, complete := true, order := 1 }] } } regsW
def eng1 : Engine := { g0 with out := 1 }
def run1 : LegRun := { item := 1, hdr := { legId := 0x100, chain := 3, output := 1, serial := 7, format := 0, viewLast := 0, rowCount := 2, width := 16 } }
def ctx1 : CtxRec := { gen := 1, serial := 7, output := 1, format := 0, viewFirst := 0, viewLast := 0, rowFirst := 0, rowCount := 2, width := 16, recent := [], hist := {} }
def wb : State := (({ w with
  engines := [(17, eng1), (40, { eng1 with out := 2 })],
  caches := (w.caches.set 1 [⟨⟨1, 5⟩, [1]⟩, ⟨⟨2, 5⟩, [1]⟩]),
  codecs := (w.codecs.set 2 { leg := some run1 }).set 3 { cap := some ⟨4, 1, 0, 8⟩ },
  chains := [(3, { cur := some { ctx1 with serial := 6 }, pend := some ctx1 }), (4, { pend := some { ctx1 with serial := 9 } })],
  porter := { w.porter with qa := [⟨1, 8, 10, [0, 1]⟩, ⟨2, 8, 10, [0]⟩], qb := [1], waitB := [1], qc := [⟨4, 1, 8, 8⟩, ⟨5, 1, 8, 8⟩], qd := [.card 1, .card 2, .stats 4], tokB := 3, tokC := 4, tokD := 5 },
  blt := { run := some ⟨1, 0, false, 0, 64, [], 0, 0⟩ },
  itin := { w.itin with camera := (w.itin.camera.set 4 (some { width := 16, height := 8, output := 1, chain := 9, alloc := 4096, legRows := 8, outWidth := 16, outHeight := 8 })).set 5 (some { width := 16, height := 8, output := 2 }), card := w.itin.card.set 1 (some { plane := 2, cardAfter := 3 }) },
  link := { w.link with rxUp := w.link.rxUp } }).setFld (CDC_U_STAT_busy 2) 1).setFld (LNK_STAT_up_state) 2
def wfrz (s : State) : State := s.setFld DRC_FREEZE_INFO_frozen 1
def cbits (c : Nat × Nat) : List Bool := (List.range c.1).map fun i => (c.2 / 2 ^ (c.1 - 1 - i)) % 2 = 1
def rbits (n v : Nat) : List Bool := cbits (n, v)
def cs0 := codesOf defaultLens
def sym (t : List (Nat × Nat)) (s : Nat) : List Bool := cbits (t.getD s (0,0))
def lenBits (n : Nat) : List Bool :=
  if n ≤ 8 then sym cs0.len (n - 1) else
  let s := ((List.range 36).filter fun s => 8 ≤ s && decide ((classBase s).1 ≤ n)).getLast?.getD 8
  sym cs0.len s ++ rbits (classBase s).2 (n - (classBase s).1)
def packBits : Nat → List Bool → Bytes
  | 0, _ => []
  | _, [] => []
  | f + 1, l => let b := (l ++ List.replicate 8 false).take 8
                BitVec.ofNat 8 (b.foldl (fun a x => 2 * a + (if x then 1 else 0)) 0) :: packBits f (l.drop 8)
def block (pixels : Nat) (bits : List Bool) : Bytes :=
  let p := packBits 100000 bits
  let n := 8 + (p.length + 3) / 4 * 4
  let n := max n 12
  toLe 4 n ++ toLe 2 pixels ++ [0, 0] ++ p ++ List.replicate (n - 8 - p.length) 0
def litTok (zs : List (List Nat)) : List Bool := sym cs0.cmd 0 ++ lenBits zs.length ++ zs.flatMap fun p => p.flatMap fun z => sym cs0.lit z
def blk1 : Bytes := block 128 (litTok ((List.range 16).map fun i => [i, 2 * i % 7, 3]) ++ sym cs0.cmd 5 ++ lenBits 112)
def hd (f : LegHeader → LegHeader) : LegHeader := f { magic := 0xDA4A, version := 1, flags := 1, legId := 0x100, chain := 3, output := 1, format := 0, gen := 1, startGen := 0, serial := 7, refSerial := 0xFFFFFFFF, viewFirst := 1, viewLast := 1, rowFirst := 8, rowCount := 8, decoded := 384, compressed := blk1.length, blocks := 1, width := 16 }
def mkLeg (s : State) (h : LegHeader) (body : Bytes) (complete : Bool := true) : State :=
  let b := legHeaderBytes h ++ body
  { s.spaceWrite spLEG 0 b with rooms := { s.rooms with items := [{ kind := 0, out := 1, serial := 7, stream := 3, offset := 0, got := b.length, complete, order := 1 }] }
                                porter := { s.porter with qb := [1] } }
def wl : State := (w.updCycle 1 fun c => { c with legs := c.legs.map fun l => { l with done := false } })
def L1 := mkLeg wl (hd id) blk1
def L9 := mkLeg wl (hd id) (blk1.take 30) false

namespace RayEngine

def e17 : EngineId := 17
def gl : Engine := { g0 with lost := [2, 7] }
def el : State := es.setEngine 17 gl
def form_1 : Form := ({d:=3}:Form)
def form_2 : Form := ({d:=3,a:=5}:Form)
def form_3 : Form := ({d:=3,a:=0,b:=0,imm:=some 7}:Form)
def form_4 : Form := ({d:=3,a:=5,b:=0,imm:=some 0xFFFFFFFF}:Form)
def form_5 : Form := ({d:=0,a:=0,b:=0,imm:=some 7}:Form)
def form_6 : Form := ({}:Form)
def form_7 : Form := ({a:=3,d:=5,b:=0,imm:=some 7}:Form)
def form_8 : Form := ({a:=0,d:=5,b:=0,imm:=some 8}:Form)
def form_9 : Form := ({a:=0,d:=5,as:=true,imm:=some 8}:Form)

theorem witness_VectorOperations :
    (es.engine? e17 = some g0 ∧ g0.ending = false ∧ es.fetchOk g0 (if f1.imm.isSome = true then 2 else 1) = true ∧
      Shape.vab.ok f1 = true ∧ g0.unitWaits (shapeWaits Shape.vab f1) = false ∧
      Option.any g0.queueFull none = false ∧ 100 = g0.issueClock (shapeWaits Shape.vab f1) false none ∧
      100 + 1 - (g0.issuing Shape.vab f1 none 100).excluded ≤ es.budget g0.slot g0.w) ∧
    (es.engine? e17 = some g0 ∧ g0.ending = false ∧
      es.fetchOk g0 (if form_1.imm.isSome = true then 2 else 1) = true ∧ Shape.vb.ok form_1 = true ∧
      g0.unitWaits (shapeWaits Shape.vb form_1) = false ∧ Option.any g0.queueFull none = false ∧
      102 = g0.issueClock (shapeWaits Shape.vb form_1) false none ∧
      102 + 1 - (g0.issuing Shape.vb form_1 none 102).excluded ≤ es.budget g0.slot g0.w) ∧
    (es.engine? e17 = some g0 ∧ g0.ending = false ∧
      es.fetchOk g0 (if form_1.imm.isSome = true then 2 else 1) = true ∧ Shape.vlane.ok form_1 = true ∧
      g0.unitWaits (shapeWaits Shape.vlane form_1) = false ∧ Option.any g0.queueFull none = false ∧
      102 = g0.issueClock (shapeWaits Shape.vlane form_1) false none ∧
      102 + 1 - (g0.issuing Shape.vlane form_1 none 102).excluded ≤ es.budget g0.slot g0.w) := by
  refine ⟨?_, ?_, ?_⟩ <;> decide +kernel

theorem witness_Predicates :
    (es.engine? e17 = some g0 ∧ g0.ending = false ∧ es.fetchOk g0 (if f2.imm.isSome = true then 2 else 1) = true ∧
      Shape.cmp.ok f2 = true ∧ g0.unitWaits (shapeWaits Shape.cmp f2) = false ∧
      Option.any g0.queueFull none = false ∧ 100 = g0.issueClock (shapeWaits Shape.cmp f2) false none ∧
      100 + 1 - (g0.issuing Shape.cmp f2 none 100).excluded ≤ es.budget g0.slot g0.w) ∧
    (es.engine? e17 = some g0 ∧ g0.ending = false ∧ es.fetchOk g0 (if f5.imm.isSome = true then 2 else 1) = true ∧
      Shape.pred.ok f5 = true ∧ g0.unitWaits (shapeWaits Shape.pred f5) = false ∧
      Option.any g0.queueFull none = false ∧ 100 = g0.issueClock (shapeWaits Shape.pred f5) false none ∧
      100 + 1 - (g0.issuing Shape.pred f5 none 100).excluded ≤ es.budget g0.slot g0.w) ∧
    (es.engine? e17 = some g0 ∧ g0.ending = false ∧
      es.fetchOk g0 (if form_2.imm.isSome = true then 2 else 1) = true ∧ Shape.pset.ok form_2 = true ∧
      g0.unitWaits (shapeWaits Shape.pset form_2) = false ∧ Option.any g0.queueFull none = false ∧
      100 = g0.issueClock (shapeWaits Shape.pset form_2) false none ∧
      100 + 1 - (g0.issuing Shape.pset form_2 none 100).excluded ≤ es.budget g0.slot g0.w) ∧
    (es.engine? e17 = some g0 ∧ g0.ending = false ∧
      es.fetchOk g0 (if form_2.imm.isSome = true then 2 else 1) = true ∧ Shape.pget.ok form_2 = true ∧
      g0.unitWaits (shapeWaits Shape.pget form_2) = false ∧ Option.any g0.queueFull none = false ∧
      100 = g0.issueClock (shapeWaits Shape.pget form_2) false none ∧
      100 + 1 - (g0.issuing Shape.pget form_2 none 100).excluded ≤ es.budget g0.slot g0.w) := by
  refine ⟨?_, ?_, ?_, ?_⟩ <;> decide +kernel

theorem witness_ScalarOperations :
    (es.engine? e17 = some g0 ∧ g0.ending = false ∧ es.fetchOk g0 (if f1.imm.isSome = true then 2 else 1) = true ∧
      Shape.sab.ok f1 = true ∧ g0.unitWaits (shapeWaits Shape.sab f1) = false ∧
      Option.any g0.queueFull none = false ∧ 100 = g0.issueClock (shapeWaits Shape.sab f1) false none ∧
      100 + 1 - (g0.issuing Shape.sab f1 none 100).excluded ≤ es.budget g0.slot g0.w) ∧
    (es.engine? e17 = some g0 ∧ g0.ending = false ∧ es.fetchOk g0 (if f1.imm.isSome = true then 2 else 1) = true ∧
      Shape.vext.ok f1 = true ∧ g0.unitWaits (shapeWaits Shape.vext f1) = false ∧
      Option.any g0.queueFull none = false ∧ 100 = g0.issueClock (shapeWaits Shape.vext f1) false none ∧
      100 + 1 - (g0.issuing Shape.vext f1 none 100).excluded ≤ es.budget g0.slot g0.w) ∧
    (es.engine? e17 = some g0 ∧ g0.ending = false ∧
      es.fetchOk g0 (if form_2.imm.isSome = true then 2 else 1) = true ∧ Shape.ldc.ok form_2 = true ∧
      g0.unitWaits (shapeWaits Shape.ldc form_2) = false ∧ Option.any g0.queueFull none = false ∧
      100 = g0.issueClock (shapeWaits Shape.ldc form_2) false none ∧
      100 + 1 - (g0.issuing Shape.ldc form_2 none 100).excluded ≤ es.budget g0.slot g0.w ∧ es.engines.wf = true ∧
      128 ≤ BitVec.toNat (g0.sreg ↑form_2.a + formOffset form_2)) ∧
    (es.engine? e17 = some g0 ∧ g0.ending = false ∧
      es.fetchOk g0 (if form_3.imm.isSome = true then 2 else 1) = true ∧ Shape.sb.ok form_3 = true ∧
      g0.unitWaits (shapeWaits Shape.sb form_3) = false ∧ Option.any g0.queueFull none = false ∧
      100 = g0.issueClock (shapeWaits Shape.sb form_3) false none ∧
      100 + 1 - (g0.issuing Shape.sb form_3 none 100).excluded ≤ es.budget g0.slot g0.w) ∧
    (es.engine? e17 = some g0 ∧ g0.ending = false ∧
      es.fetchOk g0 (if form_3.imm.isSome = true then 2 else 1) = true ∧ Shape.ldc.ok form_3 = true ∧
      g0.unitWaits (shapeWaits Shape.ldc form_3) = false ∧ Option.any g0.queueFull none = false ∧
      100 = g0.issueClock (shapeWaits Shape.ldc form_3) false none ∧
      100 + 1 - (g0.issuing Shape.ldc form_3 none 100).excluded ≤ es.budget g0.slot g0.w ∧
      BitVec.toNat (g0.sreg ↑form_3.a + formOffset form_3) < 128) := by
  refine ⟨?_, ?_, ?_, ?_, ?_⟩ <;> decide +kernel

theorem witness_ControlFlow :
    (es.engine? e17 = some g0 ∧ g0.ending = false ∧
      es.fetchOk g0 (if form_4.imm.isSome = true then 2 else 1) = true ∧ Shape.bra.ok form_4 = true ∧
      g0.unitWaits (shapeWaits Shape.bra form_4) = false ∧ Option.any g0.queueFull none = false ∧
      100 = g0.issueClock (shapeWaits Shape.bra form_4) false none ∧
      100 + 1 - (g0.issuing Shape.bra form_4 none 100).excluded ≤ es.budget g0.slot g0.w) ∧
    (es.engine? e17 = some g0 ∧ g0.ending = false ∧
      es.fetchOk g0 (if form_5.imm.isSome = true then 2 else 1) = true ∧ Shape.loop.ok form_5 = true ∧
      g0.unitWaits (shapeWaits Shape.loop form_5) = false ∧ Option.any g0.queueFull none = false ∧
      100 = g0.issueClock (shapeWaits Shape.loop form_5) false none ∧
      100 + 1 - (g0.issuing Shape.loop form_5 none 100).excluded ≤ es.budget g0.slot g0.w) ∧
    (es.engine? e17 = some g0 ∧ g0.ending = false ∧
      es.fetchOk g0 (if form_5.imm.isSome = true then 2 else 1) = true ∧ Shape.trap.ok form_5 = true ∧
      g0.unitWaits (shapeWaits Shape.trap form_5) = false ∧ Option.any g0.queueFull none = false ∧
      100 = g0.issueClock (shapeWaits Shape.trap form_5) false none ∧
      100 + 1 - (g0.issuing Shape.trap form_5 none 100).excluded ≤ es.budget g0.slot g0.w ∧ es.engines.wf = true) ∧
    (es.engine? e17 = some g0 ∧ g0.ending = false ∧
      es.fetchOk g0 (if form_6.imm.isSome = true then 2 else 1) = true ∧ Shape.plain.ok form_6 = true ∧
      g0.unitWaits (shapeWaits Shape.plain form_6) = false ∧ Option.any g0.queueFull none = false ∧
      100 = g0.issueClock (shapeWaits Shape.plain form_6) false none ∧
      100 + 1 - (g0.issuing Shape.plain form_6 none 100).excluded ≤ es.budget g0.slot g0.w ∧ es.engines.wf = true ∧
      g0.reqs = [] ∧
      ({ g0.issuing Shape.plain form_6 none 100 with clk := 100 + 1 }).settle.counted ≤ es.budget g0.slot g0.w ∧
      g0.complete = false) := by
  refine ⟨?_, ?_, ?_, ?_⟩ <;> decide +kernel

theorem witness_LocalMemory :
    (es.engine? e17 = some g0 ∧ g0.ending = false ∧
      es.fetchOk g0 (if form_7.imm.isSome = true then 2 else 1) = true ∧ Shape.lscal.ok form_7 = true ∧
      g0.unitWaits (shapeWaits Shape.lscal form_7) = false ∧ Option.any g0.queueFull none = false ∧
      100 = g0.issueClock (shapeWaits Shape.lscal form_7) true none ∧
      100 + 1 - (g0.issuing Shape.lscal form_7 none 100).excluded ≤ es.budget g0.slot g0.w ∧
      (BitVec.toNat (g0.sreg ↑form_7.a + form_7.imm.getD 0) % 4 ≠ 0 ∨ 65536 ≤ BitVec.toNat (g0.sreg ↑form_7.a + form_7.imm.getD 0)) ∧
      es.engines.wf = true) ∧
    (es.engine? e17 = some g0 ∧ g0.ending = false ∧
      es.fetchOk g0 (if form_8.imm.isSome = true then 2 else 1) = true ∧ Shape.lscal.ok form_8 = true ∧
      g0.unitWaits (shapeWaits Shape.lscal form_8) = false ∧ Option.any g0.queueFull none = false ∧
      100 = g0.issueClock (shapeWaits Shape.lscal form_8) true none ∧
      100 + 1 - (g0.issuing Shape.lscal form_8 none 100).excluded ≤ es.budget g0.slot g0.w ∧
      BitVec.toNat (g0.sreg ↑form_8.a + form_8.imm.getD 0) % 4 = 0 ∧
      BitVec.toNat (g0.sreg ↑form_8.a + form_8.imm.getD 0) < 65536 ∧
      ¬BitVec.toNat (g0.sreg ↑form_8.a + form_8.imm.getD 0) / 4 ∈ g0.lost) ∧
    (el.engine? e17 = some gl ∧ gl.ending = false ∧
      el.fetchOk gl (if form_8.imm.isSome = true then 2 else 1) = true ∧ Shape.lscal.ok form_8 = true ∧
      gl.unitWaits (shapeWaits Shape.lscal form_8) = false ∧ Option.any gl.queueFull none = false ∧
      100 = gl.issueClock (shapeWaits Shape.lscal form_8) true none ∧
      100 + 1 - (gl.issuing Shape.lscal form_8 none 100).excluded ≤ el.budget gl.slot gl.w ∧
      BitVec.toNat (gl.sreg ↑form_8.a + form_8.imm.getD 0) % 4 = 0 ∧
      BitVec.toNat (gl.sreg ↑form_8.a + form_8.imm.getD 0) < 65536 ∧
      BitVec.toNat (gl.sreg ↑form_8.a + form_8.imm.getD 0) / 4 ∈ gl.lost ∧ el.engines.wf = true) ∧
    (es.engine? e17 = some g0 ∧ g0.ending = false ∧
      es.fetchOk g0 (if form_7.imm.isSome = true then 2 else 1) = true ∧ Shape.lvec.ok form_7 = true ∧
      g0.unitWaits (shapeWaits Shape.lvec form_7) = false ∧ Option.any g0.queueFull none = false ∧
      102 = g0.issueClock (shapeWaits Shape.lvec form_7) true none ∧
      102 + 1 - (g0.issuing Shape.lvec form_7 none 102).excluded ≤ es.budget g0.slot g0.w ∧ (∃ (i : Nat), i < 8 ∧
      g0.lane form_7 i = true ∧
      ((fun i => BitVec.toNat (g0.opA form_7 i + form_7.imm.getD 0)) i % 4 ≠ 0 ∨ 65536 ≤ (fun i => BitVec.toNat (g0.opA form_7 i + form_7.imm.getD 0)) i)) ∧
      es.engines.wf = true) ∧
    (es.engine? e17 = some g0 ∧ g0.ending = false ∧
      es.fetchOk g0 (if form_9.imm.isSome = true then 2 else 1) = true ∧ Shape.lvec.ok form_9 = true ∧
      g0.unitWaits (shapeWaits Shape.lvec form_9) = false ∧ Option.any g0.queueFull none = false ∧
      100 = g0.issueClock (shapeWaits Shape.lvec form_9) true none ∧
      100 + 1 - (g0.issuing Shape.lvec form_9 none 100).excluded ≤ es.budget g0.slot g0.w ∧
      (∀ (i : Nat), i < 8 → g0.lane form_9 i = true → (fun i => BitVec.toNat (g0.opA form_9 i + form_9.imm.getD 0)) i % 4 = 0 ∧
      (fun i => BitVec.toNat (g0.opA form_9 i + form_9.imm.getD 0)) i < 65536) ∧
      (∀ (i : Nat), i < 8 → g0.lane form_9 i = true → ¬(fun i => BitVec.toNat (g0.opA form_9 i + form_9.imm.getD 0)) i / 4 ∈ g0.lost)) ∧
    (el.engine? e17 = some gl ∧ gl.ending = false ∧
      el.fetchOk gl (if form_9.imm.isSome = true then 2 else 1) = true ∧ Shape.lvec.ok form_9 = true ∧
      gl.unitWaits (shapeWaits Shape.lvec form_9) = false ∧ Option.any gl.queueFull none = false ∧
      100 = gl.issueClock (shapeWaits Shape.lvec form_9) true none ∧
      100 + 1 - (gl.issuing Shape.lvec form_9 none 100).excluded ≤ el.budget gl.slot gl.w ∧
      (∀ (i : Nat), i < 8 → gl.lane form_9 i = true → (fun i => BitVec.toNat (gl.opA form_9 i + form_9.imm.getD 0)) i % 4 = 0 ∧
      (fun i => BitVec.toNat (gl.opA form_9 i + form_9.imm.getD 0)) i < 65536) ∧ (∃ (i : Nat), i < 8 ∧
      gl.lane form_9 i = true ∧ (fun i => BitVec.toNat (gl.opA form_9 i + form_9.imm.getD 0)) i / 4 ∈ gl.lost) ∧
      el.engines.wf = true) := by
  refine ⟨?_, ?_, ?_, ?_, ?_, ?_⟩ <;> decide +kernel

theorem witness_UnitRequests :
    (es.engine? e17 = some g0 ∧ g0.ending = false ∧ es.fetchOk g0 (if f1.imm.isSome = true then 2 else 1) = true ∧
      (Instr.smpa, SharedUnit.sample, 113, Shape.smpa, fun (g : Engine) (f : Form) i => (fun (n : Nat) (g : Engine) (f : Form) i => List.map (fun k => g.vreg (↑f.a + k) i) (List.range n)) 4 g f i ++ (fun (g : Engine) (f : Form) i => [g.opB f i]) g f i).snd.snd.snd.fst.ok f1 = true ∧
      g0.unitWaits (shapeWaits (Instr.smpa, SharedUnit.sample, 113, Shape.smpa, fun (g : Engine) (f : Form) i => (fun (n : Nat) (g : Engine) (f : Form) i => List.map (fun k => g.vreg (↑f.a + k) i) (List.range n)) 4 g f i ++ (fun (g : Engine) (f : Form) i => [g.opB f i]) g f i).snd.snd.snd.fst f1) = false ∧
      Option.any g0.queueFull (some (Instr.smpa, SharedUnit.sample, 113, Shape.smpa, fun (g : Engine) (f : Form) i => (fun (n : Nat) (g : Engine) (f : Form) i => List.map (fun k => g.vreg (↑f.a + k) i) (List.range n)) 4 g f i ++ (fun (g : Engine) (f : Form) i => [g.opB f i]) g f i).snd.fst) = false ∧
      100 = g0.issueClock (shapeWaits (Instr.smpa, SharedUnit.sample, 113, Shape.smpa, fun (g : Engine) (f : Form) i => (fun (n : Nat) (g : Engine) (f : Form) i => List.map (fun k => g.vreg (↑f.a + k) i) (List.range n)) 4 g f i ++ (fun (g : Engine) (f : Form) i => [g.opB f i]) g f i).snd.snd.snd.fst f1) false (some (Instr.smpa, SharedUnit.sample, 113, Shape.smpa, fun (g : Engine) (f : Form) i => (fun (n : Nat) (g : Engine) (f : Form) i => List.map (fun k => g.vreg (↑f.a + k) i) (List.range n)) 4 g f i ++ (fun (g : Engine) (f : Form) i => [g.opB f i]) g f i).snd.fst) ∧
      100 + 1 - (g0.issuing (Instr.smpa, SharedUnit.sample, 113, Shape.smpa, fun (g : Engine) (f : Form) i => (fun (n : Nat) (g : Engine) (f : Form) i => List.map (fun k => g.vreg (↑f.a + k) i) (List.range n)) 4 g f i ++ (fun (g : Engine) (f : Form) i => [g.opB f i]) g f i).snd.snd.snd.fst f1 (some (Instr.smpa, SharedUnit.sample, 113, Shape.smpa, fun (g : Engine) (f : Form) i => (fun (n : Nat) (g : Engine) (f : Form) i => List.map (fun k => g.vreg (↑f.a + k) i) (List.range n)) 4 g f i ++ (fun (g : Engine) (f : Form) i => [g.opB f i]) g f i).snd.fst) 100).excluded ≤ es.budget g0.slot g0.w) := by decide +kernel

end RayEngine

namespace EngineTraps

def e17 : EngineId := 17
def req0 : UnitReq := { unit := .sfu, op := 0x68, d := 40, b := 0, active := 3, ops := List.replicate 8 [0x40000000], pc := 4, clk := 90 }
def gr : Engine := { g0 with reqs := [req0] }
def gc : Engine := { g0 with written := 2 ^ 320 - 1 }
def esr := es.setEngine 17 gr
def esc := es.setEngine 17 gc
def esf := es.setFld (ENG_PROG_INFO_size 2) 0
def form_1 : Form := ({}:Form)
def instr_1 : Instr := Instr.calq 17 {d:=60}
def form_2 : Form := ({d:=60}:Form)

theorem witness_ControlFlow_2 :
    (esr.engine? e17 = some gr ∧ gr.ending = false ∧
      esr.fetchOk gr (if form_1.imm.isSome = true then 2 else 1) = true ∧ Shape.plain.ok form_1 = true ∧
      gr.unitWaits (shapeWaits Shape.plain form_1) = false ∧ Option.any gr.queueFull none = false ∧
      100 = gr.issueClock (shapeWaits Shape.plain form_1) false none ∧
      100 + 1 - (gr.issuing Shape.plain form_1 none 100).excluded ≤ esr.budget gr.slot gr.w ∧ esr.engines.wf = true ∧
      gr.reqs ≠ []) ∧
    (esc.engine? e17 = some gc ∧ gc.ending = false ∧
      esc.fetchOk gc (if form_1.imm.isSome = true then 2 else 1) = true ∧ Shape.plain.ok form_1 = true ∧
      gc.unitWaits (shapeWaits Shape.plain form_1) = false ∧ Option.any gc.queueFull none = false ∧
      100 = gc.issueClock (shapeWaits Shape.plain form_1) false none ∧
      100 + 1 - (gc.issuing Shape.plain form_1 none 100).excluded ≤ esc.budget gc.slot gc.w ∧ esc.engines.wf = true ∧
      gc.reqs = [] ∧
      ({ gc.issuing Shape.plain form_1 none 100 with clk := 100 + 1 }).settle.counted ≤ esc.budget gc.slot gc.w ∧
      gc.complete = true) := by
  refine ⟨?_, ?_⟩ <;> decide +kernel

theorem witness_EngineChecks :
    (instr_1.engineForm = some (112, Shape.calq, form_2) ∧ ofOpcode 112 e17 form_2 = some instr_1 ∧
      es.engine? e17 = some g0 ∧ g0.ending = false ∧ es.engines.wf = true ∧
      es.fetchOk g0 (if form_2.imm.isSome = true then 2 else 1) = true ∧ Shape.calq.ok form_2 = false) ∧
    (instr_1.engineForm = some (112, Shape.calq, form_2) ∧ ofOpcode 112 e17 form_2 = some instr_1 ∧
      esf.engine? e17 = some g0 ∧ g0.ending = false ∧ esf.engines.wf = true ∧
      esf.fetchOk g0 (if form_2.imm.isSome = true then 2 else 1) = false) := by
  refine ⟨?_, ?_⟩ <;> decide +kernel

end EngineTraps

namespace Registers

def un : State := ({ base with svc := { lastFrame := 400000000, wstat := 3 } }).setFld SVC_STAT_unlocked 1
def lk : State := { base with svc := { lastFrame := 400000000, wstat := 3 } }
def off : State := ((un.setPd 44 0).setPd 43 1).setPd 36 3
def sb : State := { un with sbx := { un.sbx with queued := some {kind := 3}, lastLimited := some 500000100, serial := 9, slots := (un.sbx.slots.set 0 {valid:=true,kept:=true,serial:=4}).set 1 {valid:=true,serial:=5} } }
def sw : State := { un with sbx := { un.sbx with writing := some (3, {valid:=true, kept:=true,kind:=3,serial:=77}) } }
def state_1 : State := {un with clock := {un.clock with edges := 100}}
def raise_1 : Raise := ({src:=5,cause:=1,arg:=77,stamp:=un.timeNs,coalesced:=false,injected:=false,frozen:=false,harbour:=false}:Raise)

theorem witness_RegisterWrites :
    (Holds (un.advanceTo 600000000) fun s0 => ((regAt (RAY_BRIGHT 1)).isSome) = true ∧ s0.writesOn Path.service ∧
      s0.grants (RAY_BRIGHT 1) ∧ plainRegister (RAY_BRIGHT 1) = true ∧ (RAY_BRIGHT 1) ≠ SVC_STAT) ∧
    (Holds (un.advanceTo 600000000) fun s0 => s0.writesOn Path.service ∧
      (16 ≠ 32 ∨ (RAY_BRIGHT 1) % 4 ≠ 0 ∨ inRegSpace (RAY_BRIGHT 1) = false)) ∧
    (Holds (lk.advanceTo 600000000) fun s0 => s0.unlocked = false ∧ (RAY_BRIGHT 1) ≠ SVC_UNLOCK) ∧
    (Holds (off.advanceTo 600000000) fun s0 => s0.writesOn Path.service ∧ DRC_ECC_CFG % 4 = 0 ∧
      inRegSpace DRC_ECC_CFG = true ∧ s0.pd (regDomain (blockOf DRC_ECC_CFG) (DRC_ECC_CFG % 65536)) ≠ 2) := by
  refine ⟨?_, ?_, ?_, ?_⟩ <;> decide +kernel

theorem witness_WordPairs :
    (Holds (un.advanceTo 600000000) fun s0 => s0.writesOn Path.service ∧ s0.grants DRC_THAW_ADDR_HI) ∧
    (Holds (un.advanceTo 600000000) fun s0 => s0.grants TIM_NS_LO ∧ isShadowed TIM_NS_LO = false) := by
  refine ⟨?_, ?_⟩ <;> decide +kernel

theorem witness_ServicePort :
    (Holds (un.advanceTo 600000000) fun s0 => s0.elapsed 0 (edgesMs 1) = true) ∧
    (Holds (un.advanceTo 600000000) fun s0 => (∀ (j : Nat), j < 2 → s0.grants ((RAY_BRIGHT 1) + 4 * j) ∧
      isShadowed ((RAY_BRIGHT 1) + 4 * j) = false ∧ (RAY_BRIGHT 1) + 4 * j ≠ SVC_STAT)) ∧
    ((1073809410 % 4 ≠ 0 ∨ inRegSpace 1073809410 = false)) ∧
    (svcCommands.contains 119 = false) ∧
    (Holds (off.advanceTo 600000000) fun s0 => WBS_STAT % 4 = 0 ∧ inRegSpace WBS_STAT = true ∧
      s0.pd (regDomain (blockOf WBS_STAT) (WBS_STAT % 65536)) ≠ 2) ∧
    (Holds (un.advanceTo 600000000) fun s0 => s0.grants SVC_UNLOCK ∧ (24095 : Word).toNat % 2 ^ 16 = 24095) ∧
    (Holds (un.advanceTo 600000000) fun s0 => s0.grants SVC_UNLOCK ∧ (1 : Word).toNat % 2 ^ 16 ≠ 24095) ∧
    (List.length ([1,2,3]:Bytes) < 4) ∧
    (Holds (un.advanceTo 600000000) fun s0 => ((regAt (RAY_BRIGHT 1)).isSome) = true ∧ s0.unlocked = true ∧
      s0.grants (RAY_BRIGHT 1) ∧ plainRegister (RAY_BRIGHT 1) = true ∧ (RAY_BRIGHT 1) ≠ SVC_STAT ∧
      List.length ([1,2,3,4,5]:Bytes) / 4 = 1) ∧
    (Holds (un.advanceTo 1200000000) fun s0 => s0.elapsed s0.svc.lastFrame (edgesS 1) = true) ∧
    (Holds (un.advanceTo 1200000000) fun s0 => s0.unlocked = false ∧
      (∀ (j : Nat), j < List.length ([1,2,3,4,5]:Bytes) / 4 → (RAY_BRIGHT 1) + 4 * j ≠ SVC_UNLOCK) ∧
      4 ≤ List.length ([1,2,3,4,5]:Bytes)) ∧
    (Holds (state_1.advanceTo 200) fun s0 => s0.elapsed 0 (edgesMs 1) = false) := by
  refine ⟨?_, ?_, ?_, ?_, ?_, ?_, ?_, ?_, ?_, ?_, ?_, ?_⟩ <;> decide +kernel

theorem witness_RaisesCoalesce :
    (raisesRising ((un.raise 5 1 77).raise 200 2 3).evt.pend = true ∧
      ((un.raise 5 1 77).raise 200 2 3).evt.pend.getD 0 default ∈ ((un.raise 5 1 77).raise 200 2 3).evt.pend ∧
      (((un.raise 5 1 77).raise 200 2 3).evt.pend.getD 0 default).src = 5) := by decide +kernel

theorem witness_EventInjection :
    (Holds (un.advanceTo 600000000) fun s0 => s0.writesOn Path.service ∧ s0.grants EVT_INJECT) := by decide +kernel

theorem witness_RouterWrites :
    (Holds (((un.raise 5 1 77).raise 200 2 3).advanceTo 600000000) fun s0 => raisesRising s0.evt.pend = true ∧
      raise_1 ∈ s0.evt.pend ∧ raise_1.src < 256 ∧
      Option.any (fun e => !s0.elapsed e (edgesNs 4)) s0.evt.wroteAt = false ∧
      (∀ (q : Raise), q ∈ s0.evt.pend → raise_1.stamp < q.stamp ∨ raise_1.stamp = q.stamp ∧
      raise_1.src ≤ q.src)) := by decide +kernel

theorem witness_Snapshots :
    (Holds (un.advanceTo 600000000) fun s0 => s0.writesOn Path.service ∧ s0.grants SBX_CTRL ∧ 1 = 1 ∧
      s0.sbx.queued = none ∧ Option.any (fun e => !s0.elapsed e (edgesS 1)) s0.sbx.lastLimited = false) ∧
    (Holds (un.advanceTo 600000000) fun s0 => s0.writesOn Path.service ∧ s0.grants SBX_CTRL ∧
      1527513090 = 1527513090) ∧
    (Holds (sb.advanceTo 600000000) fun s0 => s0.writesOn Path.service ∧ s0.grants SBX_CTRL ∧ 1 = 1 ∧
      (s0.sbx.queued ≠ none ∨ Option.any (fun e => !s0.elapsed e (edgesS 1)) s0.sbx.lastLimited = true)) ∧
    (Holds (sb.advanceTo 600000000) fun s0 => (s0.sbx.queued.isSome) = true ∧ s0.sbx.writing = none) ∧
    (Holds (sw.advanceTo 600000000) fun s0 => (s0.sbx.writing.isSome) = true ∧ s0.boot.waiting = none) := by
  refine ⟨?_, ?_, ?_, ?_, ?_⟩ <;> decide +kernel

end Registers

namespace Router

def un : State := ({ base with svc := { lastFrame := 400000000, wstat := 3 } }).setFld SVC_STAT_unlocked 1
def r1 : State := (un.raise 5 1 77).raise 200 2 3
def r4 : State := { r1 with evt := { r1.evt with wroteAt := some 599999999 } }

theorem witness_RouterWrites_2 :
    (Holds (r1.advanceTo 600000000) fun s0 => raisesRising s0.evt.pend = true ∧
      s0.evt.pend.getD 0 default ∈ s0.evt.pend ∧ (s0.evt.pend.getD 0 default).src < 256 ∧
      Option.any (fun e => !s0.elapsed e (edgesNs 4)) s0.evt.wroteAt = false ∧
      (∀ (q : Raise), q ∈ s0.evt.pend → (s0.evt.pend.getD 0 default).stamp < q.stamp ∨ (s0.evt.pend.getD 0 default).stamp = q.stamp ∧
      (s0.evt.pend.getD 0 default).src ≤ q.src)) ∧
    (Holds (r4.advanceTo 600000000) fun s0 => Option.any (fun e => !s0.elapsed e (edgesNs 4)) s0.evt.wroteAt = true) := by
  refine ⟨?_, ?_⟩ <;> decide +kernel

end Router

namespace DramStates

def er0 (w : Fin 8) (d : Bool) : WordErr := { word := w, double := d, syndrome := 0x35 }
def wfr0 : State := after (.dramRead 500000001 50 7 [er0 5 true] none none) w
def rsm6 : UnitReq := { unit := .sample, op := 0x73, d := 40, b := 0, active := 0x03, ops := [], pc := 9, clk := 80 }
def wfil : State := { ({ w with porter := { w.porter with tokB := 5, tokC := 5, tokD := 5 } } : State).setEngine 17 { eng1 with reqs := [rsm6] } with dram := { w.dram with chans := w.dram.chans.map fun d => { d with fills := [(1, ⟨1,5⟩)] } } }
def er (w : Fin 8) (d : Bool) : WordErr := { word := w, double := d, syndrome := 0x35 }
def wscr : State := { w with dram := { w.dram with chans := w.dram.chans.set 3 { w.dram.chans[3] with scrubAt := 2^27-1 , issued := (List.replicate 64 ⟨1,2⟩)} } }
def whot : State := ({ w with dram := { w.dram with chans := (w.dram.chans.set 3 { w.dram.chans[3] with hot := 1 }).set 4 { w.dram.chans[4] with cool := 7, bounces := 9 }} }).setFld (DRC_CH_STAT_fgr2x 4) 1
def wref : State := (((({ whot with dram := { whot.dram with chans := (whot.dram.chans.set 5 { whot.dram.chans[5] with quiet := 15 }).set 6 { whot.dram.chans[6] with bounces := 3 }} }).setFld (DRC_CH_STAT_state 6) 3).setFld (DRC_CH_SR_idle_us 4) 600).setFld (DRC_CH_SR_idle_us 5) 400).setFld DRC_CFG_ranks2 1
def cmd0 : DramCmd := { code := 2, rank := false, bg := 1, bank := 2, addr := 5, req := 50, phys := 0x12345 }
def wret : State := { w with dram := { w.dram with chans := w.dram.chans.set 3 { w.dram.chans[3] with retry := [⟨true, cmd0⟩, ⟨false, cmd0⟩] } } }
def wfr : State := after (.dramRead 500000001 50 7 [er 5 true] none none) w
def wthaw : State := after (.thawStart 500000002 .concierge 0x7A5C0001) wfr
def wthaw2 : State := after (.thawGo 500000003 .concierge 2) wthaw
def listOfWordErr_1 : List WordErr := [er 1 false, er 2 false]
def mergeWrite_1 : MergeWrite := ({offset:=5,data:=[1,2,3]}:MergeWrite)
def listOfWordErr_2 : List WordErr := [er 3 false, er 4 true]
def listOf_1 : List (Fin 3) := [1]

theorem witness_AddressMapping :
    (0 ≤ 3 ∧ 0 < 2 ^ 0) := by decide +kernel

theorem witness_DramReads :
    (Holds (w.advanceTo 600000000) fun s0 => s0.unitFitted 7 = true ∧ s0.chState (s0.unitChannel 7) = 2 ∧
      (s0.dch (s0.unitChannel 7)).reads = [] ∧ (s0.dch (s0.unitChannel 7)).writes = [] ∧
      s0.classAReads (s0.unitChannel 7) = [] ∧ (s0.dch (s0.unitChannel 7)).gran = none ∧ s0.dram.bad = [] ∧
      s0.mayPay (s0.reqClass 32 (s0.inStock 7)) ∧ s0.frozen = false ∧ listOfWordErr_1 ≠ [] ∧
      hasDouble listOfWordErr_1 = false) ∧
    (Holds (w.advanceTo 600000000) fun s0 => s0.unitFitted 7 = true ∧ s0.chState (s0.unitChannel 7) = 2 ∧
      (s0.dch (s0.unitChannel 7)).reads = [] ∧ (s0.dch (s0.unitChannel 7)).writes = [] ∧
      s0.classAReads (s0.unitChannel 7) = [] ∧ (s0.dch (s0.unitChannel 7)).gran = none ∧ s0.dram.bad = [] ∧
      s0.mayPay (s0.reqClass 32 (s0.inStock 7)) ∧ s0.frozen = false ∧
      mergeWrite_1.offset + List.length mergeWrite_1.data ≤ 64) ∧
    (Holds (w.advanceTo 600000000) fun s0 => s0.unitFitted 7 = true ∧ s0.chState (s0.unitChannel 7) = 2 ∧
      (s0.dch (s0.unitChannel 7)).reads = [] ∧ (s0.dch (s0.unitChannel 7)).writes = [] ∧
      s0.classAReads (s0.unitChannel 7) = [] ∧ (s0.dch (s0.unitChannel 7)).gran = none ∧ s0.dram.bad = [] ∧
      s0.mayPay (s0.reqClass 32 (s0.inStock 7)) ∧ s0.frozen = false ∧
      ((List.find? (fun x => x.double) listOfWordErr_2).isSome) = true) ∧
    (Holds (w.advanceTo 600000000) fun s0 => s0.unitFitted 7 = true ∧ s0.chState (s0.unitChannel 7) = 2 ∧
      (s0.dch (s0.unitChannel 7)).reads = [] ∧ (s0.dch (s0.unitChannel 7)).writes = [] ∧
      s0.classAReads (s0.unitChannel 7) = [] ∧ (s0.dch (s0.unitChannel 7)).gran = none ∧ s0.dram.bad = [] ∧
      s0.mayPay (s0.reqClass 32 (s0.inStock 7)) ∧ s0.frozen = false ∧ s0.tlbHit (32 % 64) ↑77777 = false) ∧
    (Holds (wfr0.advanceTo 600000000) fun s0 => s0.frozen = true) ∧
    (Holds (wfil.advanceTo 600000000) fun s0 => s0.unitFitted 7 = true ∧ s0.chState (s0.unitChannel 7) = 2 ∧
      s0.mayPay (s0.reqClass 32 (s0.inStock 7)) ∧ s0.frozen = false ∧ s0.classAReads (s0.unitChannel 7) ≠ [] ∧
      (s0.dch (s0.unitChannel 7)).gran = none) ∧
    (Holds (w.advanceTo 600000000) fun s0 => s0.frozen = false ∧ s0.chState 3 = 2 ∧ (s0.dch 3).reads = [] ∧
      (s0.dch 3).writes = [] ∧ s0.classAReads 3 = [] ∧ (s0.dch 3).gran = none ∧ s0.dram.bad = [] ∧
      s0.scrubDue 3 = true ∧ ((List.find? (fun x => x.double) listOfWordErr_2).isSome) = true) ∧
    (Holds (w.advanceTo 600000000) fun s0 => s0.elapsed s0.dram.intervalAt (edgesS 1) = true) ∧
    (Holds (wscr.advanceTo 600000000) fun s0 => s0.unitFitted 7 = true ∧ s0.chState (s0.unitChannel 7) = 2 ∧
      (s0.dch (s0.unitChannel 7)).reads = [] ∧ (s0.dch (s0.unitChannel 7)).writes = [] ∧
      s0.classAReads (s0.unitChannel 7) = [] ∧ (s0.dch (s0.unitChannel 7)).gran = none ∧ s0.dram.bad = [] ∧
      s0.mayPay (s0.reqClass 51 (s0.inStock 7)) ∧ s0.frozen = false ∧ s0.tlbHit (51 % 64) 0 = false) ∧
    (Holds (wscr.advanceTo 600000000) fun s0 => (s0.dch 3).scrubAt * (3600 * edgesS 1 * max 1 (s0.fld DRC_ECC_CFG_scrub_h)) > (s0.now - (s0.dch 3).passAt) * s0.chanUnits) := by
  refine ⟨?_, ?_, ?_, ?_, ?_, ?_, ?_, ?_, ?_, ?_⟩ <;> decide +kernel

/-- `wscr` a month on: the scrub read that ends a pass is due. -/
theorem witness_scrub_pass :
    Holds (wscr.advanceTo 1300000000000000) fun s0 => s0.frozen = false ∧ s0.chState 3 = 2 ∧ (s0.dch 3).reads = [] ∧
      (s0.dch 3).writes = [] ∧ s0.classAReads 3 = [] ∧ (s0.dch 3).gran = none ∧ s0.dram.bad = [] ∧ s0.scrubDue 3 = true ∧
      s0.chanUnits ≤ (s0.dch 3).scrubAt + 1 := by decide +kernel

theorem witness_Refreshes :
    (Holds (w.advanceTo 600000000) fun s0 => s0.frozen = false ∧ s0.chState 3 = 2 ∧
      (false = true → s0.fld DRC_CFG_ranks2 = 1) ∧
      s0.elapsed (s0.dch 3).lastRef[if false = true then 1 else 0] (if s0.fld (DRC_CH_STAT_fgr2x ↑3) = 1 then 1950 else 3900) = true) ∧
    (Holds (w.advanceTo 600000000) fun s0 => s0.frozen = false ∧ s0.chState 3 = 2 ∧
      listOf_1.length = s0.ranks.length ∧ s0.elapsed (s0.dch 3).lastTemp (edgesMs 32) = true ∧
      (s0.refsDue 3).justRefreshed 3 = true) ∧
    (Holds (w.advanceTo 600000000) fun s0 => s0.frozen = false ∧ s0.chState 3 = 2 ∧ s0.fld DRC_SR_CFG_idle_us ≠ 0 ∧
      s0.elapsed (s0.dch 3).lastReq (edgesUs (s0.fld (DRC_CH_SR_idle_us ↑3))) = true ∧
      s0.classAForecast (1000 * s0.fld DRC_SR_CFG_guard_us) = false ∧ (s0.dch 3).gran = none) ∧
    (Holds (w.advanceTo 600000000) fun s0 => s0.frozen = false ∧ (s0.lowestActive = some 1 ∧
      (∀ o : Output, o = 1 → s0.dram.bounceAt < (s0.out o).cycle.tickEdge))) ∧
    (Holds (wref.advanceTo 600000000) fun s0 => s0.frozen = false ∧ s0.chState 6 = 3) := by
  refine ⟨?_, ?_, ?_, ?_, ?_⟩ <;> decide +kernel

theorem witness_RetriesAndThaw :
    (Holds (w.advanceTo 600000000) fun s0 => s0.frozen = false ∧ s0.chState 3 = 2 ∧
      (∀ (r : Retry), r ∈ (s0.dch 3).retry → r.ca = decide (6 ≤ 3 ∧ 3 ≤ 10))) ∧
    (Holds (wret.advanceTo 600000000) fun s0 => s0.frozen = false ∧ s0.chState 3 = 2 ∧
      (∃ (r : Retry), r ∈ (s0.dch 3).retry ∧ r.ca ≠ decide (6 ≤ 3 ∧ 3 ≤ 10))) ∧
    (Holds (wfr.advanceTo 600000000) fun s0 => s0.writesOn Path.concierge ∧ s0.grants DRC_THAW_CTRL ∧
      2052849665 = 2052849665 ∧ s0.frozen = true ∧ s0.dram.thawing = false) ∧
    (Holds (wthaw.advanceTo 600000000) fun s0 => s0.writesOn Path.concierge ∧ s0.grants DRC_THAW_CTRL ∧ 2 = 2 ∧
      s0.dram.thawing = true) ∧
    (Holds (wthaw2.advanceTo 600000000) fun s0 => s0.dram.thaw = some 0) := by
  refine ⟨?_, ?_, ?_, ?_, ?_⟩ <;> decide +kernel

end DramStates

namespace TickStates



theorem witness_Ticks :
    (Holds (w.advanceTo 503000000) fun s0 => ((s0.tickInstant 1).isSome) = true ∧ s0.scanning 1 = true ∧
      s0.engines.wf = true ∧ (∀ (d : DeadAlcove), d ∈ s0.rooms.dead → d.owner.isSome = true ∧
      d.owner ≠ some 1)) := by decide +kernel

end TickStates

namespace FrameStates

def trk : TrackMsg := { meas := 1000000000, receipt := 1001000000, eyes := [some ⟨10, -20, 1200, 9⟩, none, some ⟨1, 2, 3, 4⟩] }
def wt : State := { wb with wall := { wb.wall with tracks := [trk, { trk with meas := 999000000, receipt := 1002000000 }] } }
def sv := { (wb.updCycle 1 fun c => { c with service := true, tickAt := 1005900000, released := 0, decode := none, decided := some 5 }) with porter := { wb.porter with heldC := [⟨4, 1, 8, 8⟩, ⟨5, 1, 8, 8⟩], heldD := [.card 1, .card 2] } }
def rl := wb.updCycle 1 fun c => { c with released := 6 }
def rlf : State := { rl with porter := { rl.porter with qa := List.replicate 64 ⟨1, 8, 10, [0, 1]⟩ } }
def stk : StockRec := { rooms := 2, lists := 1, auto := [0xFF, 0, 0xFF, 0xFF], playlists := [0] }
def hdrP : Bytes := toLe 4 0x4C594150 ++ toLe 2 3 ++ [1, 0] ++ zeros 8
def pl : State := { (wb.updPlay 1 fun p => { p with noMarker := 9 }).setFld (BLT_CARD_idle 1) 8 with itin := { wb.itin with stock := some stk }, dram := (wb.spaceWrite spSTOCK 0 hdrP).dram }
def st := (wb.setFld (SCN_OUT_STAT_static 1) 1).setFld (SCN_OUT_STAT_m 1) 3
def st2 := st.updScan 1 fun x => { x with gridSince := 2 }
def st3 := st2.updCycle 1 fun c => { c with legs := [] }
def st4 := st.updCycle 1 fun c => { c with legs := [] }
def cycle_1 : Cycle := (w.out 1).cycle
def cycle_2 : Cycle := {}

theorem witness_Cutoffs :
    (Holds (w.advanceTo 502900000) fun s0 => s0.scanning 1 = true ∧ (s0.out 1).cycle.service = false ∧
      (s0.out 1).cycle.ticked = true ∧ (s0.out 1).cycle.cutB = false ∧ s0.ticksNext 1 = true ∧
      s0.beforeTick 1 250000 = true) ∧
    (Holds (w.advanceTo 502990000) fun s0 => s0.scanning 1 = true ∧ (s0.out 1).cycle.service = false ∧
      (s0.out 1).cycle.ticked = true ∧ (s0.out 1).cycle.cutCD = false ∧ s0.ticksNext 1 = true ∧
      s0.beforeTick 1 50000 = true) ∧
    (Holds (wt.advanceTo 502900000) fun s0 => s0.scanning 1 = true ∧ (s0.out 1).cycle.service = false ∧
      (s0.out 1).render.nextSet = none ∧ s0.beforeTick 1 400000 = true ∧
      latestTrack ((s0.out 1).cycle.nextTick - 400000) s0.wall.tracks = some trk) ∧
    (cycle_1.isReady = true) ∧
    (cycle_2.markerInTime = none) := by
  refine ⟨?_, ?_, ?_, ?_, ?_⟩ <;> decide +kernel

theorem witness_FrameUpkeep :
    (Holds (w.advanceTo 502960000) fun s0 => s0.scanning 1 = true ∧ (s0.out 1).cycle.ticked = true ∧
      (s0.out 1).cycle.service = false ∧ (s0.out 1).cycle.released = 7 ∧ 48 ≤ 8 * 7 ∧ 8 * 7 < s0.lines 1 ∧
      s0.lineReached 1 ((s0.outRec 1).blank + 8 * 7 - 40) = true ∧ s0.porter.qa.length < 64) ∧
    (Holds (sv.advanceTo 502960000) fun s0 => (s0.out 1).cycle.service = true ∧
      (s0.out 1).cycle.tickAt + 2000 ≤ s0.timeNs ∧ s0.scanning 1 = true) ∧
    (Holds (rlf.advanceTo 502960000) fun s0 => s0.scanning 1 = true ∧ (s0.out 1).cycle.ticked = true ∧
      (s0.out 1).cycle.service = false ∧ (s0.out 1).cycle.released = 6 ∧ 48 ≤ 8 * 6 ∧ 8 * 6 < s0.lines 1 ∧
      s0.lineReached 1 ((s0.outRec 1).blank + 8 * 6 - 40) = true ∧ 64 ≤ s0.porter.qa.length ∧
      s0.porter.filled.contains (1, 0) = false) ∧
    (Holds (w.advanceTo 502960000) fun s0 => s0.elapsed s0.porter.lastRefill (edgesUs 1) = true) ∧
    (Holds (pl.advanceTo 502960000) fun s0 => (s0.itin.stock.isSome) = true ∧
      (s0.itin.stock.getD default).auto.getD (↑1) 255 ≠ 255 ∧
      (s0.playlist? 1 ((s0.itin.stock.getD default).auto.getD (↑1) 255)).isSome = true ∧ s0.scanning 1 = true ∧
      s0.playing 1 = false ∧ 8 ≤ (s0.out 1).play.noMarker) ∧
    (Holds (pl.advanceTo 502960000) fun s0 => (s0.itin.card[1].isSome) = true ∧ s0.scanning 1 = true ∧
      s0.playing 1 = false ∧ (s0.out 1).render.cardShown = false ∧ (s0.out 1).render.bare = false ∧
      (s0.out 1).render.cardDue = false ∧
      max 1 (s0.itin.card[1].getD default).cardAfter ≤ s0.fld (BLT_CARD_idle ↑1)) ∧
    (Holds (st.advanceTo 502960000) fun s0 => s0.scanning 1 = true ∧ s0.fld (SCN_OUT_STAT_static ↑1) = 1 ∧
      (s0.out 1).scan.staticTick = false ∧ (s0.out 1).scan.staticSkip = false ∧ s0.beforeTick 1 250000 = true ∧
      (s0.out 1).cycle.isReady = true ∧ s0.frozen = false) ∧
    (Holds (st.advanceTo 503000000) fun s0 => s0.scanning 1 = true ∧ s0.fld (SCN_OUT_STAT_static ↑1) = 1 ∧
      (s0.out 1).scan.staticTick = false ∧ (s0.out 1).cycle.nextTick ≤ s0.timeNs) ∧
    (Holds (st3.advanceTo 502960000) fun s0 => s0.scanning 1 = true ∧ s0.fld (SCN_OUT_STAT_static ↑1) = 1 ∧
      (s0.out 1).scan.staticTick = false ∧ (s0.out 1).scan.staticSkip = false ∧ s0.beforeTick 1 250000 = true ∧
      (s0.out 1).cycle.isReady = false ∧ s0.waiting 1 = [] ∧
      s0.fld (SCN_OUT_STAT_m ↑1) = (s0.out 1).scan.gridSince + 1) ∧
    (Holds (st4.advanceTo 502960000) fun s0 => s0.scanning 1 = true ∧ s0.fld (SCN_OUT_STAT_static ↑1) = 1 ∧
      (s0.out 1).scan.staticTick = false ∧ (s0.out 1).scan.staticSkip = false ∧ s0.beforeTick 1 250000 = true ∧
      (s0.out 1).cycle.isReady = false ∧ s0.waiting 1 = [] ∧
      (s0.out 1).scan.gridSince + 1 < s0.fld (SCN_OUT_STAT_m ↑1)) := by
  refine ⟨?_, ?_, ?_, ?_, ?_, ?_, ?_, ?_, ?_, ?_⟩ <;> decide +kernel

end FrameStates

namespace Spans

def base2 : State := { wb.setFld (ENG_PROG_INFO_cost 2) 20 with itin := { wb.itin with raymode := wb.itin.raymode.set 1 (some { rmode with depth := true }) } }
def mk (r : UnitReq) (g : Engine) (s : State) : State := s.setEngine 17 { g with reqs := [{ unit := .calib, op := 0x70, d := 1, b := 0, active := 1, ops := [], pc := 0, clk := 0 }, r] }
def ops8 (f : Nat → List Word) : List (List Word) := (List.range 8).map f
def rs : UnitReq := { unit := .sfu, op := 0x6A, d := 40, b := 0, active := 0x55, ops := ops8 fun i => [BitVec.ofNat 32 (0x3F800000 + i * 0x800000)], pc := 9, clk := 80 }
def ro : UnitReq := { unit := .output, op := 0x76, d := 0, b := 0, active := 0x57, ops := ops8 fun i => [BitVec.ofNat 32 (0x3F000000 + i), BitVec.ofNat 32 (60 + i), BitVec.ofNat 32 (8 + i % 3)], pc := 9, clk := 80 }
def rob : UnitReq := { ro with ops := ops8 fun i => [0, BitVec.ofNat 32 (120 - i), 8] }
def rsm : UnitReq := { unit := .sample, op := 0x73, d := 40, b := 0, active := 0x03, ops := ops8 fun i => [BitVec.ofNat 32 (i % 2), 0x3F800000, 0x40000000, 1], pc := 9, clk := 80 }
def rcq : UnitReq := { unit := .calib, op := 0x70, d := 40, b := 0, active := 0x03, ops := ops8 fun i => [BitVec.ofNat 32 (i % 2), 3], pc := 9, clk := 80 }
def g1 : Engine := { eng1 with xs0 := 60, w := 60 }
def ss := mk rs g1 base2
def sob := mk rob g1 base2
def ssm := mk rsm g1 base2
def ssmc : State := { ssm with caches := ssm.caches.set 1 ((ssm.reqLines 1 rsm).map fun k => ⟨k, (List.range 64).map fun i => BitVec.ofNat 8 (i * 7)⟩) }
def scq := base2.setEngine 17 { g1 with reqs := [rcq], ending := true }
def scq2 := base2.setEngine 17 { g1 with reqs := [rcq] }
def scq3 := { scq2 with rooms := { scq2.rooms with dead := (List.range 128).map fun k => ⟨274 + k, none, none, false⟩ } }
def k0 : CacheKey := ((ssm.reqLines 1 rsm).head?).getD default
def ssmu : State := ssm.setFld (INK_SPACE_SIZE_rooms 1) 0
def softHits_1 : SoftHits := {}
def listOfWordErr_1 : List WordErr := []
def listOfWordErr_2 : List WordErr := [{ word := 1, double := true, syndrome := 0x35 }]

theorem witness_SpanDispatch :
    (Holds (wb.advanceTo 600000000) fun s0 => ((firstRow s0.porter.qa).isSome) = true ∧
      ((pickColumn (s0.out ((firstRow s0.porter.qa).getD default).out).cycle.stripes (s0.spanCols ((firstRow s0.porter.qa).getD default).out) (clusterOf 0) ((firstRow s0.porter.qa).getD default).cols).isSome) = true ∧
      s0.engine? 0 = none ∧ s0.inService (clusterOf 0) = true ∧ s0.accepts (clusterOf 0) = true) := by decide +kernel

theorem witness_SharedUnitResults :
    (Holds (ss.advanceTo 600000000) fun s0 => ((s0.engine? 17).isSome) = true ∧
      ((takeReq SharedUnit.sfu ((s0.engine? 17).getD default).reqs).isSome) = true ∧
      s0.reqTrap ((s0.engine? 17).getD default) ((takeReq SharedUnit.sfu ((s0.engine? 17).getD default).reqs).getD default).fst = 0 ∧
      (∀ (k : CacheKey), k ∈ s0.reqLines ((s0.engine? 17).getD default).out ((takeReq SharedUnit.sfu ((s0.engine? 17).getD default).reqs).getD default).fst → (s0.cacheLine? (clusterOf 17) k).isSome = true) ∧
      s0.engines.wf = true) ∧
    (Holds (ss.advanceTo 600000000) fun s0 => ((s0.engine? 17).isSome) = true ∧
      ((takeReq SharedUnit.sfu ((s0.engine? 17).getD default).reqs).isSome) = true ∧
      s0.reqTrap ((s0.engine? 17).getD default) ((takeReq SharedUnit.sfu ((s0.engine? 17).getD default).reqs).getD default).fst = 0 ∧
      (∀ (k : CacheKey), k ∈ s0.reqLines ((s0.engine? 17).getD default).out ((takeReq SharedUnit.sfu ((s0.engine? 17).getD default).reqs).getD default).fst → (s0.cacheLine? (clusterOf 17) k).isSome = true) ∧
      (∀ (a : Nat), a ∈ s0.calibAlcoves ((s0.engine? 17).getD default).out ((takeReq SharedUnit.sfu ((s0.engine? 17).getD default).reqs).getD default).fst → s0.calibDead a = false) ∧
      (((s0.engine? 17).getD default).ending = false ∨ ((takeReq SharedUnit.sfu ((s0.engine? 17).getD default).reqs).getD default).snd ≠ [])) ∧
    (Holds (sob.advanceTo 600000000) fun s0 => ((s0.engine? 17).isSome) = true ∧
      ((takeReq SharedUnit.output ((s0.engine? 17).getD default).reqs).isSome) = true ∧
      s0.reqTrap ((s0.engine? 17).getD default) ((takeReq SharedUnit.output ((s0.engine? 17).getD default).reqs).getD default).fst ≠ 0 ∧
      s0.engines.wf = true) ∧
    (Holds (ssmc.advanceTo 600000000) fun s0 => ((s0.engine? 17).isSome) = true ∧
      ((takeReq SharedUnit.sample ((s0.engine? 17).getD default).reqs).isSome) = true ∧
      s0.reqTrap ((s0.engine? 17).getD default) ((takeReq SharedUnit.sample ((s0.engine? 17).getD default).reqs).getD default).fst = 0 ∧
      (∀ (k : CacheKey), k ∈ s0.reqLines ((s0.engine? 17).getD default).out ((takeReq SharedUnit.sample ((s0.engine? 17).getD default).reqs).getD default).fst → (s0.cacheLine? (clusterOf 17) k).isSome = true) ∧
      s0.engines.wf = true) ∧
    (Holds (scq.advanceTo 600000000) fun s0 => ((s0.engine? 17).isSome) = true ∧
      ((takeReq SharedUnit.calib ((s0.engine? 17).getD default).reqs).isSome) = true ∧
      s0.reqTrap ((s0.engine? 17).getD default) ((takeReq SharedUnit.calib ((s0.engine? 17).getD default).reqs).getD default).fst = 0 ∧
      (∀ (k : CacheKey), k ∈ s0.reqLines ((s0.engine? 17).getD default).out ((takeReq SharedUnit.calib ((s0.engine? 17).getD default).reqs).getD default).fst → (s0.cacheLine? (clusterOf 17) k).isSome = true) ∧
      s0.engines.wf = true ∧
      0 ∈ s0.calibAlcoves ((s0.engine? 17).getD default).out ((takeReq SharedUnit.calib ((s0.engine? 17).getD default).reqs).getD default).fst) ∧
    (Holds (scq3.advanceTo 600000000) fun s0 => ((s0.engine? 17).isSome) = true ∧
      ((takeReq SharedUnit.calib ((s0.engine? 17).getD default).reqs).isSome) = true ∧
      s0.reqTrap ((s0.engine? 17).getD default) ((takeReq SharedUnit.calib ((s0.engine? 17).getD default).reqs).getD default).fst = 0 ∧
      (∀ (k : CacheKey), k ∈ s0.reqLines ((s0.engine? 17).getD default).out ((takeReq SharedUnit.calib ((s0.engine? 17).getD default).reqs).getD default).fst → (s0.cacheLine? (clusterOf 17) k).isSome = true) ∧
      s0.engines.wf = true ∧
      0 ∈ s0.calibAlcoves ((s0.engine? 17).getD default).out ((takeReq SharedUnit.calib ((s0.engine? 17).getD default).reqs).getD default).fst ∧
      s0.calibDead (0:Fin 128) = true) := by
  refine ⟨?_, ?_, ?_, ?_, ?_, ?_⟩ <;> decide +kernel

theorem witness_WatchdogAndLoss :
    (Holds (ss.advanceTo 600000000) fun s0 => ((s0.engine? 17).isSome) = true ∧
      { ((s0.engine? 17).getD default) with clk := if (s0.incFld (ENG_CL_STAT_sec_count (clusterOf 17)) softHits_1.corrected).awaitsFill (clusterOf 17) ((s0.engine? 17).getD default) = true then ((s0.engine? 17).getD default).clk else max ((s0.engine? 17).getD default).clk 5, lost := ((s0.engine? 17).getD default).lost ++ softHits_1.lost }.counted ≤ s0.budget ((s0.engine? 17).getD default).slot ((s0.engine? 17).getD default).w) ∧
    (Holds (ss.advanceTo 600000000) fun s0 => ((s0.engine? 17).isSome) = true ∧
      s0.budget ((s0.engine? 17).getD default).slot ((s0.engine? 17).getD default).w < { ((s0.engine? 17).getD default) with clk := if (s0.incFld (ENG_CL_STAT_sec_count (clusterOf 17)) softHits_1.corrected).awaitsFill (clusterOf 17) ((s0.engine? 17).getD default) = true then ((s0.engine? 17).getD default).clk else max ((s0.engine? 17).getD default).clk 50000, lost := ((s0.engine? 17).getD default).lost ++ softHits_1.lost }.counted ∧
      s0.engines.wf = true) ∧
    (Holds (ss.advanceTo 600000000) fun s0 => s0.inService ↑1 = true ∧ s0.engines.wf = true) := by
  refine ⟨?_, ?_, ?_⟩ <;> decide +kernel

theorem witness_ViewCacheFills :
    (Holds (ssm.advanceTo 600000000) fun s0 => s0.waiters (↑1) k0 ≠ [] ∧ s0.cacheLine? (↑1) k0 = none ∧
      s0.engines.wf = true ∧ mayRead ↑1 ↑k0.space = true ∧
      (∀ (u : Nat), u ∈ s0.lineUnit k0 → s0.fillAccepted (s0.unitChannel u) 1 k0 = true) ∧
      ((s0.phys? (↑k0.space) (64 * k0.line)).isSome) = true ∧
      ((s0.phys? (↑k0.space) (64 * k0.line + 63)).isSome) = true ∧
      s0.entryValid (↑k0.space) (64 * k0.line / roomBytes) = true ∧ s0.frozen = false ∧
      s0.chState (s0.unitChannel ((s0.phys? (↑k0.space) (64 * k0.line)).getD default / 64)) = 2 ∧
      (s0.dch (s0.unitChannel ((s0.phys? (↑k0.space) (64 * k0.line)).getD default / 64))).reads = [] ∧
      (s0.dch (s0.unitChannel ((s0.phys? (↑k0.space) (64 * k0.line)).getD default / 64))).writes = [] ∧
      (s0.dch (s0.unitChannel ((s0.phys? (↑k0.space) (64 * k0.line)).getD default / 64))).gran = none ∧
      s0.dram.bad = [] ∧ (none ≠ some true ∨ s0.tlbHit (↑1) (s0.lineIndex k0) = true) ∧
      hasDouble listOfWordErr_1 = false) ∧
    (Holds (ssm.advanceTo 600000000) fun s0 => s0.waiters (↑1) k0 ≠ [] ∧ s0.cacheLine? (↑1) k0 = none ∧
      s0.engines.wf = true ∧ mayRead ↑1 ↑k0.space = true ∧
      (∀ (u : Nat), u ∈ s0.lineUnit k0 → s0.fillAccepted (s0.unitChannel u) 1 k0 = true) ∧ s0.frozen = false ∧
      s0.tlbHit (↑1) (s0.lineIndex k0) = false) ∧
    (Holds (ssm.advanceTo 600000000) fun s0 => s0.waiters (↑1) k0 ≠ [] ∧ s0.cacheLine? (↑1) k0 = none ∧
      s0.engines.wf = true ∧ mayRead ↑1 ↑k0.space = true ∧
      (∀ (u : Nat), u ∈ s0.lineUnit k0 → s0.fillAccepted (s0.unitChannel u) 1 k0 = true) ∧
      ((s0.phys? (↑k0.space) (64 * k0.line)).isSome) = true ∧
      ((s0.phys? (↑k0.space) (64 * k0.line + 63)).isSome) = true ∧
      s0.entryValid (↑k0.space) (64 * k0.line / roomBytes) = true ∧ s0.frozen = false ∧
      s0.chState (s0.unitChannel ((s0.phys? (↑k0.space) (64 * k0.line)).getD default / 64)) = 2 ∧
      (s0.dch (s0.unitChannel ((s0.phys? (↑k0.space) (64 * k0.line)).getD default / 64))).reads = [] ∧
      (s0.dch (s0.unitChannel ((s0.phys? (↑k0.space) (64 * k0.line)).getD default / 64))).writes = [] ∧
      (s0.dch (s0.unitChannel ((s0.phys? (↑k0.space) (64 * k0.line)).getD default / 64))).gran = none ∧
      s0.dram.bad = [] ∧ (none ≠ some true ∨ s0.tlbHit (↑1) (s0.lineIndex k0) = true) ∧
      ((List.find? (fun y => y.double) listOfWordErr_2).isSome) = true) ∧
    (Holds (ssmu.advanceTo 600000000) fun s0 => s0.waiters (↑1) k0 ≠ [] ∧ s0.cacheLine? (↑1) k0 = none ∧
      s0.engines.wf = true ∧ mayRead ↑1 ↑k0.space = true ∧
      (∀ (u : Nat), u ∈ s0.lineUnit k0 → s0.fillAccepted (s0.unitChannel u) 1 k0 = true) ∧
      s0.phys? (↑k0.space) (64 * k0.line) = none) ∧
    (Holds ((wfrz ssm).advanceTo 600000000) fun s0 => s0.waiters (↑1) k0 ≠ [] ∧ s0.cacheLine? (↑1) k0 = none ∧
      s0.engines.wf = true ∧ mayRead ↑1 ↑k0.space = true ∧
      (∀ (u : Nat), u ∈ s0.lineUnit k0 → s0.fillAccepted (s0.unitChannel u) 1 k0 = true) ∧
      (s0.phys? (↑k0.space) (64 * k0.line)).isSome = true ∧
      (s0.phys? (↑k0.space) (64 * k0.line + 63)).isSome = true ∧
      s0.entryValid (↑k0.space) (64 * k0.line / roomBytes) = true ∧ s0.frozen = true) := by
  refine ⟨?_, ?_, ?_, ?_, ?_⟩ <;> decide +kernel

end Spans

namespace Legs

def D9 := after (.legDispatch 600000000 0 none) L9
def D1e := after (.legDispatch 500000001 0 none) L1
def L13 : State := { L1 with porter := { L1.porter with tokB := 0, qa := [⟨1, 8, 10, [0, 1]⟩] } }
def L14 : State := { L1 with rooms := { L1.rooms with legTags := [] } }
def cst (s : State) : State := s.setCodec 4 { draining := true }
def state_1 : State := {wb with blt := { draining := true}}

theorem witness_LegDecoding_c1 :
    Holds (L1.advanceTo 600000000) fun s0 => ((leastOf s0.porter.qb).isSome) = true ∧
      ((s0.item? ((leastOf s0.porter.qb).getD default)).isSome) = true ∧
      (decide ((s0.transact (rqCodec 0) (s0.dispatchReads ((s0.item? ((leastOf s0.porter.qb).getD default)).getD default))).fst = Dma.done)) = true ∧
      s0.frozen = false ∧ (s0.lowestUnit fun _ => true) = some 0 :=
  by decide +kernel

theorem witness_LegDecoding_c2 :
    Holds (L13.advanceTo 500000002) fun s0 => ((leastOf s0.porter.qb).isSome) = true ∧
      ((s0.item? ((leastOf s0.porter.qb).getD default)).isSome) = true ∧
      (decide ((s0.transact (rqCodec 0) (s0.dispatchReads ((s0.item? ((leastOf s0.porter.qb).getD default)).getD default))).fst = Dma.wait)) = true ∧
      s0.frozen = false ∧ (s0.lowestUnit fun _ => true) = some 0 :=
  by decide +kernel

theorem witness_LegDecoding_c3 :
    Holds (L14.advanceTo 500000002) fun s0 => ((leastOf s0.porter.qb).isSome) = true ∧
      ((s0.item? ((leastOf s0.porter.qb).getD default)).isSome) = true ∧
      (decide ((s0.transact (rqCodec 0) (s0.dispatchReads ((s0.item? ((leastOf s0.porter.qb).getD default)).getD default))).fst = Dma.refused)) = true ∧
      s0.frozen = false ∧ (s0.lowestUnit fun _ => true) = some 0 :=
  by decide +kernel

theorem witness_LegDecoding_c4 :
    Holds (D1e.advanceTo 500000002) fun s0 => ((s0.codec 0).leg.isSome) = true ∧
      (decide ((s0.transact (rqCodec 0) (s0.ctxWrite ((s0.codec 0).leg.getD default).hdr.chain)).fst = Dma.done)) = true ∧
      s0.frozen = false ∧ ((s0.codec 0).leg.getD default).finished = true ∧
      s0.pastB (Fin.ofNat 4 ((s0.codec 0).leg.getD default).hdr.output) = false :=
  by decide +kernel

theorem witness_LegDecoding_c5 :
    Holds (D9.advanceTo 600000000) fun s0 => ((s0.codec 0).leg.isSome) = true ∧
      ((s0.item? ((s0.codec 0).leg.getD default).item).isSome) = true ∧ s0.frozen = false ∧
      ((s0.codec 0).leg.getD default).finished = false :=
  by decide +kernel

theorem witness_LegDecoding_c6 :
    Holds ((cst wb).advanceTo 600000000) fun s0 => (s0.codec 4).draining = true :=
  by decide +kernel

theorem witness_LegDecoding_c7 :
    Holds (state_1.advanceTo 600000000) fun s0 => s0.blt.draining = true :=
  by decide +kernel

end Legs

namespace CaptureAndBlit

def camc : CameraRec := { width := 16, height := 8, output := 1, chain := 9, alloc := 4096, legRows := 8, outWidth := 16, outHeight := 8, encode := true, outFormat := 0 }
def capBlk : Bytes := block 16 (litTok ((List.range 16).map fun i => [i, 2 * i % 7, 3]))
def row0 : List Word := [16646144, 16515583, 16384768, 16254718, 16123136, 15991805, 15859712, 15728892, 15597824, 15467515, 15336960,
      15205882, 15074048, 14942457, 14811136, 14680568].map fun n => BitVec.ofNat 32 n
def wc : State := { wb with
  codecs := (wb.codecs.set 3 { cap := some ⟨4, 1, 0, 1⟩ }).set 2 {}
  porter := { wb.porter with qb := [] }
  cams := wb.cams.set 4 { (wb.cam 4) with outRows := (List.range 8).map fun j => (1 * 65536 + j, row0) }
  itin := { wb.itin with camera := wb.itin.camera.set 4 (some camc) } }
def wc1 := (wc.setFld CDC_CFG_enc_mask 0xFF)
def wc2 := { wc1 with itin := { wc1.itin with camera := wc1.itin.camera.set 4 (some { camc with alloc := 70 }) } }
def wc3 : State := { wc1 with engines := [], porter := { wc1.porter with qa := [] } }
def wc4 : State := { wc3 with link := { wc3.link with txUp := { wc3.link.txUp with limit := #v[50000, 50000, 50000] } } }
def cmd (op : Nat) (c : BlitCmd) : Bytes := toLe 1 op ++ toLe 1 c.flags ++ toLe 1 c.sfmt ++ toLe 1 c.dfmt ++ toLe 2 c.width ++ toLe 2 c.height ++ toLe 1 c.sspace ++ [0] ++ toLe 2 c.dead ++ toLe 4 c.spitch ++ toLe 8 c.soffset ++ toLe 1 c.dspace ++ [0,0,0] ++ toLe 4 c.dpitch ++ toLe 8 c.doffset ++ toLe 4 c.colour.toNat ++ toLe 4 c.colour2.toNat
def fillc : BlitCmd := { op := 2, dfmt := 1, width := 5, height := 3, dspace := 7, dpitch := 64, doffset := 128, colour := 0xFF808040, reservedZero := true }
def copyc : BlitCmd := { op := 1, sfmt := 1, dfmt := 1, width := 5, height := 3, sspace := 10, spitch := 64, soffset := 0, dspace := 7, dpitch := 64, doffset := 128, flags := 1, reservedZero := true }
def hdr (o n : Nat) : Bytes := toLe 2 0xB175 ++ [1] ++ toLe 1 o ++ [2, 0] ++ toLe 2 n ++ toLe 4 7 ++ [0,0,0,0]
def lst (cs : List BlitCmd) : Bytes := hdr 1 cs.length ++ cs.flatMap fun c => cmd c.op c
def mkL (b : Bytes) (s : State) : State := { s.spaceWrite spLEG 0 b with rooms := { s.rooms with items := [{ kind := 1, out := 1, serial := 7, stream := 3, offset := 0, got := b.length, complete := true, order := 1 }] }, blt := {}, porter := { s.porter with qd := [.list 1 1, .card 2, .stats 4] }, itin := { s.itin with card := (s.itin.card.set 2 (some { plane := 2, cardAfter := 3, list := lst [copyc] })) } }
def Lb := mkL (lst [fillc, copyc]) wb
def run (c : BlitCmd) (s : State) : State := { s.spaceWrite 10 0 ((List.range 1000).map fun i => BitVec.ofNat 8 (i * 37)) with blt := { run := some ⟨1,2,false,0,1000,[c, {c with dpitch := 3}],0,0⟩ } }
def wbn : State := { wb with engines := [], porter := { wb.porter with qa := [] } }
def rn (cs : List BlitCmd) : ListRun := ⟨1,2,false,0,1000,cs,0,0⟩
def runs (cs : List BlitCmd) : State := { (run fillc wbn) with blt := { run := some (rn cs) } }
def capLeg_1 : CapLeg := ⟨4, 1, 0, 1⟩
def bytes_1 : Bytes := ([] : Bytes)
def capLeg_2 : CapLeg := ⟨4, 1, 8, 8⟩
def listRun_1 : ListRun := rn [fillc]
def instr_1 : Instr := .fill 500000001

theorem witness_CaptureEncoding_c1 :
    Holds (wc4.advanceTo 500000000) fun s0 => s0.frozen = false ∧ ((s0.encoded capLeg_1 bytes_1 0).isSome) = true ∧
      (s0.codec 3).cap = some capLeg_1 ∧ s0.pastCD (s0.camOutput capLeg_1.port) = false ∧
      List.take (List.length (s0.codec 3).sent.body) bytes_1 = (s0.codec 3).sent.body ∧
      List.length bytes_1 + 72 ≤ (s0.camRec capLeg_1.port).alloc ∧
      (¬(s0.chainOpen 3 (s0.camRec capLeg_1.port).chain = true ∨ s0.hopUsed Hop.up = true ∧
      s0.ownCredit (List.length ((if (s0.codec 3).sent.bytes = 0 then legHeaderBytes (capHeader (s0.camRec capLeg_1.port) capLeg_1 (s0.reg (CDC_U_LEG ↑3))) else []) ++ List.drop (List.length (s0.codec 3).sent.body) bytes_1 ++ if decide ((s0.encoded capLeg_1 bytes_1 0).getD default = capLeg_1.rows * capWidth (s0.camRec capLeg_1.port)) = true then toLe 4 (List.length bytes_1) ++ toLe 4 0 else [])) = false)) ∧
      (s0.mustPay 2 = false ∨ encodeCost (((s0.encoded capLeg_1 bytes_1 0).getD default - (s0.codec 3).sent.pixels) * bppOf (s0.camRec capLeg_1.port).outFormat) (List.length ((if (s0.codec 3).sent.bytes = 0 then legHeaderBytes (capHeader (s0.camRec capLeg_1.port) capLeg_1 (s0.reg (CDC_U_LEG ↑3))) else []) ++ List.drop (List.length (s0.codec 3).sent.body) bytes_1 ++ if decide ((s0.encoded capLeg_1 bytes_1 0).getD default = capLeg_1.rows * capWidth (s0.camRec capLeg_1.port)) = true then toLe 4 (List.length bytes_1) ++ toLe 4 0 else [])) ≤ s0.tokens 2) :=
  by decide +kernel

theorem witness_CaptureEncoding_c2 :
    Holds (wc4.advanceTo 500000000) fun s0 => s0.frozen = false ∧ s0.porter.qb = [] ∧
      s0.lowestUnit s0.mayEncode = some 0 ∧ s0.mayEncode 0 = true ∧
      firstCap (List.filter s0.encodeFits s0.porter.qc) = some capLeg_2 :=
  by decide +kernel

theorem witness_CaptureEncoding_c3 :
    Holds (wc3.advanceTo 500000000) fun s0 => s0.frozen = false ∧ ((s0.encoded capLeg_1 capBlk 1).isSome) = true ∧
      (s0.codec 3).cap = some capLeg_1 ∧ s0.pastCD (s0.camOutput capLeg_1.port) = false ∧
      List.take (List.length (s0.codec 3).sent.body) capBlk = (s0.codec 3).sent.body ∧
      List.length capBlk + 72 ≤ (s0.camRec capLeg_1.port).alloc ∧
      (s0.chainOpen 3 (s0.camRec capLeg_1.port).chain = true ∨ s0.hopUsed Hop.up = true ∧
      s0.ownCredit (List.length ((if (s0.codec 3).sent.bytes = 0 then legHeaderBytes (capHeader (s0.camRec capLeg_1.port) capLeg_1 (s0.reg (CDC_U_LEG ↑3))) else []) ++ List.drop (List.length (s0.codec 3).sent.body) capBlk ++ if decide ((s0.encoded capLeg_1 capBlk 1).getD default = capLeg_1.rows * capWidth (s0.camRec capLeg_1.port)) = true then toLe 4 (List.length capBlk) ++ toLe 4 1 else [])) = false) :=
  by decide +kernel

theorem witness_CaptureEncoding_c4 :
    Holds (wc2.advanceTo 500000000) fun s0 => s0.frozen = false ∧ ((s0.encoded capLeg_1 capBlk 1).isSome) = true ∧
      (s0.codec 3).cap = some capLeg_1 ∧ s0.pastCD (s0.camOutput capLeg_1.port) = false ∧
      List.take (List.length (s0.codec 3).sent.body) capBlk = (s0.codec 3).sent.body ∧
      (s0.camRec capLeg_1.port).alloc < List.length capBlk + 72 :=
  by decide +kernel

theorem witness_Blits_c1 :
    Holds (Lb.advanceTo 600000000) fun s0 => s0.blitFree = true ∧
      ((leastOf (List.filterMap (fun w => match w with | ClassD.list k n => if k = 1 then some n else none | _ => none) s0.porter.qd)).isSome) = true ∧
      ((s0.item? ((leastOf (List.filterMap (fun w => match w with | ClassD.list k n => if k = 1 then some n else none | _ => none) s0.porter.qd)).getD default)).isSome) = true ∧
      (decide ((s0.transact rqBlitter (s0.itemXacts ((s0.item? ((leastOf (List.filterMap (fun w => match w with | ClassD.list k n => if k = 1 then some n else none | _ => none) s0.porter.qd)).getD default)).getD default) 0 ((s0.item? ((leastOf (List.filterMap (fun w => match w with | ClassD.list k n => if k = 1 then some n else none | _ => none) s0.porter.qd)).getD default)).getD default).got false)).fst = Dma.done)) = true :=
  by decide +kernel

theorem witness_Blits_c2 :
    Holds (Lb.advanceTo 600000000) fun s0 => s0.blitFree = true ∧
      List.filterMap (fun w => match w with | ClassD.list k n => if k = 2 then some n else none | _ => none) s0.porter.qd = [] ∧
      ClassD.card 2 ∈ s0.porter.qd :=
  by decide +kernel

theorem witness_Blits_c3 :
    Holds ((runs [fillc]).advanceTo 500000001) fun s0 => (decide ((s0.transact rqBlitter (s0.blitXacts listRun_1.out listRun_1.plane (1 - s0.frontBuf listRun_1.out listRun_1.plane) listRun_1.base fillc)).fst = Dma.done)) = true ∧
      s0.frozen = false ∧ s0.blt.run = some listRun_1 ∧ s0.blt.draining = false ∧
      listRun_1.cmds[listRun_1.index]? = some fillc ∧ s0.pastCD listRun_1.out = false ∧
      s0.elapsed listRun_1.since (edgesNs (s0.blitCycles listRun_1.out listRun_1.plane (1 - s0.frontBuf listRun_1.out listRun_1.plane) listRun_1.base fillc)) = true ∧
      (fillc.op, instr_1) ∈ [(1, Instr.copy 500000001), (2, Instr.fill 500000001), (3, Instr.blend 500000001), (4, Instr.key 500000001), (5, Instr.glyph 500000001)] :=
  by decide +kernel

end CaptureAndBlit

namespace Panels

def rr : List RailRec := [{ winMin := 100, winMax := 200, off := 20 }, { winMin := 100, winMax := 200, off := 20 }, { winMin := -200, winMax := -100, off := -20 }, { winMin := -50, winMax := 50, off := 5 }]
def pw : State := { wb with itin := { wb.itin with panel := #v[none, some { rails := rr, cdReady := true }, some { rails := rr }, none] } }
def ln (k : Nat) (s : State) : State := s.updScan 1 fun c => { c with line := k, rows := { c.rows with sent := some { y := 1, pol := true, phases := 4, rise := 5, width := 7 } } }
def pseq (q k : Nat) (st : Nat) (s : State) : State := ((s.setFld (PNL_OUT_STAT_seq 1) q).setFld (PNL_OUT_STAT_step 1) k).setFld (SCN_OUT_STAT_state 1) st
def pl : State := pw.updCycle 1 fun c => { c with ticked := true }
def fzh : State := { wfrz pw with dram := { (wfrz pw).dram with frozenAt := some 500000000 } }
def railMv_1 : RailMv := ⟨150,150,-150,0⟩
def railMv_2 : RailMv := ⟨0,0,0,0⟩
def state_1 : State := (pseq 1 5 1 pw).setFld (PNL_OUT_STAT_cd_ready 1) 1
def state_2 : State := {pw with power := {pw.power with lossAt := some 5}}

theorem witness_LineSlots :
    (Holds ((ln 16 pl).advanceTo 600000000) fun s0 => (s0.out 1).scan.line = 16 ∧ 16 ≤ s0.frameLines 1 ∧
      s0.lineReached 1 16 = true ∧ s0.panelSeq 1 ≠ 2 ∧ s0.scanning 1 = true ∧ (s0.out 1).cycle.ticked = true ∧
      (s0.outRec 1).blank ≤ 16 ∧ 16 < s0.frameLines 1) ∧
    (Holds ((ln 3 pl).advanceTo 600000000) fun s0 => (s0.out 1).scan.line = 3 ∧ 3 ≤ s0.frameLines 1 ∧
      s0.lineReached 1 3 = true ∧ s0.panelSeq 1 ≠ 2 ∧ s0.scanning 1 = true ∧ (s0.out 1).cycle.ticked = true ∧
      (3 < (s0.outRec 1).blank ∨ 3 = s0.frameLines 1)) ∧
    (Holds ((pseq 2 0 3 (ln 24 pl)).advanceTo 600000000) fun s0 => (s0.out 1).scan.line = 24 ∧ 24 ≤ s0.frameLines 1 ∧
      s0.lineReached 1 24 = true ∧ s0.panelSeq 1 = 2 ∧ s0.panelStep 1 = 0) := by
  refine ⟨?_, ?_, ?_⟩ <;> decide +kernel

theorem witness_PanelPowerOn :
    (Holds ((pseq 1 1 1 pw).advanceTo 600000000) fun s0 => s0.panelSeq 1 = 1 ∧ 1 ≤ s0.panelStep 1 ∧
      s0.panelStep 1 ≤ 4 ∧
      (s0.railRec 1 (onRail (s0.panelStep 1))).inWindow (railOf railMv_1 (onRail (s0.panelStep 1))) = true) ∧
    (Holds ((pseq 1 1 1 pw).advanceTo 600000000) fun s0 => s0.panelSeq 1 = 1 ∧ 1 ≤ s0.panelStep 1 ∧
      s0.panelStep 1 ≤ 4 ∧
      (s0.railRec 1 (onRail (s0.panelStep 1))).inWindow (railOf railMv_2 (onRail (s0.panelStep 1))) = false ∧
      s0.stepOver 1 (edgesMs (s0.railRec 1 (onRail (s0.panelStep 1))).timeoutMs) = true ∧ s0.panelState 1 = 1) ∧
    (Holds ((pseq 1 5 1 pw).advanceTo 600000000) fun s0 => s0.panelSeq 1 = 1 ∧ s0.panelStep 1 = 5 ∧
      (s0.panelRec 1).cdReady = true ∧ s0.stepOver 1 trainEdges = true) ∧
    (Holds ((pseq 1 5 1 pw).advanceTo 600000000) fun s0 => s0.panelSeq 1 = 1 ∧ s0.panelStep 1 = 5 ∧
      (s0.panelRec 1).cdReady = true ∧ s0.fld (PNL_OUT_STAT_cd_ready ↑1) = 0 ∧
      s0.stepOver 1 (trainEdges + edgesMs 10) = true ∧ s0.panelState 1 = 1) ∧
    (Holds ((pseq 1 6 1 pw).advanceTo 600000000) fun s0 => s0.panelSeq 1 = 1 ∧ s0.panelStep 1 = 6 ∧
      s0.stepOver 1 (edgesMs (s0.panelRec 1).clearMs) = true) ∧
    (Holds ((pseq 1 7 1 pw).advanceTo 600000000) fun s0 => s0.panelSeq 1 = 1 ∧ s0.panelStep 1 = 7 ∧
      s0.stepOver 1 (edgesMs 1) = true) ∧
    (Holds (state_1.advanceTo 600000000) fun s0 => s0.panelSeq 1 = 1 ∧ s0.panelStep 1 = 5 ∧
      ((s0.panelRec 1).cdReady = false ∨ s0.fld (PNL_OUT_STAT_cd_ready ↑1) = 1) ∧
      s0.stepOver 1 trainEdges = true) := by
  refine ⟨?_, ?_, ?_, ?_, ?_, ?_, ?_⟩ <;> decide +kernel

theorem witness_PanelPowerOff :
    (Holds ((pseq 2 1 3 pw).advanceTo 600000000) fun s0 => s0.boot.waiting = none ∧ s0.panelSeq 1 = 2 ∧
      s0.panelStep 1 = 1 ∧ s0.stepOver 1 (edgesMs (s0.panelRec 1).clearMs) = true) ∧
    (Holds ((pseq 2 2 3 pw).advanceTo 600000000) fun s0 => s0.boot.waiting = none ∧ s0.panelSeq 1 = 2 ∧
      2 ≤ s0.panelStep 1 ∧ s0.panelStep 1 ≤ 4 ∧
      (¬∀ (r : Nat), r ∈ (s0.offWait 1 (s0.panelStep 1)).fst → (s0.railRec 1 r).isOff (railOf railMv_1 r) = true) ∧
      s0.stepOver 1 (s0.offWait 1 (s0.panelStep 1)).snd.snd = true) ∧
    (Holds ((pseq 2 2 3 pw).advanceTo 600000000) fun s0 => s0.boot.waiting = none ∧ s0.panelSeq 1 = 2 ∧
      2 ≤ s0.panelStep 1 ∧ s0.panelStep 1 ≤ 4 ∧
      (∀ (r : Nat), r ∈ (s0.offWait 1 (s0.panelStep 1)).fst → (s0.railRec 1 r).isOff (railOf railMv_2 r) = true) ∧
      s0.stepOver 1 (s0.offWait 1 (s0.panelStep 1)).snd.fst = true ∧ s0.panelStep 1 < 4) ∧
    (Holds ((pseq 2 4 3 pw).advanceTo 600000000) fun s0 => s0.boot.waiting = none ∧ s0.panelSeq 1 = 2 ∧
      2 ≤ s0.panelStep 1 ∧ s0.panelStep 1 ≤ 4 ∧
      (∀ (r : Nat), r ∈ (s0.offWait 1 (s0.panelStep 1)).fst → (s0.railRec 1 r).isOff (railOf railMv_2 r) = true) ∧
      s0.stepOver 1 (s0.offWait 1 (s0.panelStep 1)).snd.fst = true ∧ s0.panelStep 1 = 4) ∧
    (Holds ((pseq 3 1 3 pw).advanceTo 600000000) fun s0 => s0.boot.waiting = none ∧ s0.panelSeq 1 = 3 ∧
      s0.panelStep 1 = 1 ∧ s0.stepOver 1 (edgesUs (s0.panelRec 1).tEq) = true) ∧
    (Holds ((pseq 3 3 3 pw).advanceTo 600000000) fun s0 => s0.boot.waiting = none ∧ s0.panelSeq 1 = 3 ∧
      s0.panelStep 1 = 3 ∧ s0.stepOver 1 (edgesUs ((s0.panelRec 1).tEq + (s0.panelRec 1).tGh)) = true) ∧
    (Holds ((pseq 3 4 3 pw).advanceTo 600000000) fun s0 => s0.boot.waiting = none ∧ s0.panelSeq 1 = 3 ∧
      s0.panelStep 1 = 4 ∧
      s0.stepOver 1 (edgesUs ((s0.panelRec 1).tEq + (s0.panelRec 1).tGh + (s0.panelRec 1).tGl)) = true) ∧
    (Holds ((pseq 2 1 3 pw).advanceTo 600000000) fun s0 => s0.power.lossAt = none) ∧
    (Holds (fzh.advanceTo 5000000000) fun s0 => s0.boot.waiting = none ∧ (s0.dram.frozenAt.isSome) = true ∧
      s0.dram.held = false ∧ s0.therm.steps = [] ∧
      s0.elapsed (s0.dram.frozenAt.getD default) (edgesS (if s0.fld DRC_FREEZE_HOLD_hold_s = 0 then 5 else s0.fld DRC_FREEZE_HOLD_hold_s)) = true) ∧
    (Holds (state_2.advanceTo 5000000000) fun s0 => s0.power.lossAt ≠ none) := by
  refine ⟨?_, ?_, ?_, ?_, ?_, ?_, ?_, ?_, ?_, ?_⟩ <;> decide +kernel

end Panels

namespace Hops

def up2 : State := (({ wb with link := { wb.link with txUp := { wb.link.txUp with rowsAt := 599999990 }, txDn := { wb.link.txDn with rowsAt := 599999990 } } } : State).setFld LNK_STAT_up_state 2).setFld LNK_STAT_dn_state 2
def lockd : State := sets up2 ((List.range 32).flatMap fun n => [(LPH_STAT_block_lock n, 1), (LPH_STAT_cdr_lock n, 1), (LPH_STAT_deskewed n, 1)])
def state_1 : State := (lockd.setFld (LPH_PRBS_mode 3) 1).setFld (LPH_PRBS_mode 17) 2

theorem witness_Lanes :
    (Holds (lockd.advanceTo 600000000) fun s0 => s0.writesOn Path.concierge ∧ s0.grants LNK_INJECT) ∧
    (Holds (lockd.advanceTo 600000000) fun s0 => s0.writesOn Path.concierge ∧ s0.grants (LPH_SLIP ↑3) ∧
      isRxLane ↑3 = true ∧ s0.fld (LPH_STAT_block_lock ↑3) = 1) ∧
    (Holds (lockd.advanceTo 600000000) fun s0 => s0.writesOn Path.concierge ∧ s0.grants (LPH_PRBS ↑3)) ∧
    (Holds (lockd.advanceTo 600000000) fun s0 => s0.writesOn Path.concierge ∧ s0.grants (ENG_SPAN_PEAK ↑1)) ∧
    (Holds (lockd.advanceTo 600000000) fun s0 => s0.writesOn Path.concierge ∧ s0.grants (LPH_PRBS ↑17) ∧
      isRxLane ↑17 = false) ∧
    (Holds (up2.advanceTo 600000000) fun s0 => s0.writesOn Path.concierge ∧ s0.grants (LPH_SLIP ↑3) ∧
      isRxLane ↑3 = true ∧ s0.fld (LPH_STAT_block_lock ↑3) = 0) ∧
    (Holds (state_1.advanceTo 600000000) fun s0 => s0.writesOn Path.concierge ∧ isRxLane ↑3 = true ∧
      s0.fld (LPH_PRBS_mode ↑3) ≠ 0 ∧ 0 < 5) ∧
    (Holds (lockd.advanceTo 600000000) fun s0 => isRxLane ↑3 = true ∧ s0.hopState (laneHop ↑3) ≠ 0) := by
  refine ⟨?_, ?_, ?_, ?_, ?_, ?_, ?_, ?_⟩ <;> decide +kernel

end Hops

namespace Wagons

def wagon (type vc addr flags seq off stream : Nat) (body : Bytes) : Wagon := { bytes := stampWagon (wagonBytes type vc addr flags body.length off stream body) seq false false }
def up2 : State := (({ wb with link := { wb.link with txUp := { wb.link.txUp with rowsAt := 599999990 }, txDn := { wb.link.txDn with rowsAt := 599999990 } } } : State).setFld LNK_STAT_up_state 2).setFld LNK_STAT_dn_state 2
def rxs (f : RxGroup → RxGroup) (s : State) : State := (s.setRx .up (f (s.rx .up))).setRx .dn (f (s.rx .dn))
def rl (n ty : Nat) (seq : Nat) : Wagon := wagon ty 2 0xF1 3 seq 0 0 (List.replicate n 7)
def corrupt (w : Wagon) : Wagon := { w with bytes := w.bytes.set 20 0x55 }
def nullw (w : Wagon) : Wagon := { bytes := stampWagon (w.bytes.take (w.bytes.length - 4)) (leAt w.bytes 4 2) false true }
def r5 : State := rxs (fun r => { r with expected := 5, limits := #v[2000, 2000, 2000] }) up2
def r5v : State := rxs (fun r => { r with expected := 5, limits := #v[2000, 2000, 2000], violations := List.replicate 31 599999000 }) up2
def comp (seq : Nat) : Wagon := wagon 0x44 2 0xF1 3 seq 0 0 (zeros 32)
def mis : Wagon := { rl 20 0x43 5 with between := [markerRow true, (markerRow true).set 3 (laneBlock true [0x1E])] }
def sc (ty vc addr fl stream off : Nat) (b : Bytes) : Wagon := wagon ty vc addr fl 5 off stream b
def r6 : State := r5.setFld CFG_STRAPS_tile_id 1
def legb (f : LegHeader → LegHeader) : Bytes := legHeaderBytes (hd f) ++ blk1
def flipb (o ser : Nat) : Bytes := toLe 1 o ++ [0] ++ toLe 2 2 ++ toLe 4 ser ++ toLe 4 0x100 ++ toLe 4 3 ++ toLe 4 0x101 ++ toLe 4 4
def ovb (ser : Nat) : Bytes := toLe 2 0xB175 ++ [1, 1, 2, 0] ++ toLe 2 1 ++ toLe 4 ser ++ zeros 4 ++ zeros 48
def stk (ix off n : Nat) : Bytes := toLe 2 ix ++ [0,0] ++ toLe 4 off ++ List.replicate n 0x33
def fullS : State := { r6 with rooms := { r6.rooms with legTags := (List.range 8).map fun k => (k, (1, 100)), fills := [] } }
def chains4 (s : State) : State := { s with itin := { s.itin with caravan := some { upUsed := true, dnUsed := true, chain := [1, 6, 9] } } }
def W (ty vc fl stream : Nat) (b : Bytes) : Wagon := sc ty vc 1 fl stream 0 b
def r6n : State := { r6 with engines := [], porter := { r6.porter with qa := [] } }
def fulln : State := { fullS with engines := [], porter := { fullS.porter with qa := [] } }
def wagon_1 : Wagon := rl 20 0x43 5
def wagon_2 : Wagon := rl 20 0x43 6
def wagon_3 : Wagon := rl 20 0x43 4
def wagon_4 : Wagon := corrupt (rl 20 0x43 5)
def wagon_5 : Wagon := nullw (rl 20 0x43 5)
def wagon_6 : Wagon := comp 5
def wagon_7 : Wagon := W 0x20 1 3 3 (legb fun h => {h with serial := 8})
def wagon_8 : Wagon := W 0x21 1 3 1 (flipb 1 8)
def wagon_9 : Wagon := W 0x21 1 3 1 (flipb 1 7)
def wagon_10 : Wagon := W 0x22 1 3 1 (ovb 7)
def wagon_11 : Wagon := W 0x60 3 3 0 (stk 0 64 128)
def wagon_12 : Wagon := sc 0x20 1 6 3 3 0 (legb id)

theorem witness_WagonReceipt :
    (Holds (r5.advanceTo 600000000) fun s0 => s0.hopState Hop.dn = 2 ∧ headerOk mis.bytes = true ∧
      64 ≤ (parseWagon mis.bytes).type ∧ (parseWagon mis.bytes).type ≤ 70 ∧ (parseWagon mis.bytes).vc = 2 ∧
      ((List.find? misaligned mis.between).isSome) = true ∧
      List.length ((List.find? misaligned mis.between).getD default) = 8) ∧
    (Holds (r5.advanceTo 600000000) fun s0 => s0.hopState Hop.dn = 2 ∧ headerOk wagon_1.bytes = true ∧
      64 ≤ (parseWagon wagon_1.bytes).type ∧ (parseWagon wagon_1.bytes).type ≤ 70 ∧
      (parseWagon wagon_1.bytes).vc = 2 ∧ wagonCheck Hop.dn wagon_1 = 0 ∧
      typeVc Hop.dn (parseWagon wagon_1.bytes).type = some 2 ∧ (parseWagon wagon_1.bytes).length ≤ 9216 ∧
      (parseWagon wagon_1.bytes).seq = (s0.rx Hop.dn).expected ∧
      atOrPast ((s0.newLimits Hop.dn).get (Fin.ofNat 3 (2 - 1))) ((s0.rx Hop.dn).received.get (Fin.ofNat 3 (2 - 1)) + BitVec.ofNat 32 (wagonCharge (parseWagon wagon_1.bytes).length)) = true) ∧
    (Holds (r5.advanceTo 600000000) fun s0 => s0.hopState Hop.dn = 2 ∧ headerOk wagon_2.bytes = true ∧
      64 ≤ (parseWagon wagon_2.bytes).type ∧ (parseWagon wagon_2.bytes).type ≤ 70 ∧
      (parseWagon wagon_2.bytes).vc = 2 ∧ wagonCheck Hop.dn wagon_2 = 0 ∧
      (parseWagon wagon_2.bytes).seq ≠ (s0.rx Hop.dn).expected ∧
      seqBefore (parseWagon wagon_2.bytes).seq (s0.rx Hop.dn).expected = false ∧ (s0.rx Hop.dn).waiting = false ∧
      (List.filter (fun e => decide (s0.now < e + edgesMs 1)) (s0.rx Hop.dn).violations).length < 31) ∧
    (Holds (r5.advanceTo 600000000) fun s0 => s0.hopState Hop.dn = 2 ∧ headerOk wagon_3.bytes = true ∧
      64 ≤ (parseWagon wagon_3.bytes).type ∧ (parseWagon wagon_3.bytes).type ≤ 70 ∧
      (parseWagon wagon_3.bytes).vc = 2 ∧ wagonCheck Hop.dn wagon_3 = 0 ∧
      (parseWagon wagon_3.bytes).seq ≠ (s0.rx Hop.dn).expected ∧
      (seqBefore (parseWagon wagon_3.bytes).seq (s0.rx Hop.dn).expected = true ∨ (s0.rx Hop.dn).waiting = true)) ∧
    (Holds (r5.advanceTo 600000000) fun s0 => s0.hopState Hop.dn = 2 ∧ headerOk wagon_4.bytes = true ∧
      64 ≤ (parseWagon wagon_4.bytes).type ∧ (parseWagon wagon_4.bytes).type ≤ 70 ∧
      (parseWagon wagon_4.bytes).vc = 2 ∧ wagonCheck Hop.dn wagon_4 = 2 ∧
      List.find? misaligned wagon_4.between = none ∧
      ((s0.rx Hop.dn).waiting = false ∨ (parseWagon wagon_4.bytes).seq = (s0.rx Hop.dn).expected) ∧
      (List.filter (fun e => decide (s0.now < e + edgesMs 1)) (s0.rx Hop.dn).violations).length < 31) ∧
    (Holds (r5.advanceTo 600000000) fun s0 => s0.hopState Hop.dn = 2 ∧ headerOk wagon_5.bytes = true ∧
      64 ≤ (parseWagon wagon_5.bytes).type ∧ (parseWagon wagon_5.bytes).type ≤ 70 ∧
      (parseWagon wagon_5.bytes).vc = 2 ∧ wagonCheck Hop.dn wagon_5 = 1) ∧
    (Holds (r5.advanceTo 600000000) fun s0 => s0.hopState Hop.up = 2 ∧ wagonCheck Hop.up wagon_6 = 0 ∧
      (parseWagon wagon_6.bytes).vc = 2 ∧ typeVc Hop.up (parseWagon wagon_6.bytes).type = some 2 ∧
      (parseWagon wagon_6.bytes).length ≤ 9216 ∧ (parseWagon wagon_6.bytes).seq = (s0.rx Hop.up).expected ∧
      atOrPast ((s0.newLimits Hop.up).get (Fin.ofNat 3 (2 - 1))) ((s0.rx Hop.up).received.get (Fin.ofNat 3 (2 - 1)) + BitVec.ofNat 32 (wagonCharge (parseWagon wagon_6.bytes).length)) = true ∧
      (parseWagon wagon_6.bytes).type = 68) ∧
    (Holds (r5v.advanceTo 600000000) fun s0 => s0.hopState Hop.dn = 2 ∧ headerOk wagon_4.bytes = true ∧
      64 ≤ (parseWagon wagon_4.bytes).type ∧ (parseWagon wagon_4.bytes).type ≤ 70 ∧
      (parseWagon wagon_4.bytes).vc = 2 ∧ wagonCheck Hop.dn wagon_4 = 2 ∧
      List.find? misaligned wagon_4.between = none ∧
      ((s0.rx Hop.dn).waiting = false ∨ (parseWagon wagon_4.bytes).seq = (s0.rx Hop.dn).expected) ∧
      31 ≤ (List.filter (fun e => decide (s0.now < e + edgesMs 1)) (s0.rx Hop.dn).violations).length) := by
  refine ⟨?_, ?_, ?_, ?_, ?_, ?_, ?_, ?_⟩ <;> decide +kernel

set_option maxRecDepth 100000 in
theorem witness_SceneWagons :
    (Holds (r6n.advanceTo 500000001) fun s0 => Holds (s0.linkReceive Hop.up wagon_7).fst fun s1 => Holds ((s0.linkReceive Hop.up wagon_7).snd.getD noRx) fun x => ((s0.linkReceive Hop.up wagon_7).snd.isSome) = true ∧
      s0.hopState Hop.up = 2 ∧ s1.noStore = false ∧ s1.oldestHeld x.hdr.vc = none ∧ s1.route_ x.hdr = (true, false) ∧
      s1.classADemand = false ∧ s1.dram.bad = [] ∧ (s1.phys? spLEG 0).isSome = true ∧
      carries Hop.up [32] wagon_7 = true ∧ x.hdr.type = 32 ∧ (List.find? (sameItem x.hdr) s1.link.rxUp.opens = none ∧
      wFirst x.hdr = true ∧ wLast x.hdr = true ∧ x.hdr.offset = 0) ∧ 64 ≤ List.length x.body ∧
      (parseLegHeader x.body).chain < s1.fld CDC_CFG_chains ∧
      s1.decidedBy (Fin.ofNat 4 (parseLegHeader x.body).output) (parseLegHeader x.body).serial = false ∧
      64 + (parseLegHeader x.body).compressed ≤ s1.poolBytes ∧
      ((s1.nextPlace (Fin.ofNat 4 (parseLegHeader x.body).output) (parseLegHeader x.body).serial).isSome) = true ∧
      (fun (y : LegItem) n => (newRooms y n).all (s1.mayFill y)) ((fun (kind : Nat) (o : Output) (serial : Word) (stream size off : Nat) => { kind := kind, out := o, serial := serial, stream := stream, offset := off, got := 0, complete := true, order := s1.rooms.arrivals, size := size }) 0 (Fin.ofNat 4 (parseLegHeader x.body).output) (parseLegHeader x.body).serial (parseLegHeader x.body).chain (poolSize (64 + (parseLegHeader x.body).compressed)) ((s1.nextPlace (Fin.ofNat 4 (parseLegHeader x.body).output) (parseLegHeader x.body).serial).getD default)) (List.take (64 + (parseLegHeader x.body).compressed) x.body).length = true) ∧
    (Holds (r6n.advanceTo 500000001) fun s0 => Holds (s0.linkReceive Hop.up wagon_8).fst fun s1 => Holds ((s0.linkReceive Hop.up wagon_8).snd.getD noRx) fun x => ((s0.linkReceive Hop.up wagon_8).snd.isSome) = true ∧
      s0.hopState Hop.up = 2 ∧ s1.noStore = false ∧ s1.oldestHeld x.hdr.vc = none ∧ s1.route_ x.hdr = (true, false) ∧
      s1.classADemand = false ∧ s1.dram.bad = [] ∧ (s1.phys? spLEG 0).isSome = true ∧
      carries Hop.up [33] wagon_8 = true ∧ x.hdr.type = 33 ∧ (List.find? (sameItem x.hdr) s1.link.rxUp.opens = none ∧
      wFirst x.hdr = true ∧ wLast x.hdr = true ∧ x.hdr.offset = 0) ∧ flipOk x.body = true ∧
      ((s1.nextPlace (Fin.ofNat 4 (leAt x.body 0 1)) (BitVec.ofNat 32 (leAt x.body 4 4))).isSome) = true ∧
      s1.flipSeen (Fin.ofNat 4 (leAt x.body 0 1)) (BitVec.ofNat 32 (leAt x.body 4 4)) = false ∧
      s1.decidedBy (Fin.ofNat 4 (leAt x.body 0 1)) (BitVec.ofNat 32 (leAt x.body 4 4)) = false ∧
      List.length x.body ≤ s1.poolBytes ∧
      (fun (y : LegItem) n => (newRooms y n).all (s1.mayFill y)) ((fun (kind : Nat) (o : Output) (serial : Word) (stream size off : Nat) => { kind := kind, out := o, serial := serial, stream := stream, offset := off, got := 0, complete := true, order := s1.rooms.arrivals, size := size }) 2 (Fin.ofNat 4 (leAt x.body 0 1)) (BitVec.ofNat 32 (leAt x.body 4 4)) x.hdr.stream (poolSize (List.length x.body)) ((s1.nextPlace (Fin.ofNat 4 (leAt x.body 0 1)) (BitVec.ofNat 32 (leAt x.body 4 4))).getD default)) (List.length x.body) = true) ∧
    (Holds (r6n.advanceTo 500000001) fun s0 => Holds (s0.linkReceive Hop.up wagon_9).fst fun s1 => Holds ((s0.linkReceive Hop.up wagon_9).snd.getD noRx) fun x => ((s0.linkReceive Hop.up wagon_9).snd.isSome) = true ∧
      s0.hopState Hop.up = 2 ∧ s1.noStore = false ∧ s1.oldestHeld x.hdr.vc = none ∧ s1.route_ x.hdr = (true, false) ∧
      s1.classADemand = false ∧ s1.dram.bad = [] ∧ (s1.phys? spLEG 0).isSome = true ∧
      carries Hop.up [33] wagon_9 = true ∧ x.hdr.type = 33 ∧ (List.find? (sameItem x.hdr) s1.link.rxUp.opens = none ∧
      wFirst x.hdr = true ∧ wLast x.hdr = true ∧ x.hdr.offset = 0) ∧ flipOk x.body = true ∧
      s1.flipSeen (Fin.ofNat 4 (leAt x.body 0 1)) (BitVec.ofNat 32 (leAt x.body 4 4)) = true) ∧
    (Holds (r6n.advanceTo 500000001) fun s0 => Holds (s0.linkReceive Hop.up wagon_10).fst fun s1 => Holds ((s0.linkReceive Hop.up wagon_10).snd.getD noRx) fun x => ((s0.linkReceive Hop.up wagon_10).snd.isSome) = true ∧
      s0.hopState Hop.up = 2 ∧ s1.noStore = false ∧ s1.oldestHeld x.hdr.vc = none ∧ s1.route_ x.hdr = (true, false) ∧
      s1.classADemand = false ∧ s1.dram.bad = [] ∧ (s1.phys? spLEG 0).isSome = true ∧
      carries Hop.up [34] wagon_10 = true ∧ x.hdr.type = 34 ∧
      (List.find? (sameItem x.hdr) s1.link.rxUp.opens = none ∧ wFirst x.hdr = true ∧ wLast x.hdr = true ∧
      x.hdr.offset = 0) ∧ 16 ≤ List.length x.body ∧
      s1.decidedBy (Fin.ofNat 4 x.hdr.stream) (BitVec.ofNat 32 (leAt x.body 8 4)) = false ∧
      List.length x.body ≤ s1.poolBytes ∧
      ((s1.nextPlace (Fin.ofNat 4 x.hdr.stream) (BitVec.ofNat 32 (leAt x.body 8 4))).isSome) = true ∧
      (fun (y : LegItem) n => (newRooms y n).all (s1.mayFill y)) ((fun (kind : Nat) (o : Output) (serial : Word) (stream size off : Nat) => { kind := kind, out := o, serial := serial, stream := stream, offset := off, got := 0, complete := true, order := s1.rooms.arrivals, size := size }) 1 (Fin.ofNat 4 x.hdr.stream) (BitVec.ofNat 32 (leAt x.body 8 4)) x.hdr.stream 0 ((s1.nextPlace (Fin.ofNat 4 x.hdr.stream) (BitVec.ofNat 32 (leAt x.body 8 4))).getD default)) (List.length x.body) = true) ∧
    (Holds (r6n.advanceTo 500000001) fun s0 => Holds (s0.linkReceive Hop.up wagon_11).fst fun s1 => Holds ((s0.linkReceive Hop.up wagon_11).snd.getD noRx) fun x => ((s0.linkReceive Hop.up wagon_11).snd.isSome) = true ∧
      s0.hopState Hop.up = 2 ∧ s1.noStore = false ∧ s1.oldestHeld x.hdr.vc = none ∧ s1.route_ x.hdr = (true, false) ∧
      s1.classADemand = false ∧ s1.dram.bad = [] ∧ carries Hop.up [96] wagon_11 = true ∧ x.hdr.type = 96 ∧
      leAt x.body 4 4 % 64 = 0 ∧ (List.drop 8 x.body).length % 64 = 0 ∧ 64 ≤ (List.drop 8 x.body).length ∧
      (List.drop 8 x.body).length ≤ 9152 ∧ leAt x.body 4 4 + (List.drop 8 x.body).length ≤ 1048576 ∧
      s1.stockDeclared ≤ leAt x.body 0 2) ∧
    (Holds (fulln.advanceTo 500000001) fun s0 => Holds (s0.linkReceive Hop.up wagon_7).fst fun s1 => Holds ((s0.linkReceive Hop.up wagon_7).snd.getD noRx) fun x => ((s0.linkReceive Hop.up wagon_7).snd.isSome) = true ∧
      s0.hopState Hop.up = 2 ∧ s1.noStore = false ∧ s1.oldestHeld x.hdr.vc = none ∧ s1.route_ x.hdr = (true, false) ∧
      s1.classADemand = false ∧ s1.dram.bad = [] ∧ (s1.phys? spLEG 0).isSome = true ∧
      carries Hop.up [32] wagon_7 = true ∧ x.hdr.type = 32 ∧ (List.find? (sameItem x.hdr) s1.link.rxUp.opens = none ∧
      wFirst x.hdr = true ∧ wLast x.hdr = true ∧ x.hdr.offset = 0) ∧ 64 ≤ List.length x.body ∧
      (parseLegHeader x.body).chain < s1.fld CDC_CFG_chains ∧
      s1.decidedBy (Fin.ofNat 4 (parseLegHeader x.body).output) (parseLegHeader x.body).serial = false ∧
      64 + (parseLegHeader x.body).compressed ≤ s1.poolBytes ∧
      (s1.nextPlace (Fin.ofNat 4 (parseLegHeader x.body).output) (parseLegHeader x.body).serial = none ∨ ∃ (off : Nat), s1.nextPlace (Fin.ofNat 4 (parseLegHeader x.body).output) (parseLegHeader x.body).serial = some off ∧
      (fun (y : LegItem) n => (newRooms y n).all (s1.mayFill y)) ((fun (kind : Nat) (o : Output) (serial : Word) (stream size off : Nat) => { kind := kind, out := o, serial := serial, stream := stream, offset := off, got := 0, complete := true, order := s1.rooms.arrivals, size := size }) 0 (Fin.ofNat 4 (parseLegHeader x.body).output) (parseLegHeader x.body).serial (parseLegHeader x.body).chain (poolSize (64 + (parseLegHeader x.body).compressed)) off) (List.take (64 + (parseLegHeader x.body).compressed) x.body).length = false) ∧
      s1.rooms.stallRaised = false) ∧
    (Holds (r6.advanceTo 600000000) fun s0 => ((s0.linkReceive Hop.up wagon_12).snd.isSome) = true ∧
      s0.hopState Hop.up = 2 ∧
      ((Instr.legWagon 600000000 wagon_12, 1, 32).fst, (Instr.legWagon 600000000 wagon_12, 1, 32).snd.fst, ((s0.linkReceive Hop.up wagon_12).snd.getD noRx).hdr.type) ∈ [(Instr.legWagon 600000000 wagon_12, 1, 32), (Instr.flipWagon 600000000 wagon_12, 1, 33), (Instr.overlayWagon 600000000 wagon_12, 1, 34), (Instr.stockWagon 600000000 wagon_12, 3, 96)] ∧
      carries Hop.up [((s0.linkReceive Hop.up wagon_12).snd.getD noRx).hdr.type] wagon_12 = true ∧
      (s0.linkReceive Hop.up wagon_12).fst.route_ ((s0.linkReceive Hop.up wagon_12).snd.getD noRx).hdr = (false, false)) ∧
    (Holds ((chains4 r6).advanceTo 600000000) fun s0 => Holds (s0.linkReceive Hop.up wagon_12).fst fun s1 => Holds ((s0.linkReceive Hop.up wagon_12).snd.getD noRx) fun x => ((s0.linkReceive Hop.up wagon_12).snd.isSome) = true ∧
      s0.hopState Hop.up = 2 ∧
      ((Instr.legWagon 600000000 wagon_12, 1, 32).fst, (Instr.legWagon 600000000 wagon_12, 1, 32).snd.fst, x.hdr.type) ∈ [(Instr.legWagon 600000000 wagon_12, 1, 32), (Instr.flipWagon 600000000 wagon_12, 1, 33), (Instr.overlayWagon 600000000 wagon_12, 1, 34), (Instr.stockWagon 600000000 wagon_12, 3, 96)] ∧
      carries Hop.up [x.hdr.type] wagon_12 = true ∧ s1.route_ x.hdr = (false, true) ∧ s1.hopState Hop.dn = 2) := by
  refine ⟨?_, ?_, ?_, ?_, ?_, ?_, ?_, ?_⟩ <;> decide +kernel

end Wagons

namespace LinkClock

def wagon (type vc addr flags seq off stream : Nat) (body : Bytes) : Wagon := { bytes := stampWagon (wagonBytes type vc addr flags body.length off stream body) seq false false }
def up2 : State := (({ wb with link := { wb.link with txUp := { wb.link.txUp with rowsAt := 599999990 }, txDn := { wb.link.txDn with rowsAt := 599999990 } } } : State).setFld LNK_STAT_up_state 2).setFld LNK_STAT_dn_state 2
def rxs (f : RxGroup → RxGroup) (s : State) : State := (s.setRx .up (f (s.rx .up))).setRx .dn (f (s.rx .dn))
def r5 : State := rxs (fun r => { r with expected := 5, limits := #v[2000, 2000, 2000] }) up2
def sv (f : Servo → Servo) (s : State) : State := { s with servo := f s.servo }
def ts (n : Nat) (s : State) := s.setFld TIM_STAT_state n
def xt (s : State) : State := (s.setFld TIM_STAT_xtal 1).setFld LNK_STAT_refclk_ok 0
def pdr (s : State) (seq : Nat) (corr : Nat) : Wagon := wagon 0x0A 0 0xF0 3 0 0 0 (s.beacon 3 corr (zeros 8 ++ [0, 2]) seq 5 0x7F (zeros 10 ++ s.portIdentity .up))
def pdq (s : State) : Wagon := wagon 0x09 0 0xF1 3 0 0 0 (s.beacon 2 0 (zeros 8 ++ [0, 1]) 33 5 (logByte s.itin.time.logPdelay) (zeros 20))
def o2 (m : Nat) : State := sv (fun v => {v with outstanding := some (65536 * 1000, 500000000), reqSeq := 9, samples := [1000 * 1024], misses := m}) r5
def syncb (s : State) (id ns : Nat) (corr : Nat) (log : Nat) : Bytes := s.beacon 0 corr (toBe 8 id ++ [0, 1]) 77 0 log (toBe 6 1 ++ toBe 4 ns)
def sync (s : State) (id ns : Nat) (corr : Nat) (log : Nat) : Wagon := wagon 0x08 0 0xFF 3 0 0 0 (syncb s id ns corr log)
def state_1 : State := {xt up2 with clock := {up2.clock with ratio := 4294967296 + 400000}}
def state_2 : State := sv (fun v => {v with lastSync := some 500000000, upAt := some 500000000}) (ts 2 up2)
def state_3 : State := sv (fun v => {v with lastSync := some 500000000, upAt := some 500000000}) (ts 1 up2)
def wagon_1 : Wagon := pdr (o2 0) 9 65536
def wagon_2 : Wagon := pdq r5
def wagon_3 : Wagon := sync r5 0xABCD 20000 100 0xF9

theorem witness_ClockSource :
    (Holds (up2.advanceTo 600000000) fun s0 => s0.onXtal = 0) ∧
    (Holds (state_1.advanceTo 600000000) fun s0 => s0.onXtal = 1) ∧
    (Holds (state_2.advanceTo 600000000) fun s0 => s0.servo.lastSync = some 500000000 ∧
      (s0.fld TIM_STAT_state = 1 ∨ s0.fld TIM_STAT_state = 2) ∧
      s0.elapsed 500000000 (logEdges 4 s0.itin.time.logSync) = true) ∧
    (Holds (state_3.advanceTo 600000000) fun s0 => s0.servo.upAt = some 500000000 ∧ s0.servo.waitOver = false ∧
      s0.fld TIM_STAT_state ≠ 2 ∧ s0.elapsed 500000000 (edgesMs s0.itin.time.lockWaitMs) = true) := by
  refine ⟨?_, ?_, ?_, ?_⟩ <;> decide +kernel

theorem witness_LinkTime :
    (Holds (r5.advanceTo 600000000) fun s0 => s0.hopState Hop.up = 2 ∧ s0.servo.outstanding = none ∧
      Option.any (fun e => !s0.elapsed e (logEdges 1 s0.itin.time.logPdelay)) s0.servo.lastReq = false) ∧
    (Holds (r5.advanceTo 600000000) fun s0 => ((s0.linkReceive Hop.up wagon_1).snd.isSome) = true ∧
      s0.hopState Hop.up = 2 ∧ Hop.up = Hop.up ∧ ((s0.linkReceive Hop.up wagon_1).snd.getD noRx).hdr.type = 10 ∧
      carries Hop.up [10] wagon_1 = true ∧
      (∀ (y : Nat × Nat), y ∈ s0.servo.outstanding → s0.now ≤ y.snd + edgesMs 1) ∧
      (s0.linkReceive Hop.up wagon_1).fst.pdelayRespOk ((s0.linkReceive Hop.up wagon_1).snd.getD noRx).body = false) ∧
    (Holds (r5.advanceTo 600000000) fun s0 => ((s0.linkReceive Hop.dn wagon_2).snd.isSome) = true ∧
      s0.hopState Hop.dn = 2 ∧ Hop.dn = Hop.dn ∧ ((s0.linkReceive Hop.dn wagon_2).snd.getD noRx).hdr.type = 9 ∧
      carries Hop.dn [9] wagon_2 = true ∧
      (s0.linkReceive Hop.dn wagon_2).fst.pdelayReqOk ((s0.linkReceive Hop.dn wagon_2).snd.getD noRx).body = true) ∧
    (Holds ((o2 0).advanceTo 600000000) fun s0 => s0.servo.outstanding = some ((1000*65536), 500000000) ∧
      s0.elapsed 500000000 (edgesMs 1) = true) ∧
    (Holds ((o2 0).advanceTo 600000000) fun s0 => s0.servo.outstanding = some ((1000*65536), 500000000) ∧
      500000000 + edgesMs 1 < s0.now) ∧
    (Holds (r5.advanceTo 600000000) fun s0 => ((s0.linkReceive Hop.up wagon_3).snd.isSome) = true ∧
      s0.hopState Hop.up = 2 ∧ carries Hop.up [8] wagon_3 = true ∧
      ((s0.linkReceive Hop.up wagon_3).snd.getD noRx).hdr.type = 8 ∧
      (s0.linkReceive Hop.up wagon_3).fst.syncOk ((s0.linkReceive Hop.up wagon_3).snd.getD noRx).body = true) := by
  refine ⟨?_, ?_, ?_, ?_, ?_, ?_⟩ <;> decide +kernel

end LinkClock

namespace WallFrameStates

def up2 : State := (({ wb with link := { wb.link with txUp := { wb.link.txUp with rowsAt := 599999990 }, txDn := { wb.link.txDn with rowsAt := 599999990 } } } : State).setFld LNK_STAT_up_state 2).setFld LNK_STAT_dn_state 2
def hst : RosterEntry := { node := 3, tracker := false, host := true, tile := false, limit := 1538, mac := 0x020000000003 }
def trk : RosterEntry := { node := 4, tracker := true, host := false, tile := false, limit := 300, mac := 0x020000000004 }
def own : RosterEntry := { node := 9, tracker := false, host := false, tile := true, limit := 1000, mac := 0x020000000009 }
def key0 : Bytes := (List.range 32).map fun i => BitVec.ofNat 8 (i * 3)
def wrec : WallRec := { mac := 0x020000000009, plca := true, nodeId := 9, nodeCount := 10, roster := [hst, trk, own], key := key0 }
def ws : State := ({ up2 with itin := { up2.itin with wall := some wrec }, wall := { up2.wall with up := true, plca := true, mac := 0x020000000009 } }).setFld WBS_STAT_plca_ok 1
def pay (type node dst flags seq : Nat) (body : Bytes) : Bytes := let p := toLe 1 1 ++ toLe 1 type ++ toLe 1 node ++ toLe 1 dst ++ toLe 1 flags ++ [0] ++ toLe 2 seq ++ toLe 2 body.length ++ [0,0] ++ body; p ++ zeros (46 - p.length)
def fr (src : BitVec 48) (p : Bytes) : Frame := { dst := broadcastMac, src, etype := 0x88B5, payload := p, wire := wireBytes p.length }
def sgn (type node : Nat) (b : Bytes) (ctr ns : Nat) : Bytes :=
  let m := b ++ toLe 8 ctr ++ toLe 8 ns
  let h := toLe 1 1 ++ toLe 1 type ++ toLe 1 node ++ toLe 1 0xFF ++ [0,0] ++ toLe 2 55 ++ toLe 2 (m.length + 16) ++ [0,0] ++ m
  m ++ (hmacSha256 key0 h).take 16
def comd (code out arg : Nat) : Bytes := toLe 1 code ++ toLe 1 out ++ [0,0] ++ toLe 4 arg
def cmdf (code out arg : Nat) (ns : Nat := 1200000000) : Frame := fr 0x020000000003 (pay 7 3 0xFF 0 55 (sgn 7 3 (comd code out arg) 9 ns))
def trb (ns n : Nat) : Bytes := toLe 8 ns ++ toLe 1 n ++ [0,0,0] ++ (List.range (2 * n)).flatMap fun i => toLe 2 (i * 100) ++ toLe 2 0xFFFF ++ toLe 2 700 ++ toLe 1 (i % 3) ++ toLe 1 1
def trf (ns n : Nat) : Frame := fr 0x020000000004 (pay 1 4 0xFF 0 66 (trb ns n))
def lgf (first count : Nat) : Frame := fr 0x020000000003 (pay 3 3 0xFF 0 67 (toLe 4 first ++ toLe 2 count ++ [0,0]))
def stranger : Frame := fr 0x020000000077 (pay 5 3 0xFF 0 68 (zeros 8))
def badf : Frame := { lgf 1 1 with fcsOk := false }
def viol64 : State := { ws with wall := { ws.wall with nodes := [(3, { violations := List.replicate 64 599999999, complaints := [(9, (2, some 500000000))] }), (4, { counter := some 9, quarantine := some 700000000 })] } }
def frame_1 : Frame := trf 1200000000 2
def frame_2 : Frame := cmdf 1 0 0
def frame_3 : Frame := cmdf 1 0 0 5
def frame_4 : Frame := {lgf 0 3 with dst := 5}

theorem witness_WallFrames :
    (Holds (ws.advanceTo 600000000) fun s0 => s0.wall.up = true ∧ s0.pd 44 = 2 ∧ s0.breaksBound stranger = false ∧
      (stranger.fcsOk = true ∧ 84 ≤ stranger.wire ∧ stranger.wire ≤ 1538) ∧
      ((stranger.dst = s0.wall.mac ∨ stranger.dst = broadcastMac) ∧ stranger.etype = s0.wall.etype) ∧
      (¬(s0.roster = [] ∨ ∃ (e : RosterEntry), e ∈ s0.roster ∧ e.mac = stranger.src))) ∧
    (Holds (ws.advanceTo 600000000) fun s0 => s0.wall.up = true ∧ s0.pd 44 = 2 ∧ s0.breaksBound frame_1 = false ∧
      ((1, Instr.track 600000000 frame_1).fst, (1, Instr.track 600000000 frame_1).snd) ∈ [(1, Instr.track 600000000 frame_1), (3, Instr.logreq 600000000 frame_1), (5, Instr.regread 600000000 frame_1), (113, Instr.restart 600000000 frame_1), (114, Instr.selectPlayback 600000000 frame_1), (115, Instr.brightnessScale 600000000 frame_1)] ∧
      frameKind frame_1 = (1, Instr.track 600000000 frame_1).fst ∧ (frame_1.fcsOk = true ∧ 84 ≤ frame_1.wire ∧
      frame_1.wire ≤ 1538) ∧ ((frame_1.dst = s0.wall.mac ∨ frame_1.dst = broadcastMac) ∧
      frame_1.etype = s0.wall.etype) ∧ (s0.roster = [] ∨ ∃ (e : RosterEntry), e ∈ s0.roster ∧ e.mac = frame_1.src) ∧
      (s0.inQuarantine (s0.senderKey frame_1) = false ∧
      (leAt frame_1.payload 3 1 = s0.tileId ∨ leAt frame_1.payload 3 1 = 255)) ∧ s0.wallCode frame_1 = none ∧
      (1, Instr.track 600000000 frame_1).fst < 6) ∧
    (Holds (ws.advanceTo 600000000) fun s0 => s0.wall.up = true ∧ s0.pd 44 = 2 ∧ s0.breaksBound badf = false ∧
      ((3, Instr.logreq 600000000 badf).fst, (3, Instr.logreq 600000000 badf).snd) ∈ [(1, Instr.track 600000000 badf), (3, Instr.logreq 600000000 badf), (5, Instr.regread 600000000 badf), (113, Instr.restart 600000000 badf), (114, Instr.selectPlayback 600000000 badf), (115, Instr.brightnessScale 600000000 badf)] ∧
      (frameKind badf = (3, Instr.logreq 600000000 badf).fst ∨ frameKind badf = 0) ∧ (¬(badf.fcsOk = true ∧
      84 ≤ badf.wire ∧ badf.wire ≤ 1538))) ∧
    (Holds (ws.advanceTo 600000000) fun s0 => s0.wall.up = true ∧ s0.pd 44 = 2 ∧ s0.breaksBound frame_2 = false ∧
      ((113, Instr.restart 600000000 frame_2).fst, (113, Instr.restart 600000000 frame_2).snd) ∈ [(1, Instr.track 600000000 frame_2), (3, Instr.logreq 600000000 frame_2), (5, Instr.regread 600000000 frame_2), (113, Instr.restart 600000000 frame_2), (114, Instr.selectPlayback 600000000 frame_2), (115, Instr.brightnessScale 600000000 frame_2)] ∧
      frameKind frame_2 = (113, Instr.restart 600000000 frame_2).fst ∧ (frame_2.fcsOk = true ∧ 84 ≤ frame_2.wire ∧
      frame_2.wire ≤ 1538) ∧ ((frame_2.dst = s0.wall.mac ∨ frame_2.dst = broadcastMac) ∧
      frame_2.etype = s0.wall.etype) ∧ (s0.roster = [] ∨ ∃ (e : RosterEntry), e ∈ s0.roster ∧ e.mac = frame_2.src) ∧
      (s0.inQuarantine (s0.senderKey frame_2) = false ∧
      (leAt frame_2.payload 3 1 = s0.tileId ∨ leAt frame_2.payload 3 1 = 255)) ∧ s0.wallCode frame_2 = none ∧
      112 < (113, Instr.restart 600000000 frame_2).fst) ∧
    (Holds (ws.advanceTo 600000000) fun s0 => s0.wall.up = true ∧ s0.pd 44 = 2 ∧ s0.breaksBound frame_3 = false ∧
      ((113, Instr.restart 600000000 frame_3).fst, (113, Instr.restart 600000000 frame_3).snd) ∈ [(1, Instr.track 600000000 frame_3), (3, Instr.logreq 600000000 frame_3), (5, Instr.regread 600000000 frame_3), (113, Instr.restart 600000000 frame_3), (114, Instr.selectPlayback 600000000 frame_3), (115, Instr.brightnessScale 600000000 frame_3)] ∧
      (frameKind frame_3 = (113, Instr.restart 600000000 frame_3).fst ∨ frameKind frame_3 = 0) ∧
      (frame_3.fcsOk = true ∧ 84 ≤ frame_3.wire ∧ frame_3.wire ≤ 1538) ∧
      ((frame_3.dst = s0.wall.mac ∨ frame_3.dst = broadcastMac) ∧ frame_3.etype = s0.wall.etype) ∧
      (s0.roster = [] ∨ ∃ (e : RosterEntry), e ∈ s0.roster ∧ e.mac = frame_3.src) ∧
      (s0.inQuarantine (s0.senderKey frame_3) = false ∧
      (leAt frame_3.payload 3 1 = s0.tileId ∨ leAt frame_3.payload 3 1 = 255)) ∧
      ((s0.wallCode frame_3).isSome) = true) ∧
    (Holds (ws.advanceTo 600000000) fun s0 => s0.wall.up = true ∧ s0.pd 44 = 2 ∧ s0.breaksBound frame_4 = false ∧
      ((1, Instr.track 600000000 frame_4).fst, (1, Instr.track 600000000 frame_4).snd) ∈ [(1, Instr.track 600000000 frame_4), (3, Instr.logreq 600000000 frame_4), (5, Instr.regread 600000000 frame_4), (113, Instr.restart 600000000 frame_4), (114, Instr.selectPlayback 600000000 frame_4), (115, Instr.brightnessScale 600000000 frame_4)] ∧
      (frame_4.fcsOk = true ∧ 84 ≤ frame_4.wire ∧ frame_4.wire ≤ 1538) ∧
      (¬((frame_4.dst = s0.wall.mac ∨ frame_4.dst = broadcastMac) ∧
      frame_4.etype = s0.wall.etype) ∨ (s0.roster = [] ∨ ∃ (e : RosterEntry), e ∈ s0.roster ∧ e.mac = frame_4.src) ∧
      ¬(s0.inQuarantine (s0.senderKey frame_4) = false ∧
      (leAt frame_4.payload 3 1 = s0.tileId ∨ leAt frame_4.payload 3 1 = 255)) ∧
      s0.inQuarantine (s0.senderKey frame_4) = false)) ∧
    (Holds (viol64.advanceTo 600000000) fun s0 => s0.wall.up = true ∧ s0.pd 44 = 2 ∧ s0.breaksBound frame_1 = false ∧
      ((1, Instr.track 600000000 frame_1).fst, (1, Instr.track 600000000 frame_1).snd) ∈ [(1, Instr.track 600000000 frame_1), (3, Instr.logreq 600000000 frame_1), (5, Instr.regread 600000000 frame_1), (113, Instr.restart 600000000 frame_1), (114, Instr.selectPlayback 600000000 frame_1), (115, Instr.brightnessScale 600000000 frame_1)] ∧
      (frameKind frame_1 = (1, Instr.track 600000000 frame_1).fst ∨ frameKind frame_1 = 0) ∧ (frame_1.fcsOk = true ∧
      84 ≤ frame_1.wire ∧ frame_1.wire ≤ 1538) ∧ ((frame_1.dst = s0.wall.mac ∨ frame_1.dst = broadcastMac) ∧
      frame_1.etype = s0.wall.etype) ∧ (s0.roster = [] ∨ ∃ (e : RosterEntry), e ∈ s0.roster ∧ e.mac = frame_1.src) ∧
      s0.inQuarantine (s0.senderKey frame_1) = true) := by
  refine ⟨?_, ?_, ?_, ?_, ?_, ?_, ?_⟩ <;> decide +kernel

end WallFrameStates

namespace WallOrders

def up2 : State := (({ wb with link := { wb.link with txUp := { wb.link.txUp with rowsAt := 599999990 }, txDn := { wb.link.txDn with rowsAt := 599999990 } } } : State).setFld LNK_STAT_up_state 2).setFld LNK_STAT_dn_state 2
def hst : RosterEntry := { node := 3, tracker := false, host := true, tile := false, limit := 1538, mac := 0x020000000003 }
def trk : RosterEntry := { node := 4, tracker := true, host := false, tile := false, limit := 300, mac := 0x020000000004 }
def own : RosterEntry := { node := 9, tracker := false, host := false, tile := true, limit := 1000, mac := 0x020000000009 }
def key0 : Bytes := (List.range 32).map fun i => BitVec.ofNat 8 (i * 3)
def wrec : WallRec := { mac := 0x020000000009, plca := true, nodeId := 9, nodeCount := 10, roster := [hst, trk, own], key := key0 }
def ws : State := ({ up2 with itin := { up2.itin with wall := some wrec }, wall := { up2.wall with up := true, plca := true, mac := 0x020000000009 } }).setFld WBS_STAT_plca_ok 1
def pay (type node dst flags seq : Nat) (body : Bytes) : Bytes := let p := toLe 1 1 ++ toLe 1 type ++ toLe 1 node ++ toLe 1 dst ++ toLe 1 flags ++ [0] ++ toLe 2 seq ++ toLe 2 body.length ++ [0,0] ++ body; p ++ zeros (46 - p.length)
def fr (src : BitVec 48) (p : Bytes) : Frame := { dst := broadcastMac, src, etype := 0x88B5, payload := p, wire := wireBytes p.length }
def sgn (type node : Nat) (b : Bytes) (ctr ns : Nat) : Bytes :=
  let m := b ++ toLe 8 ctr ++ toLe 8 ns
  let h := toLe 1 1 ++ toLe 1 type ++ toLe 1 node ++ toLe 1 0xFF ++ [0,0] ++ toLe 2 55 ++ toLe 2 (m.length + 16) ++ [0,0] ++ m
  m ++ (hmacSha256 key0 h).take 16
def comd (code out arg : Nat) : Bytes := toLe 1 code ++ toLe 1 out ++ [0,0] ++ toLe 4 arg
def cmdf (code out arg : Nat) (ns : Nat := 1200000000) : Frame := fr 0x020000000003 (pay 7 3 0xFF 0 55 (sgn 7 3 (comd code out arg) 9 ns))
def trb (ns n : Nat) : Bytes := toLe 8 ns ++ toLe 1 n ++ [0,0,0] ++ (List.range (2 * n)).flatMap fun i => toLe 2 (i * 100) ++ toLe 2 0xFFFF ++ toLe 2 700 ++ toLe 1 (i % 3) ++ toLe 1 1
def trf (ns n : Nat) : Frame := fr 0x020000000004 (pay 1 4 0xFF 0 66 (trb ns n))
def lgf (first count : Nat) : Frame := fr 0x020000000003 (pay 3 3 0xFF 0 67 (toLe 4 first ++ toLe 2 count ++ [0,0]))
def rgf (a n : Nat) : Frame := fr 0x020000000003 (pay 5 3 0xFF 0 68 (toLe 4 a ++ toLe 1 n ++ [0,0,0]))
def T6 : Nat := 600000000
def cold (s : State) : State := sets s ((List.range 4).map fun o => (SCN_OUT_STAT_state o, 0))
def logs (s : State) : State := { (s.setReg GBK_HEAD 9000) with wall := { s.wall with logs := [⟨7, 5, 100, 900, false⟩, ⟨0x020000000003, 5, 8990, 10, false⟩] } }
def frame_1 : Frame := trf 1200000000 2
def frame_2 : Frame := trf 1201500000 2
def frame_3 : Frame := lgf 0 3
def frame_4 : Frame := lgf 0 0
def frame_5 : Frame := rgf 0x1000 0
def frame_6 : Frame := cmdf 1 0 0
def frame_7 : Frame := cmdf 1 1 0
def frame_8 : Frame := cmdf 2 1 0xFF
def frame_9 : Frame := cmdf 2 4 0xFF
def frame_10 : Frame := cmdf 3 1 700
def frame_11 : Frame := cmdf 3 4 0

theorem witness_WallRequests :
    (Holds (ws.advanceTo T6) fun s0 => Holds (s0.wallReceive frame_1).1 fun s1 => Holds ((s0.wallReceive frame_1).2.getD ⟨0, [], frame_1⟩) fun m => Delivers 1 frame_1 s0 s1 m ∧
      leAt m.body 8 1 ≤ 8 ∧ leAt m.body 0 8 ≤ s1.timeNs + 1000000 ∧ s1.inHarbour = false) ∧
    (Holds (ws.advanceTo T6) fun s0 => Holds (s0.wallReceive frame_2).1 fun s1 => Holds ((s0.wallReceive frame_2).2.getD ⟨0, [], frame_2⟩) fun m => Delivers 1 frame_2 s0 s1 m ∧
      (8 < leAt m.body 8 1 ∨ s1.timeNs + 1000000 < leAt m.body 0 8)) ∧
    (Holds (ws.advanceTo T6) fun s0 => Holds (s0.wallReceive frame_3).1 fun s1 => Holds ((s0.wallReceive frame_3).2.getD ⟨0, [], frame_3⟩) fun m => Delivers 3 frame_3 s0 s1 m ∧
      1 ≤ leAt m.body 4 2 ∧ leAt m.body 4 2 ≤ 8192) ∧
    (Holds (ws.advanceTo T6) fun s0 => Holds (s0.wallReceive frame_4).1 fun s1 => Holds ((s0.wallReceive frame_4).2.getD ⟨0, [], frame_4⟩) fun m => Delivers 3 frame_4 s0 s1 m ∧
      (leAt m.body 4 2 = 0 ∨ 8192 < leAt m.body 4 2)) ∧
    (Holds (ws.advanceTo T6) fun s0 => Holds (s0.wallReceive frame_5).1 fun s1 => Holds ((s0.wallReceive frame_5).2.getD ⟨0, [], frame_5⟩) fun m => Delivers 5 frame_5 s0 s1 m ∧
      (leAt m.body 4 1 = 0 ∨ 32 < leAt m.body 4 1)) ∧
    (Holds ((logs ws).advanceTo T6) fun s0 => s0.wall.up = true ∧ s0.pd 44 = 2 ∧ (!s0.wall.logs.isEmpty) = true ∧
      s0.wall.txPush = [] ∧ s0.wall.txComplaint = [] ∧ s0.wall.txReply = [] ∧ s0.wall.txStatus = []) := by
  refine ⟨delivers ?_, delivers ?_, delivers ?_, delivers ?_, delivers ?_, ?_⟩ <;> decide +kernel

theorem witness_WallCommands :
    (Holds (ws.advanceTo T6) fun s0 => Holds (s0.wallReceive frame_6).1 fun s1 => Holds ((s0.wallReceive frame_6).2.getD ⟨0, [], frame_6⟩) fun m => Delivers 113 frame_6 s0 s1 m ∧
      orderOut m = 0 ∧ orderArg m = 0 ∧ s1.therm.steps = [] ∧ (∃ (o : Output), s1.panelState o ≠ 0)) ∧
    (Holds (ws.advanceTo T6) fun s0 => Holds (s0.wallReceive frame_7).1 fun s1 => Holds ((s0.wallReceive frame_7).2.getD ⟨0, [], frame_7⟩) fun m => Delivers 113 frame_7 s0 s1 m ∧
      (orderOut m ≠ 0 ∨ orderArg m ≠ 0)) ∧
    (Holds (ws.advanceTo T6) fun s0 => Holds (s0.wallReceive frame_8).1 fun s1 => Holds ((s0.wallReceive frame_8).2.getD ⟨0, [], frame_8⟩) fun m => Delivers 114 frame_8 s0 s1 m ∧
      s1.inHarbour = false) ∧
    (Holds (ws.advanceTo T6) fun s0 => Holds (s0.wallReceive frame_9).1 fun s1 => Holds ((s0.wallReceive frame_9).2.getD ⟨0, [], frame_9⟩) fun m => Delivers 114 frame_9 s0 s1 m ∧
      s1.inHarbour = false ∧ (3 < orderOut m ∨ 15 < orderArg m % 256 ∧ orderArg m % 256 ≠ 255)) ∧
    (Holds (ws.advanceTo T6) fun s0 => Holds (s0.wallReceive frame_10).1 fun s1 => Holds ((s0.wallReceive frame_10).2.getD ⟨0, [], frame_10⟩) fun m => Delivers 115 frame_10 s0 s1 m ∧
      s1.inHarbour = false ∧ (orderOut m ≤ 3 ∨ orderOut m = 255)) ∧
    (Holds (ws.advanceTo T6) fun s0 => Holds (s0.wallReceive frame_11).1 fun s1 => Holds ((s0.wallReceive frame_11).2.getD ⟨0, [], frame_11⟩) fun m => Delivers 115 frame_11 s0 s1 m ∧
      s1.inHarbour = false ∧ 3 < orderOut m ∧ orderOut m ≠ 255) ∧
    (Holds ((cold ws).advanceTo T6) fun s0 => Holds (s0.wallReceive frame_6).1 fun s1 => Holds ((s0.wallReceive frame_6).2.getD ⟨0, [], frame_6⟩) fun m => Delivers 113 frame_6 s0 s1 m ∧
      orderOut m = 0 ∧ orderArg m = 0 ∧ s1.therm.steps = [] ∧ (∀ (o : Output), s1.panelState o = 0)) := by
  refine ⟨delivers ?_, delivers ?_, delivers ?_, delivers ?_, delivers ?_, delivers ?_, delivers ?_⟩ <;> decide +kernel

end WallOrders

namespace WallStates

def up2 : State := (({ wb with link := { wb.link with txUp := { wb.link.txUp with rowsAt := 599999990 }, txDn := { wb.link.txDn with rowsAt := 599999990 } } } : State).setFld LNK_STAT_up_state 2).setFld LNK_STAT_dn_state 2
def hst : RosterEntry := { node := 3, tracker := false, host := true, tile := false, limit := 1538, mac := 0x020000000003 }
def trk : RosterEntry := { node := 4, tracker := true, host := false, tile := false, limit := 300, mac := 0x020000000004 }
def own : RosterEntry := { node := 9, tracker := false, host := false, tile := true, limit := 1000, mac := 0x020000000009 }
def key0 : Bytes := (List.range 32).map fun i => BitVec.ofNat 8 (i * 3)
def wrec : WallRec := { mac := 0x020000000009, plca := true, nodeId := 9, nodeCount := 10, roster := [hst, trk, own], key := key0 }
def ws : State := ({ up2 with itin := { up2.itin with wall := some wrec }, wall := { up2.wall with up := true, plca := true, mac := 0x020000000009 } }).setFld WBS_STAT_plca_ok 1
def pay (type node dst flags seq : Nat) (body : Bytes) : Bytes := let p := toLe 1 1 ++ toLe 1 type ++ toLe 1 node ++ toLe 1 dst ++ toLe 1 flags ++ [0] ++ toLe 2 seq ++ toLe 2 body.length ++ [0,0] ++ body; p ++ zeros (46 - p.length)
def fr (src : BitVec 48) (p : Bytes) : Frame := { dst := broadcastMac, src, etype := 0x88B5, payload := p, wire := wireBytes p.length }
def rgf (a n : Nat) : Frame := fr 0x020000000003 (pay 5 3 0xFF 0 68 (toLe 4 a ++ toLe 1 n ++ [0,0,0]))
def viol64 : State := { ws with wall := { ws.wall with nodes := [(3, { violations := List.replicate 64 599999999, complaints := [(9, (2, some 500000000))] }), (4, { counter := some 9, quarantine := some 700000000 })] } }
def T6 : Nat := 600000000
def cold (s : State) : State := sets s ((List.range 4).map fun o => (SCN_OUT_STAT_state o, 0))
def pshd (s : State) : State := { s with evt := { s.evt with push := some 0x1234 } }
def noact (s : State) := { cold s with wall := { s.wall with statusN := 0 } }
def tsin (s : State) : State := { s with wall := { s.wall with ticksSince := 20 } }
def void (s : State) : State := s.setFld WBS_STAT_bound_void 1
def frame_1 : Frame := rgf GBK_HEAD 1

theorem witness_WallRequests_2 :
    (Holds (ws.advanceTo T6) fun s0 => Holds (s0.wallReceive frame_1).1 fun s1 => Holds ((s0.wallReceive frame_1).2.getD ⟨0, [], frame_1⟩) fun m => Delivers 5 frame_1 s0 s1 m ∧
      1 ≤ leAt m.body 4 1 ∧ leAt m.body 4 1 ≤ 32 ∧ s1.wall.up = true ∧
      (∀ (j : Nat), j < leAt m.body 4 1 → s1.grants (leAt m.body 0 4 + 4 * j) ∧
      isShadowed (leAt m.body 0 4 + 4 * j) = false)) := delivers (by decide +kernel)

theorem witness_WallUpkeep :
    (Holds (ws.advanceTo T6) fun s0 => s0.wall.up = true ∧ s0.wall.plca = true ∧
      s0.fld WBS_STAT_plca_ok ≠ b2n false) ∧
    (Holds ((noact ws).advanceTo T6) fun s0 => (∀ (o : Output), s0.lowestActive = some o → max 1 s0.wall.statusN ≤ s0.wall.ticksSince) ∧
      (s0.lowestActive = none → s0.elapsed s0.wall.lastPeriodic (edgesMs 100) = true) ∧ s0.wall.up = true) ∧
    (Holds ((pshd (tsin ws)).advanceTo T6) fun s0 => s0.evt.push = some 4660 ∧
      Option.any (fun e => !s0.elapsed e (edgesMs 10)) s0.wall.lastPush = false ∧ s0.wall.up = true) ∧
    (Holds ((void ws).advanceTo T6) fun s0 => s0.fld WBS_STAT_bound_void = 1 ∧ s0.fld WBS_STAT_plca_ok = 1 ∧
      s0.elapsed s0.wall.lastVoid (edgesS 1) = true) ∧
    (Holds (viol64.advanceTo 800000000) fun s0 => (s0.sender ↑4).quarantine = some 700000000 ∧
      700000000 ≤ s0.now) := by
  refine ⟨?_, ?_, ?_, ?_, ?_⟩ <;> decide +kernel

end WallStates

namespace Boots

def key0 : Bytes := (List.range 32).map fun i => BitVec.ofNat 8 (i * 3)
def recb (type inst : Nat) (b : Bytes) : Bytes := toLe 2 type ++ toLe 2 inst ++ toLe 4 b.length ++ b ++ zeros (ceilDiv b.length 8 * 8 - b.length)
def image (seq : Nat) (body : Bytes) : Bytes :=
  let len := 256 + body.length
  let h1 := toLe 4 0 ++ [4, 25] ++ zeros 38 ++ zeros 64 ++ zeros 64 ++ zeros 64
  let crc := (crc32 (h1 ++ body)).toNat
  [0x49, 0x54, 0x49, 0x4E] ++ toLe 2 1 ++ toLe 2 256 ++ toLe 4 len ++ toLe 4 seq ++ toLe 4 crc ++ h1 ++ body
def ident : Bytes := recb 1 0 (toLe 4 0x5120 ++ toLe 1 0xC2 ++ zeros 51)
def clocks : Bytes := recb 2 0 (zeros 8)
def dramr (ch : Nat) : Bytes := recb 3 0 ([BitVec.ofNat 8 ch, 1, 1, 1] ++ zeros 8)
def endr : Bytes := recb 0xFFFF 0 []
def img1 : Bytes := image 5 (ident ++ clocks ++ dramr 2 ++ endr)
def img3 : Bytes := image 4 (ident ++ clocks ++ dramr 4 ++ recb 0x42 0 ([90,80,100,110] ++ zeros 4) ++ recb 0x11 1 (toLe 2 60 ++ toLe 2 96 ++ toLe 2 16 ++ toLe 2 1 ++ toLe 4 16000000 ++ zeros 20) ++ recb 0x7FF0 3 (zeros 8) ++ endr)
def fl (a b : Bytes) (s : State) : State := { s with boot := { s.boot with flash := ((a.zipIdx.map fun (q : Byte × Nat) => (q.2, q.1)) ++ (b.zipIdx.map fun (q : Byte × Nat) => (0xC00000 + q.2, q.1))).filter (fun c => c.2 != 0xFF), flashId := 1 } }
def R0 : State := State.reset
def po (b p a c : Bool) (t : Nat) : PorInput := { tileId := BitVec.ofNat 4 t, bootSafe := b, pllOk := p, readOkA := a, readOkB := c }
def img4 : Bytes := image 7 (ident ++ clocks ++ dramr 3 ++ recb 7 0 ([2,0,0,0,0,9,0x88,0xB5,1,9,10,32,0,1,1,0] ++ key0 ++ [0,0,0,0,0,0,0,0] ++ [3,2,0,4,2,0,0,0,0,3] ++ zeros 6) ++ endr)
def pom : PorInput := { tileId := 1, mdioFail := some 0 }
def st1 : State := ({ R0 with boot := { R0.boot with phase := .training } }).setFld DRC_CFG_channels 2
def st3 : State := ({ R0 with boot := { R0.boot with phase := .training } }).setFld DRC_CFG_channels 4
def ct (n s : Nat) : ChannelTrain := { attempts := n, failStep := BitVec.ofNat 4 s, ca := 30, vrefdq := 4, write := 20, read := 20 }
def cte : ChannelTrain := { (ct 3 0) with errors := [0, 1, 5] }
def orOk : OutputRec := { width := 40, lines := 96, blank := 56, chCount := 8, period := 16000000, phase := 5, chFirst := 0, chRate := 120, bgRed := 1 }
def calOk : CalibRec := { lutSets := 1, pitchU := 131072, slantDen := 1, cellsX := 4, cellsY := 3 }
def rmOk : RaymodeRec := { nu := 2, nv := 2, vw := 16, vh := 16, tanU := 0x3F000000, tanV := 0x3F000000, outBits := 8, ovlBytes := 4, planes := [{ enable := true }] }
def bdOk : BandRec := { lower := -640, minRefresh := 10, maxRefresh := 20000, phases := 2, gckRise := 1, gckWidth := 2, stvLead := 1, stvWidth := 2 }
def prOk : ProgRec := { view := true, cost := 10, code := [0x5A000000] }
def st4 : State := { (st3.setFld CDC_CFG_chains 4) with boot := { st3.boot with image := [] }, itin := { st3.itin with
  output := st3.itin.output.set 1 (some orOk), calib := st3.itin.calib.set 1 (some calOk), raymode := st3.itin.raymode.set 1 (some rmOk)
  bands := st3.itin.bands.set 1 [bdOk], prog := st3.itin.prog.set 0 (some prOk), codec := some { chains := 4, legPool := 8, outs := [(0,0),(100,0)] }
  panel := st3.itin.panel.set 1 (some { thermAin := [0] }) } }
def porInput_1 : PorInput := po true true true true 3
def porInput_2 : PorInput := po false true true true 1
def porInput_3 : PorInput := po false false true true 1
def porInput_4 : PorInput := po false true false true 0
def state_1 : State := { R0 with boot := { R0.boot with flashId := 0 } }
def listOfChannelTrain_1 : List ChannelTrain := [ct 1 0,ct 1 0,ct 1 0,ct 1 0]
def listOfChannelTrain_2 : List ChannelTrain := [ct 1 0, ct 3 5]
def listOfChannelTrain_3 : List ChannelTrain := [cte, ct 1 0]

set_option maxRecDepth 100000 in
theorem witness_Starts_c1 :
    (fl [] img1 R0).boot.phase = Phase.inReset ∧ porInput_1.bootSafe = true :=
  by and_intros <;> decide +kernel

set_option maxRecDepth 100000 in
theorem witness_Starts_c2 :
    (fl [] img1 R0).boot.phase = Phase.inReset ∧ porInput_2.bootSafe = false ∧
      (fl [] img1 R0).boot.flashPresent = true ∧ (fl [] img1 R0).boot.slotCause (slotBase 1) porInput_2.readOkB = 0 ∧
      (fl [] img1 R0).boot.slotCause (slotBase 0) porInput_2.readOkA ≠ 0 ∧ porInput_2.pllOk = true ∧
      ((imageRecords ((fl [] img1 R0).boot.imageAt (slotBase 1))).isSome) = true ∧
      findRec ((imageRecords ((fl [] img1 R0).boot.imageAt (slotBase 1))).getD default).fst 96 0 = none :=
  by and_intros <;> decide +kernel

set_option maxRecDepth 100000 in
theorem witness_Starts_c3 :
    (fl [] img1 R0).boot.phase = Phase.inReset ∧ porInput_3.bootSafe = false ∧
      (fl [] img1 R0).boot.flashPresent = true ∧ (fl [] img1 R0).boot.slotCause (slotBase 1) porInput_3.readOkB = 0 ∧
      (fl [] img1 R0).boot.slotCause (slotBase 0) porInput_3.readOkA ≠ 0 ∧ porInput_3.pllOk = false :=
  by and_intros <;> decide +kernel

set_option maxRecDepth 100000 in
theorem witness_Starts_c4 :
    (fl img3 [] R0).boot.phase = Phase.inReset ∧ porInput_4.bootSafe = false ∧
      (fl img3 [] R0).boot.flashPresent = true ∧
      (fun k => (fl img3 [] R0).boot.slotCause (slotBase k) ((fun k => if k = 0 then porInput_4.readOkA else porInput_4.readOkB) k)) 0 ≠ 0 ∧
      (fun k => (fl img3 [] R0).boot.slotCause (slotBase k) ((fun k => if k = 0 then porInput_4.readOkA else porInput_4.readOkB) k)) 1 ≠ 0 :=
  by and_intros <;> decide +kernel

set_option maxRecDepth 100000 in
theorem witness_Starts_c5 :
    state_1.boot.phase = Phase.inReset ∧ porInput_2.bootSafe = false ∧ state_1.boot.flashPresent = false :=
  by and_intros <;> decide +kernel

set_option maxRecDepth 100000 in
theorem witness_Starts_c6 :
    (fl img4 [] R0).boot.phase = Phase.inReset ∧ pom.bootSafe = false ∧ (fl img4 [] R0).boot.flashPresent = true ∧
      (fl img4 [] R0).boot.slotCause (slotBase 0) pom.readOkA = 0 ∧
      (fl img4 [] R0).boot.slotCause (slotBase 1) pom.readOkB ≠ 0 ∧ pom.pllOk = true ∧
      ((imageRecords ((fl img4 [] R0).boot.imageAt (slotBase 0))).isSome) = true ∧
      findRec ((imageRecords ((fl img4 [] R0).boot.imageAt (slotBase 0))).getD default).fst 96 0 = none ∧
      (pom.mdioFail.isSome) = true ∧
      ((itinOf ((imageRecords ((fl img4 [] R0).boot.imageAt (slotBase 0))).getD default).fst pom.tileId.toNat).wall.isSome) = true ∧
      ↑(pom.mdioFail.getD default) < ((itinOf ((imageRecords ((fl img4 [] R0).boot.imageAt (slotBase 0))).getD default).fst pom.tileId.toNat).wall.getD default).writes.length :=
  by and_intros <;> decide +kernel

set_option maxRecDepth 100000 in
theorem witness_Starts_c7 :
    Holds (st4.advanceTo 1000) fun s0 => s0.boot.phase = Phase.training ∧
      listOfChannelTrain_1.length = s0.populated.length ∧
      (∀ (r : ChannelTrain), r ∈ listOfChannelTrain_1 → 1 ≤ r.attempts ∧ r.attempts ≤ 3 ∧ r.failStep.toNat ≤ 8 ∧
      (trainFailedAt r = 0 ∨ r.attempts = 3)) ∧
      (∀ (r : ChannelTrain), r ∈ listOfChannelTrain_1 → trainFailedAt r = 0) :=
  by decide +kernel

set_option maxRecDepth 100000 in
theorem witness_Starts_c8 :
    Holds (st1.advanceTo 1000) fun s0 => s0.boot.phase = Phase.training ∧
      listOfChannelTrain_2.length = s0.populated.length ∧
      (∀ (r : ChannelTrain), r ∈ listOfChannelTrain_2 → 1 ≤ r.attempts ∧ r.attempts ≤ 3 ∧ r.failStep.toNat ≤ 8 ∧
      (trainFailedAt r = 0 ∨ r.attempts = 3)) ∧ (∃ (r : ChannelTrain), r ∈ listOfChannelTrain_2 ∧
      trainFailedAt r ≠ 0) :=
  by decide +kernel

set_option maxRecDepth 100000 in
theorem witness_Starts_c9 :
    Holds (st1.advanceTo 1000) fun s0 => s0.boot.phase = Phase.training ∧
      listOfChannelTrain_3.length = s0.populated.length ∧
      (∀ (r : ChannelTrain), r ∈ listOfChannelTrain_3 → 1 ≤ r.attempts ∧ r.attempts ≤ 3 ∧ r.failStep.toNat ≤ 8 ∧
      (trainFailedAt r = 0 ∨ r.attempts = 3)) ∧ (listOfChannelTrain_3[0]?.isSome) = true ∧
      (listOfChannelTrain_3[0]?.getD default).failStep = 0 ∧
      24 ≤ BitVec.toNat (listOfChannelTrain_3[0]?.getD default).ca ∧
      16 ≤ BitVec.toNat (listOfChannelTrain_3[0]?.getD default).read ∧
      16 ≤ BitVec.toNat (listOfChannelTrain_3[0]?.getD default).write ∧
      ((listOfChannelTrain_3[0]?.getD default).errors.any (· != 0)) = true :=
  by decide +kernel

end Boots

namespace Stages

def up2 : State := (({ wb with link := { wb.link with txUp := { wb.link.txUp with rowsAt := 599999990 }, txDn := { wb.link.txDn with rowsAt := 599999990 } } } : State).setFld LNK_STAT_up_state 2).setFld LNK_STAT_dn_state 2
def hst : RosterEntry := { node := 3, tracker := false, host := true, tile := false, limit := 1538, mac := 0x020000000003 }
def trk : RosterEntry := { node := 4, tracker := true, host := false, tile := false, limit := 300, mac := 0x020000000004 }
def own : RosterEntry := { node := 9, tracker := false, host := false, tile := true, limit := 1000, mac := 0x020000000009 }
def key0 : Bytes := (List.range 32).map fun i => BitVec.ofNat 8 (i * 3)
def wrec : WallRec := { mac := 0x020000000009, plca := true, nodeId := 9, nodeCount := 10, roster := [hst, trk, own], key := key0 }
def ws : State := ({ up2 with itin := { up2.itin with wall := some wrec }, wall := { up2.wall with up := true, plca := true, mac := 0x020000000009 } }).setFld WBS_STAT_plca_ok 1
def pay (type node dst flags seq : Nat) (body : Bytes) : Bytes := let p := toLe 1 1 ++ toLe 1 type ++ toLe 1 node ++ toLe 1 dst ++ toLe 1 flags ++ [0] ++ toLe 2 seq ++ toLe 2 body.length ++ [0,0] ++ body; p ++ zeros (46 - p.length)
def fr (src : BitVec 48) (p : Bytes) : Frame := { dst := broadcastMac, src, etype := 0x88B5, payload := p, wire := wireBytes p.length }
def sgn (type node : Nat) (b : Bytes) (ctr ns : Nat) : Bytes :=
  let m := b ++ toLe 8 ctr ++ toLe 8 ns
  let h := toLe 1 1 ++ toLe 1 type ++ toLe 1 node ++ toLe 1 0xFF ++ [0,0] ++ toLe 2 55 ++ toLe 2 (m.length + 16) ++ [0,0] ++ m
  m ++ (hmacSha256 key0 h).take 16
def T6 : Nat := 600000000
def recb (type inst : Nat) (b : Bytes) : Bytes := toLe 2 type ++ toLe 2 inst ++ toLe 4 b.length ++ b ++ zeros (ceilDiv b.length 8 * 8 - b.length)
def image (seq : Nat) (body : Bytes) : Bytes :=
  let len := 256 + body.length
  let h1 := toLe 4 0 ++ [4, 25] ++ zeros 38 ++ zeros 64 ++ zeros 64 ++ zeros 64
  let crc := (crc32 (h1 ++ body)).toNat
  [0x49, 0x54, 0x49, 0x4E] ++ toLe 2 1 ++ toLe 2 256 ++ toLe 4 len ++ toLe 4 seq ++ toLe 4 crc ++ h1 ++ body
def ident : Bytes := recb 1 0 (toLe 4 0x5120 ++ toLe 1 0xC2 ++ zeros 51)
def clocks : Bytes := recb 2 0 (zeros 8)
def dramr (ch : Nat) : Bytes := recb 3 0 ([BitVec.ofNat 8 ch, 1, 1, 1] ++ zeros 8)
def endr : Bytes := recb 0xFFFF 0 []
def img1 : Bytes := image 5 (ident ++ clocks ++ dramr 2 ++ endr)
def fl (a b : Bytes) (s : State) : State := { s with boot := { s.boot with flash := ((a.zipIdx.map fun (q : Byte × Nat) => (q.2, q.1)) ++ (b.zipIdx.map fun (q : Byte × Nat) => (0xC00000 + q.2, q.1))).filter (fun c => c.2 != 0xFF), flashId := 1 } }
def R0 : State := State.reset
def stb (op ses off : Nat) (d : Bytes) : Bytes := toLe 1 op ++ [0] ++ toLe 2 ses ++ toLe 4 off ++ toLe 2 d.length ++ [0,0] ++ d
def sgf (op ses off : Nat) (d : Bytes) (ctr : Nat := 9) : Frame := (fr 0x020000000003 (pay 6 3 0xFF 0 55 (sgn 6 3 (stb op ses off d) ctr 1200000000)))
def rxs (f : RxGroup → RxGroup) (s : State) : State := (s.setRx .up (f (s.rx .up))).setRx .dn (f (s.rx .dn))
def wst : State := { (rxs (fun r => { r with expected := 5, limits := #v[2000, 2000, 2000] }) ws) with boot := (fl [] [] R0).boot }
def begd (n seq : Nat) : Bytes := toLe 4 n ++ toLe 4 seq
def sesn (car : Bool) (_ : Nat) (hd : Bytes) (c : Option StageMsg) : Session := { caravan := car, sender := if car then 0 else 3, number := 77, length := img1.length, seq := 9, target := 1, direct := false, header := hd, lastAt := 599000000, commit := c }
def inS (car : Bool) (rx : Nat) (hd : Bytes) (c : Option StageMsg) (s : State) : State := { (s.setFld CFG_STAGE_RX_bytes rx) with stage := { session := some (sesn car rx hd c) } }
def whole (car : Bool) (c : Option StageMsg) (s : State) : State := inS car img1.length (img1.take 256) c (s.programFlash stagingBase img1)
def instr_1 : Instr := .stageBegin T6 (.wallBus (sgf 1 77 0 (begd 400 9)))
def state_1 : State := whole false (some (.wallBus (sgf 3 77 0 []))) wst
def stageMsg_1 : StageMsg := .wallBus (sgf 3 77 0 [])

set_option maxRecDepth 100000 in
theorem witness_Staging_c1 :
    Holds (wst.advanceTo T6) fun s0 => Holds (s0.expireSession.wallReceive (sgf 1 77 0 (begd 400 9))).1 fun s1 => Holds (staged (sgf 1 77 0 (begd 400 9)) s0.expireSession) fun m => Arrives 1 (.wallBus (sgf 1 77 0 (begd 400 9))) s0 s1 m ∧
      s1.stage.session = none ∧ leAt m.data 0 4 ≤ maxImage ∧
      (s1.inHarbour = true ∨ serialAbove (BitVec.ofNat 32 (leAt m.data 4 4)) (s1.reg CFG_SEQ) = true) :=
  arrives (by decide +kernel)

set_option maxRecDepth 100000 in
theorem witness_Staging_c2 :
    Holds ((inS true 0 [] none wst).advanceTo T6) fun s0 => Holds (s0.expireSession.wallReceive (sgf 1 77 0 (begd 400 9))).1 fun s1 => Holds (staged (sgf 1 77 0 (begd 400 9)) s0.expireSession) fun m => Arrives 1 (.wallBus (sgf 1 77 0 (begd 400 9))) s0 s1 m ∧
      (s1.stage.session.isSome) = true ∧ (s1.stage.session.getD default).number = m.session ∧
      (s1.stage.session.getD default).commit = none ∧
      instr_1 = Instr.stageBegin T6 (.wallBus (sgf 1 77 0 (begd 400 9))) ∧
      ((s1.stage.session.getD default).caravan ≠ m.caravan ∨ (s1.stage.session.getD default).sender ≠ s1.stageSender m) :=
  arrives (by decide +kernel)

set_option maxRecDepth 100000 in
theorem witness_Staging_c3 :
    Holds (wst.advanceTo T6) fun s0 => Holds (s0.expireSession.wallReceive (sgf 1 78 0 (begd 400 0))).1 fun s1 => Holds (staged (sgf 1 78 0 (begd 400 0)) s0.expireSession) fun m => Arrives 1 (.wallBus (sgf 1 78 0 (begd 400 0))) s0 s1 m ∧
      s1.stage.session = none ∧ leAt m.data 0 4 ≤ maxImage ∧ s1.inHarbour = false ∧
      serialAbove (BitVec.ofNat 32 (leAt m.data 4 4)) (s1.reg CFG_SEQ) = false :=
  arrives (by decide +kernel)

set_option maxRecDepth 100000 in
theorem witness_Staging_c4 :
    Holds (wst.advanceTo T6) fun s0 => Holds (s0.expireSession.wallReceive (sgf 1 77 0 (begd 12582920 9))).1 fun s1 => Holds (staged (sgf 1 77 0 (begd 12582920 9)) s0.expireSession) fun m => Arrives 1 (.wallBus (sgf 1 77 0 (begd 12582920 9))) s0 s1 m ∧
      s1.stage.session = none ∧ maxImage < leAt m.data 0 4 :=
  arrives (by decide +kernel)

set_option maxRecDepth 100000 in
theorem witness_Staging_c5 :
    Holds ((inS false 0 [] none wst).advanceTo T6) fun s0 => Holds (s0.expireSession.wallReceive (sgf 2 77 0 (List.replicate 100 3))).1 fun s1 => Holds (staged (sgf 2 77 0 (List.replicate 100 3)) s0.expireSession) fun m => Arrives 2 (.wallBus (sgf 2 77 0 (List.replicate 100 3))) s0 s1 m ∧
      (s1.stage.session.isSome) = true ∧ (s1.stage.session.getD default).number = m.session ∧
      (s1.stage.session.getD default).commit = none ∧ m.offset = s1.stageReceived ∧
      s1.stageReceived + List.length m.data ≤ (s1.stage.session.getD default).length ∧
      (s1.stage.session.getD default).length < 2 ^ 32 :=
  arrives (by decide +kernel)

set_option maxRecDepth 100000 in
theorem witness_Staging_c6 :
    Holds ((inS false 300 (img1.take 256) none wst).advanceTo T6) fun s0 => Holds (s0.expireSession.wallReceive (sgf 2 77 0 (List.replicate 100 3))).1 fun s1 => Holds (staged (sgf 2 77 0 (List.replicate 100 3)) s0.expireSession) fun m => Arrives 2 (.wallBus (sgf 2 77 0 (List.replicate 100 3))) s0 s1 m ∧
      (s1.stage.session.isSome) = true ∧ (s1.stage.session.getD default).number = m.session ∧
      (s1.stage.session.getD default).commit = none ∧ m.offset ≠ s1.stageReceived :=
  arrives (by decide +kernel)

set_option maxRecDepth 100000 in
theorem witness_Staging_c7 :
    Holds ((inS false 0 [] none wst).advanceTo T6) fun s0 => Holds (s0.expireSession.wallReceive (sgf 3 77 0 [])).1 fun s1 => Holds (staged (sgf 3 77 0 []) s0.expireSession) fun m => Arrives 3 (.wallBus (sgf 3 77 0 [])) s0 s1 m ∧
      (s1.stage.session.isSome) = true ∧ (s1.stage.session.getD default).number = m.session ∧
      (s1.stage.session.getD default).commit = none ∧ s1.stagedOk (s1.stage.session.getD default) = false :=
  arrives (by decide +kernel)

set_option maxRecDepth 100000 in
theorem witness_Staging_c8 :
    Holds ((whole false none wst).advanceTo T6) fun s0 => Holds (s0.expireSession.wallReceive (sgf 3 77 0 [])).1 fun s1 => Holds (staged (sgf 3 77 0 []) s0.expireSession) fun m => Arrives 3 (.wallBus (sgf 3 77 0 [])) s0 s1 m ∧
      (s1.stage.session.isSome) = true ∧ (s1.stage.session.getD default).number = m.session ∧
      (s1.stage.session.getD default).commit = none ∧ s1.stagedOk (s1.stage.session.getD default) = true :=
  arrives (by decide +kernel)

set_option maxRecDepth 100000 in
theorem witness_Staging_c9 :
    Holds ((inS false 0 [] none wst).advanceTo T6) fun s0 => Holds (s0.expireSession.wallReceive (sgf 4 77 0 [])).1 fun s1 => Holds (staged (sgf 4 77 0 []) s0.expireSession) fun m => Arrives 4 (.wallBus (sgf 4 77 0 [])) s0 s1 m ∧
      (s1.stage.session.isSome) = true ∧ (s1.stage.session.getD default).number = m.session ∧
      (s1.stage.session.getD default).commit = none :=
  arrives (by decide +kernel)

set_option maxRecDepth 100000 in
theorem witness_Staging_c10 :
    Holds ((inS false 0 [] none wst).advanceTo T6) fun s0 => Holds (s0.expireSession.wallReceive (sgf 5 77 0 [])).1 fun s1 => Holds (staged (sgf 5 77 0 []) s0.expireSession) fun m => Arrives 5 (.wallBus (sgf 5 77 0 [])) s0 s1 m ∧
      (s1.stage.session.isSome) = true ∧ (s1.stage.session.getD default).number = m.session ∧
      (s1.stage.session.getD default).commit = none :=
  arrives (by decide +kernel)

set_option maxRecDepth 100000 in
theorem witness_Staging_c11 :
    Holds (state_1.advanceTo T6) fun s0 => (s0.stage.session.isSome) = true ∧
      (s0.stage.session.getD default).commit = some stageMsg_1 ∧ s0.power.lossAt = none :=
  by decide +kernel

set_option maxRecDepth 100000 in
theorem witness_Staging_c12 :
    Holds ((whole true none wst).advanceTo 10000000000) fun s0 => (s0.stage.session.isSome) = true ∧
      (s0.stage.session.getD default).commit = none ∧
      s0.elapsed (s0.stage.session.getD default).lastAt (edgesS 10) = true :=
  by decide +kernel

end Stages

namespace Cameras

def camr : CameraRec := { lanes := 2, dtype := 0x2B, vc := 1, cfa := 0, width := 16, height := 4, output := 1, fsyncDiv := 2, fsync := 1, fsyncUs := 10, ring := 2, encode := true, chain := 9, legRows := 2, alloc := 4096, outFormat := 0, outWidth := 8, outHeight := 4 }
def iden : List (BitVec 16) := (List.range 3075).map fun i => BitVec.ofNat 16 (i % 1025 * 64)
def ispr : IspRec := { black := [64,64,64,64], dpcThr := 100, wb := [256,256,256,256], ccm := [4096,0,0,0,4096,0,0,0,4096], ccmOff := [0,0,0], csc := [4096,0,0,0,4096,0,0,0,4096], cscOff := [0,0,0], taps := [{ enable := true, decimation := 1, ring := 2, send := true }, {}, { enable := true, decimation := 2, ring := 1 }, {}], tone := iden, coefs := (List.range 512).map fun i => if i % 4 = 1 then 4096 else 0 }
def scr : List ScriptStep := [⟨5,0,0,0,1,0⟩, ⟨1,1,0,0x100,3,0xFF⟩, ⟨4,0,0,0,100,0⟩, ⟨2,1,0,0x101,5,0xFF⟩, ⟨3,2,0,0x102,7,0xFF⟩]
def scr3 : List ScriptStep := [⟨6,2,2,0x200,0,0xFFF⟩]
def cw (f : Cam → Cam) : State := sets { w with itin := { w.itin with camera := (w.itin.camera.set 4 (some camr)).set 5 (some { camr with output := 3 }), isp := w.itin.isp.set 4 (some ispr), scripts := (w.itin.scripts.set 16 scr).set 19 scr3 |>.set 20 scr }, cams := (w.cams.set 4 (f { (w.cam 4) with window := true })).set 5 { (w.cam 5) with nextGrid := 1100000000 } } [(CAM_P_STAT_state 4, 2), (CAM_P_STAT_state 5, 3), (LNK_STAT_up_state, 2)]
def f0 : CamFrame := { gen := 7, wb := [256,256,256,256], taps := [(0,0)] }
def cf (g : CamFrame → CamFrame) (h : Cam → Cam := id) : State := cw fun c => h { c with frame := some (g f0), started := true, ring := [⟨0, 7, 0, true, 0⟩], nextBuf := 1 }
def h0 (e : HdrEcc := .ok) (dt : Nat := 0) (vc : Nat := 1) (wc : Nat := 20) : CsiHdr := { ecc := e, vc := BitVec.ofNat _ vc, dtype := BitVec.ofNat _ dt, wc := BitVec.ofNat _ wc }
def pl0 : Bytes := (List.range 20).map fun i => BitVec.ofNat 8 (i * 11)
def buf16 : List (Word × List Nat) := List.replicate 16 (7, List.replicate 16 3)
def csiHdr_1 : CsiHdr := h0 .ok 1
def bits16_1 : BitVec 16 := crcCsi pl0
def csiHdr_2 : CsiHdr := h0 .ok 2
def csiHdr_3 : CsiHdr := h0 .corrected 3
def csiHdr_4 : CsiHdr := h0 .bad 0
def csiHdr_5 : CsiHdr := h0 .ok 0x2B
def csiHdr_6 : CsiHdr := h0 .corrected 0x2B 1 19
def state_1 : State := cf (fun f => {f with arrived := 4, lines := 4})

theorem witness_CameraFrames :
    (Holds ((cw id).advanceTo 600000000) fun s0 => s0.camOn 4 = true ∧ s0.packetSound 4 h0 0 ∧
      (s0.cam 4).frame = none ∧ (s0.cam 4).window = true ∧ (s0.cam 4).started = false) ∧
    (Holds ((cw id).advanceTo 600000000) fun s0 => s0.camOn 4 = true ∧ s0.packetSound 4 csiHdr_1 1 ∧
      (s0.cam 4).frame = none) ∧
    (Holds ((cw id).advanceTo 600000000) fun s0 => s0.camOn 5 = true ∧
      if s0.paced 5 = true then (s0.cam 5).due = true else (s0.freeBoundary 5).fst ≤ s0.timeNs) ∧
    (Holds ((cw id).advanceTo 600000000) fun s0 => s0.camOn 5 = true ∧ s0.packetSound 5 h0 0 ∧
      (s0.cam 5).frame = none ∧ ((s0.cam 5).window = false ∨ (s0.cam 5).started = true)) ∧
    (Holds ((cf id).advanceTo 600000000) fun s0 => s0.camOn 4 = true ∧ s0.packetSound 4 h0 0 ∧
      ((s0.cam 4).frame.isSome) = true) ∧
    (Holds ((cf id).advanceTo 600000000) fun s0 => s0.camOn 4 = true ∧ s0.packetSound 4 csiHdr_1 1 ∧
      ((s0.cam 4).frame.isSome) = true) := by
  refine ⟨?_, ?_, ?_, ?_, ?_, ?_⟩ <;> decide +kernel

theorem witness_CameraLines :
    (Holds ((cw id).advanceTo 600000000) fun s0 => s0.camOn 4 = true ∧
      ((1, Instr.frameEnd 600000000 4 h0).fst, (1, Instr.frameEnd 600000000 4 h0).snd) ∈ [(0, Instr.frameStart 600000000 4 h0), (1, Instr.frameEnd 600000000 4 h0), (2, Instr.lineStart 600000000 4 h0), (3, Instr.lineEnd 600000000 4 h0), ((s0.camRec 4).dtype, Instr.longPacket 600000000 4 h0 pl0 bits16_1)] ∧
      h0.ecc ≠ HdrEcc.bad ∧ ¬s0.packetSound 4 h0 (1, Instr.frameEnd 600000000 4 h0).fst) ∧
    (Holds ((cw id).advanceTo 600000000) fun s0 => s0.camOn 4 = true ∧ s0.packetSound 4 csiHdr_2 2) ∧
    (Holds ((cw id).advanceTo 600000000) fun s0 => s0.camOn 4 = true ∧ s0.packetSound 4 csiHdr_3 3) ∧
    (Holds ((cw id).advanceTo 600000000) fun s0 => s0.camOn 4 = true ∧
      ((0, Instr.frameStart 600000000 4 csiHdr_4).fst, (0, Instr.frameStart 600000000 4 csiHdr_4).snd) ∈ [(0, Instr.frameStart 600000000 4 csiHdr_4), (1, Instr.frameEnd 600000000 4 csiHdr_4), (2, Instr.lineStart 600000000 4 csiHdr_4), (3, Instr.lineEnd 600000000 4 csiHdr_4), ((s0.camRec 4).dtype, Instr.longPacket 600000000 4 csiHdr_4 pl0 bits16_1)] ∧
      csiHdr_4.ecc = HdrEcc.bad) ∧
    (Holds ((cw id).advanceTo 600000000) fun s0 => s0.camOn 4 = true ∧
      s0.packetSound 4 csiHdr_5 (s0.camRec 4).dtype ∧
      csiHdr_5.wc.toNat = (s0.camRec 4).width * codeBits (s0.camRec 4).dtype / 8 ∧ (s0.cam 4).frame = none) ∧
    (Holds ((cw id).advanceTo 600000000) fun s0 => s0.camOn 4 = true ∧
      s0.packetSound 4 csiHdr_6 (s0.camRec 4).dtype ∧
      csiHdr_6.wc.toNat ≠ (s0.camRec 4).width * codeBits (s0.camRec 4).dtype / 8) ∧
    (Holds ((cf id).advanceTo 600000000) fun s0 => s0.camOn 4 = true ∧
      s0.packetSound 4 csiHdr_5 (s0.camRec 4).dtype ∧
      csiHdr_5.wc.toNat = (s0.camRec 4).width * codeBits (s0.camRec 4).dtype / 8 ∧ ((s0.cam 4).frame.isSome) = true ∧
      ((s0.cam 4).frame.getD default).arrived < (s0.camRec 4).height ∧
      ((s0.cam 4).frame.getD default).discard = false ∧ ((s0.cam 4).frame.getD default).imageEnd = false ∧
      (s0.cam 4).buffer.length < 16) ∧
    (Holds (state_1.advanceTo 600000000) fun s0 => s0.camOn 4 = true ∧
      s0.packetSound 4 csiHdr_5 (s0.camRec 4).dtype ∧
      csiHdr_5.wc.toNat = (s0.camRec 4).width * codeBits (s0.camRec 4).dtype / 8 ∧ ((s0.cam 4).frame.isSome) = true ∧
      (s0.camRec 4).height ≤ ((s0.cam 4).frame.getD default).arrived) ∧
    (Holds ((cf (fun f => {f with imageEnd := true})).advanceTo 600000000) fun s0 => s0.camOn 4 = true ∧
      s0.packetSound 4 csiHdr_5 (s0.camRec 4).dtype ∧
      csiHdr_5.wc.toNat = (s0.camRec 4).width * codeBits (s0.camRec 4).dtype / 8 ∧ ((s0.cam 4).frame.isSome) = true ∧
      ((s0.cam 4).frame.getD default).arrived < (s0.camRec 4).height ∧
      (((s0.cam 4).frame.getD default).discard = true ∨ ((s0.cam 4).frame.getD default).imageEnd = true)) ∧
    (Holds ((cf id (fun c => {c with buffer := buf16})).advanceTo 600000000) fun s0 => s0.camOn 4 = true ∧
      s0.packetSound 4 csiHdr_5 (s0.camRec 4).dtype ∧
      csiHdr_5.wc.toNat = (s0.camRec 4).width * codeBits (s0.camRec 4).dtype / 8 ∧ ((s0.cam 4).frame.isSome) = true ∧
      ((s0.cam 4).frame.getD default).arrived < (s0.camRec 4).height ∧
      ((s0.cam 4).frame.getD default).discard = false ∧ ((s0.cam 4).frame.getD default).imageEnd = false ∧
      16 ≤ (s0.cam 4).buffer.length) := by
  refine ⟨?_, ?_, ?_, ?_, ?_, ?_, ?_, ?_, ?_, ?_⟩ <;> decide +kernel

end Cameras

namespace CameraJobs

def camr : CameraRec := { lanes := 2, dtype := 0x2B, vc := 1, cfa := 0, width := 16, height := 4, output := 1, fsyncDiv := 2, fsync := 1, fsyncUs := 10, ring := 2, encode := true, chain := 9, legRows := 2, alloc := 4096, outFormat := 0, outWidth := 8, outHeight := 4 }
def iden : List (BitVec 16) := (List.range 3075).map fun i => BitVec.ofNat 16 (i % 1025 * 64)
def ispr : IspRec := { black := [64,64,64,64], dpcThr := 100, wb := [256,256,256,256], ccm := [4096,0,0,0,4096,0,0,0,4096], ccmOff := [0,0,0], csc := [4096,0,0,0,4096,0,0,0,4096], cscOff := [0,0,0], taps := [{ enable := true, decimation := 1, ring := 2, send := true }, {}, { enable := true, decimation := 2, ring := 1 }, {}], tone := iden, coefs := (List.range 512).map fun i => if i % 4 = 1 then 4096 else 0 }
def scr : List ScriptStep := [⟨5,0,0,0,1,0⟩, ⟨1,1,0,0x100,3,0xFF⟩, ⟨4,0,0,0,100,0⟩, ⟨2,1,0,0x101,5,0xFF⟩, ⟨3,2,0,0x102,7,0xFF⟩]
def scr3 : List ScriptStep := [⟨6,2,2,0x200,0,0xFFF⟩]
def cw (f : Cam → Cam) : State := sets { w with itin := { w.itin with camera := (w.itin.camera.set 4 (some camr)).set 5 (some { camr with output := 3 }), isp := w.itin.isp.set 4 (some ispr), scripts := (w.itin.scripts.set 16 scr).set 19 scr3 |>.set 20 scr }, cams := (w.cams.set 4 (f { (w.cam 4) with window := true })).set 5 { (w.cam 5) with nextGrid := 1100000000 } } [(CAM_P_STAT_state 4, 2), (CAM_P_STAT_state 5, 3), (LNK_STAT_up_state, 2)]
def f0 : CamFrame := { gen := 7, wb := [256,256,256,256], taps := [(0,0)] }
def cf (g : CamFrame → CamFrame) (h : Cam → Cam := id) : State := cw fun c => h { c with frame := some (g f0), started := true, ring := [⟨0, 7, 0, true, 0⟩], nextBuf := 1 }
def bz (g : CamFrame → CamFrame) (z : Cam → Cam) (paid tok : Nat) (st : Bool := false) : State := let s := cf g z; { (if st then s else s) with isp := { line := some (4, 7, List.replicate 16 200), last := 4, paid }, porter := { s.porter with tokC := tok } }
def rws (n : Nat) : List (List Nat) := (List.range n).map fun j => (List.range 16).map fun i => 64 + (i * 37 + j * 11) % 900
def tp (w : Bool) : TapBuf := ⟨0, 1, 7, zeros 100, w, 0⟩
def scs (k st : Nat) (re : Bool) (since fails : Nat) (todo : List (Nat × List Nat)) : State := cw fun c => { c with script := some { script := k, step := st, ae := [5,6,7], retried := re, since }, cciFails := fails, todo }
def state_1 : State := {cf id (fun c => {c with buffer := [(7, List.replicate 16 3)]}) with isp := {last := 4}}
def state_2 : State := bz (fun f => {f with lines := 3, arrived := 3, rows := rws 2}) id 0 0
def state_3 : State := cw (fun c => {c with taps := [tp false, tp true], stats := [(7, zeros 20), (8, [])], aeDue := true})
def state_4 : State := {cw (fun c => {c with taps := [tp true], stats := [(7, zeros 20)]}) with porter := {w.porter with qd := [.stats 4, .list 2 5, .stats 4]}}
def state_5 : State := cw (fun c => {c with aeDue := true, script := some ⟨3,0,[],false,0⟩})

theorem witness_IspLines :
    (Holds (state_1.advanceTo 600000000) fun s0 => s0.isp.line = none ∧ s0.pd 36 = 2 ∧ 7 < 8 ∧
      (∀ (j : Nat), j < 7 → (s0.cam (Fin.ofNat 8 (s0.isp.last + 1 + j))).buffer = []) ∧
      4 = Fin.ofNat 8 (s0.isp.last + 1 + 7) ∧ (!(s0.cam 4).buffer.isEmpty) = true) ∧
    (Holds (state_2.advanceTo 600000000) fun s0 => (s0.isp.line.isSome) = true ∧
      (decide ((s0.isp.line.getD default).fst = 4)) = true ∧
      (((s0.cam 4).frameOf (s0.isp.line.getD default).snd.fst).isSome) = true ∧
      s0.lineTokens 4 (((s0.cam 4).frameOf (s0.isp.line.getD default).snd.fst).getD default) ≤ s0.isp.paid + s0.porter.tokC) := by
  refine ⟨?_, ?_⟩ <;> decide +kernel

theorem witness_CameraServices :
    (Holds (state_3.advanceTo 600000000) fun s0 => ((List.find? (fun x => x.waiting && decide (x.tap = ↑0)) (s0.cam 4).taps).isSome) = true ∧
      (decide ((s0.pay 2 rqEgress (ceilDiv (List.length ((List.find? (fun x => x.waiting && decide (x.tap = ↑0)) (s0.cam 4).taps).getD default).bytes) 64)).fst = true)) = true ∧
      s0.frozen = false ∧ s0.hopUsed Hop.up = true) ∧
    (Holds (state_3.advanceTo 600000000) fun s0 => s0.camOn 4 = true ∧ (s0.cam 4).aeDue = true) ∧
    (Holds (state_3.advanceTo 600000000) fun s0 => s0.camOn 5 = true ∧ s0.fld (CAM_P_STAT_state ↑5) = 3 ∧
      s0.elapsed (s0.cam 5).failedAt (edgesS 1) = true) ∧
    (Holds (state_4.advanceTo 600000000) fun s0 => (!(s0.cam 4).stats.isEmpty) = true ∧
      (decide ((s0.pay 3 rqIsp (ceilDiv (List.length ((s0.cam 4).stats.headD default).snd) 64)).fst = true)) = true ∧
      s0.frozen = false ∧
      (s0.porter.qd.all fun d => match d with | ClassD.list o _ => o != s0.camOutput 4 | _ => true) = true ∧
      ClassD.stats 4 ∈ s0.porter.qd) ∧
    (Holds (state_5.advanceTo 600000000) fun s0 => ((s0.cam 4).script.isSome) = true ∧
      ((s0.script 4 ((s0.cam 4).script.getD default).script)[((s0.cam 4).script.getD default).step]?.isSome) = true ∧
      ((s0.script 4 ((s0.cam 4).script.getD default).script)[((s0.cam 4).script.getD default).step]?.getD default).op ≠ 4 ∧
      true = true ∧
      ((s0.script 4 ((s0.cam 4).script.getD default).script)[((s0.cam 4).script.getD default).step]?.getD default).op ≠ 2 ∧
      ((s0.script 4 ((s0.cam 4).script.getD default).script)[((s0.cam 4).script.getD default).step]?.getD default).op ≠ 3) ∧
    (Holds (state_5.advanceTo 600000000) fun s0 => ((s0.cam 4).script.isSome) = true ∧
      ((s0.script 4 ((s0.cam 4).script.getD default).script)[((s0.cam 4).script.getD default).step]?.isSome) = true ∧
      ((s0.script 4 ((s0.cam 4).script.getD default).script)[((s0.cam 4).script.getD default).step]?.getD default).op ≠ 4 ∧
      false = false ∧ ((s0.cam 4).script.getD default).retried = false) ∧
    (Holds ((scs 0 1 true 599999999 2 []).advanceTo 600000000) fun s0 => ((s0.cam 4).script.isSome) = true ∧
      ((s0.script 4 ((s0.cam 4).script.getD default).script)[((s0.cam 4).script.getD default).step]?.isSome) = true ∧
      (((s0.script 4 ((s0.cam 4).script.getD default).script)[((s0.cam 4).script.getD default).step]?.getD default).op ≠ 4 ∧
      false = false ∧
      ((s0.cam 4).script.getD default).retried = true ∨ ((s0.script 4 ((s0.cam 4).script.getD default).script)[((s0.cam 4).script.getD default).step]?.getD default).op = 2 ∧
      false = true ∧
      ((s0.script 4 ((s0.cam 4).script.getD default).script)[((s0.cam 4).script.getD default).step]?.getD default).match_ 3 = false ∨ ((s0.script 4 ((s0.cam 4).script.getD default).script)[((s0.cam 4).script.getD default).step]?.getD default).op = 3 ∧
      false = true ∧
      ((s0.script 4 ((s0.cam 4).script.getD default).script)[((s0.cam 4).script.getD default).step]?.getD default).match_ 3 = false ∧
      s0.elapsed ((s0.cam 4).script.getD default).since (edgesMs 100) = true) ∧ 2 ≤ (s0.cam 4).cciFails) ∧
    (Holds ((scs 0 1 true 599999999 1 []).advanceTo 600000000) fun s0 => ((s0.cam 4).script.isSome) = true ∧
      ((s0.script 4 ((s0.cam 4).script.getD default).script)[((s0.cam 4).script.getD default).step]?.isSome) = true ∧
      (((s0.script 4 ((s0.cam 4).script.getD default).script)[((s0.cam 4).script.getD default).step]?.getD default).op ≠ 4 ∧
      false = false ∧
      ((s0.cam 4).script.getD default).retried = true ∨ ((s0.script 4 ((s0.cam 4).script.getD default).script)[((s0.cam 4).script.getD default).step]?.getD default).op = 2 ∧
      false = true ∧
      ((s0.script 4 ((s0.cam 4).script.getD default).script)[((s0.cam 4).script.getD default).step]?.getD default).match_ 3 = false ∨ ((s0.script 4 ((s0.cam 4).script.getD default).script)[((s0.cam 4).script.getD default).step]?.getD default).op = 3 ∧
      false = true ∧
      ((s0.script 4 ((s0.cam 4).script.getD default).script)[((s0.cam 4).script.getD default).step]?.getD default).match_ 3 = false ∧
      s0.elapsed ((s0.cam 4).script.getD default).since (edgesMs 100) = true) ∧ (s0.cam 4).cciFails < 2) ∧
    (Holds ((scs 0 2 false 500000000 0 []).advanceTo 600000000) fun s0 => ((s0.cam 4).script.isSome) = true ∧
      ((s0.script 4 ((s0.cam 4).script.getD default).script)[((s0.cam 4).script.getD default).step]?.isSome) = true ∧
      ((s0.script 4 ((s0.cam 4).script.getD default).script)[((s0.cam 4).script.getD default).step]?.getD default).op = 4 ∧
      s0.elapsed ((s0.cam 4).script.getD default).since (edgesUs ((s0.script 4 ((s0.cam 4).script.getD default).script)[((s0.cam 4).script.getD default).step]?.getD default).value) = true) ∧
    (Holds ((scs 0 3 false 500000000 1 [(3,[1,2,3])]).advanceTo 600000000) fun s0 => ((s0.cam 4).script.isSome) = true ∧
      ((s0.script 4 ((s0.cam 4).script.getD default).script)[((s0.cam 4).script.getD default).step]?.isSome) = true ∧
      ((s0.script 4 ((s0.cam 4).script.getD default).script)[((s0.cam 4).script.getD default).step]?.getD default).op ≠ 4 ∧
      true = true ∧
      (((s0.script 4 ((s0.cam 4).script.getD default).script)[((s0.cam 4).script.getD default).step]?.getD default).op = 2 ∨ ((s0.script 4 ((s0.cam 4).script.getD default).script)[((s0.cam 4).script.getD default).step]?.getD default).op = 3) ∧
      ((s0.script 4 ((s0.cam 4).script.getD default).script)[((s0.cam 4).script.getD default).step]?.getD default).match_ 5 = true) ∧
    (Holds ((scs 0 4 true 599999999 2 []).advanceTo 600000000) fun s0 => ((s0.cam 4).script.isSome) = true ∧
      ((s0.script 4 ((s0.cam 4).script.getD default).script)[((s0.cam 4).script.getD default).step]?.isSome) = true ∧
      ((s0.script 4 ((s0.cam 4).script.getD default).script)[((s0.cam 4).script.getD default).step]?.getD default).op = 3 ∧
      true = true ∧
      ((s0.script 4 ((s0.cam 4).script.getD default).script)[((s0.cam 4).script.getD default).step]?.getD default).match_ 3 = false ∧
      s0.elapsed ((s0.cam 4).script.getD default).since (edgesMs 100) = false) := by
  refine ⟨?_, ?_, ?_, ?_, ?_, ?_, ?_, ?_, ?_, ?_, ?_⟩ <;> decide +kernel

end CameraJobs

namespace PowerStates

def sg (l : List (SleepGroup × SleepRec)) (s : State) : State := { s with itin := { s.itin with sleep := l.foldl (fun v (q : SleepGroup × SleepRec) => v.set q.1 (some q.2)) s.itin.sleep } }
def gst (g : Nat) (n : Nat) (s : State) := s.setFld (PWR_SG_STAT_state g) n
def r1 : SleepRec := { off := true, idleUs := 100, members := [1, 2, 5] }
def r2 : SleepRec := { off := false, idleUs := 100, members := [33, 34] }
def r3 : SleepRec := { off := true, static := true, idleUs := 0, members := [37, 7] }
def wg : State := gst 0 1 (gst 1 1 (gst 2 1 (sg [(0, r1), (1, r2), (2, r3)] wb)))
def drn (s : State) : State := { s.setCodec 4 { draining := true } with engines := [], blt := { draining := true } }
def quiet (s : State) : State := { sets s [(SCN_OUT_STAT_static 1, 1), (SCN_OUT_STAT_static 2, 1), (SCN_OUT_STAT_m 1, 8), (SCN_OUT_STAT_m 2, 8)] with porter := {}, engines := [], outs := #v[{}, { cycle := { cyc with released := 12, nextTick := 1300000000 } }, { cycle := { cyc with released := 12, nextTick := 1300000000} }, {}] }
def idle (s : State) : State := { s with engines := [], codecs := Vector.replicate 16 {}, blt := {} }
def prep (s : State) := gst 0 2 (gst 1 2 (gst 2 2 s))
def gw (s : State) : State := quiet { (idle (gst 2 1 s)) with blt := s.blt }
def tgt (l : Sparse Nat) (s : State) : State := { s with power := { s.power with target := l } }
def wk (g : SleepGroup) (n : Nat) (s : State) : State := s.updGroup g fun x => { x with wake := some n }
def pwr (f : Power → Power) (s : State) : State := { s with power := f s.power }
def act (s : State) := s.setFld PWR_BRACE_active 1
def state_1 : State := (pwr (fun p => {p with starts := List.replicate 20 599999000}) wb).setFld PWR_BRACE_alert 1
def state_2 : State := act (pwr (fun p => {p with dips := [(3,⟨599990000,600⟩)], crossAt := 599999999, braceAt := 599990000}) wb)
def state_3 : State := pwr (fun p => {p with recovering := [9,10]}) wb
def state_4 : State := pwr (fun p => {p with recovering := [14,9]}) (wb.setFld LNK_STAT_refclk_ok 1)
def state_5 : State := sets wb ((List.range 4).map fun o => (SCN_OUT_STAT_state o, 0))

theorem witness_Domains :
    (Holds ((gw wg).advanceTo 600000000) fun s0 => s0.itin.sleep[2] = some r3 ∧
      (∀ (pd : Nat), pd ∈ r3.members → pd < 48) ∧ s0.alive = true ∧ s0.boot.phase ≠ Phase.thermalShutdown ∧
      s0.fld (PWR_SG_STAT_state ↑2) = 1 ∧
      (if r3.static = true then (∀ (o : Output), s0.scanning o = true → s0.fld (SCN_OUT_STAT_static ↑o) = 1 ∧
      ∀ (n : Nat), s0.nextRelease o = some n → s0.timeNs + 300000 < n) ∧ s0.classADemand = false ∧
      ∀ (e : Nat), (s0.power.groups.get 2).refusedAt = some e → ∃ (o : Output), e < (s0.out o).cycle.tickEdge else s0.elapsed (s0.power.groups.get 2).since (edgesUs r3.idleUs) = true ∧
      ∀ (pd : Nat), pd ∈ r3.members → s0.holdsWork pd = false) ∧ s0.holdsWork 37 = true ∧
      (∀ (k : Nat), k ∈ r3.members → s0.holdsWork k = true → 37 ≤ k)) ∧
    (Holds ((quiet (drn wg)).advanceTo 600000000) fun s0 => s0.itin.sleep[2] = some r3 ∧
      (∀ (pd : Nat), pd ∈ r3.members → pd < 48) ∧ s0.alive = true ∧ s0.boot.phase ≠ Phase.thermalShutdown ∧
      s0.fld (PWR_SG_STAT_state ↑2) = 1 ∧
      (if r3.static = true then (∀ (o : Output), s0.scanning o = true → s0.fld (SCN_OUT_STAT_static ↑o) = 1 ∧
      ∀ (n : Nat), s0.nextRelease o = some n → s0.timeNs + 300000 < n) ∧ s0.classADemand = false ∧
      ∀ (e : Nat), (s0.power.groups.get 2).refusedAt = some e → ∃ (o : Output), e < (s0.out o).cycle.tickEdge else s0.elapsed (s0.power.groups.get 2).since (edgesUs r3.idleUs) = true ∧
      ∀ (pd : Nat), pd ∈ r3.members → s0.holdsWork pd = false) ∧
      (∀ (pd : Nat), pd ∈ r3.members → s0.holdsWork pd = false) ∧ (∃ (pd : Nat), pd ∈ r3.members ∧
      s0.drains pd = true)) ∧
    (Holds (wg.advanceTo 600000000) fun s0 => s0.itin.sleep[1] = some r2 ∧
      (∀ (pd : Nat), pd ∈ r2.members → pd < 48) ∧ s0.alive = true ∧ s0.boot.phase ≠ Phase.thermalShutdown ∧
      s0.fld (PWR_SG_STAT_state ↑1) = 1 ∧
      (if r2.static = true then (∀ (o : Output), s0.scanning o = true → s0.fld (SCN_OUT_STAT_static ↑o) = 1 ∧
      ∀ (n : Nat), s0.nextRelease o = some n → s0.timeNs + 300000 < n) ∧ s0.classADemand = false ∧
      ∀ (e : Nat), (s0.power.groups.get 1).refusedAt = some e → ∃ (o : Output), e < (s0.out o).cycle.tickEdge else s0.elapsed (s0.power.groups.get 1).since (edgesUs r2.idleUs) = true ∧
      ∀ (pd : Nat), pd ∈ r2.members → s0.holdsWork pd = false) ∧
      (∀ (pd : Nat), pd ∈ r2.members → s0.holdsWork pd = false ∧ s0.drains pd = false)) ∧
    (Holds ((prep wg).advanceTo 600000000) fun s0 => s0.itin.sleep[0] = some r1 ∧
      (∀ (pd : Nat), pd ∈ r1.members → pd < 48) ∧ s0.fld (PWR_SG_STAT_state ↑0) = 2 ∧
      s0.elapsed (s0.power.groups.get 0).since (edgesUs 10) = true ∧ (s0.holdsWork 1 = true ∨ s0.drains 1 = true) ∧
      (∀ (k : Nat), k ∈ r1.members → s0.holdsWork k = true ∨ s0.drains k = true → 1 ≤ k)) ∧
    (Holds ((prep wg).advanceTo 600000000) fun s0 => s0.itin.sleep[1] = some r2 ∧
      (∀ (pd : Nat), pd ∈ r2.members → pd < 48) ∧ s0.fld (PWR_SG_STAT_state ↑1) = 2 ∧
      s0.elapsed (s0.power.groups.get 1).since (edgesUs 10) = true ∧
      (∀ (pd : Nat), pd ∈ r2.members → s0.holdsWork pd = false ∧ s0.drains pd = false)) ∧
    (Holds ((tgt [(1, 0), (40, 1)] wg).advanceTo 600000000) fun s0 => (s0.itin.sleep[1].isSome) = true ∧
      (∀ (pd : Nat), pd ∈ (s0.itin.sleep[1].getD default).members → pd < 48) ∧ s0.alive = true ∧
      s0.boot.phase ≠ Phase.thermalShutdown ∧ s0.fld (PWR_SG_STAT_state ↑1) = 1 ∧
      (if (s0.itin.sleep[1].getD default).static = true then (∀ (o : Output), s0.scanning o = true → s0.fld (SCN_OUT_STAT_static ↑o) = 1 ∧
      ∀ (n : Nat), s0.nextRelease o = some n → s0.timeNs + 300000 < n) ∧ s0.classADemand = false ∧
      ∀ (e : Nat), (s0.power.groups.get 1).refusedAt = some e → ∃ (o : Output), e < (s0.out o).cycle.tickEdge else s0.elapsed (s0.power.groups.get 1).since (edgesUs (s0.itin.sleep[1].getD default).idleUs) = true ∧
      ∀ (pd : Nat), pd ∈ (s0.itin.sleep[1].getD default).members → s0.holdsWork pd = false) ∧
      (∀ (pd : Nat), pd ∈ (s0.itin.sleep[1].getD default).members → s0.holdsWork pd = false ∧ s0.drains pd = false)) ∧
    (Holds ((tgt [(1, 0)] (gst 0 3 wg)).advanceTo 600000000) fun s0 => s0.power.target.wf = true ∧
      s0.power.target.get? ↑1 = some 0 ∧ 0 < 3 ∧ s0.power.due.getD (↑1) 0 ≤ s0.now ∧ (↑1 ∈ s0.members 0 ∧
      (∀ (h : SleepGroup), h ≠ 0 → ¬↑1 ∈ s0.members h) ∧
      ∀ (d : Nat), d ∈ s0.members 0 → d ≠ ↑1 → s0.power.target.get? d = none) ∧ ↑1 < 38 ∧ ↑1 ≠ 36 ∧
      s0.fld (PWR_SG_STAT_state ↑0) = 3 ∧ (s0.power.groups.get 0).wake = none) ∧
    (Holds ((tgt [(1,2)] (gst 0 5 wg)).advanceTo 600000000) fun s0 => s0.power.target.wf = true ∧
      s0.power.target.get? ↑1 = some 2 ∧ 2 < 3 ∧ s0.power.due.getD (↑1) 0 ≤ s0.now ∧ (↑1 ∈ s0.members 0 ∧
      (∀ (h : SleepGroup), h ≠ 0 → ¬↑1 ∈ s0.members h) ∧
      ∀ (d : Nat), d ∈ s0.members 0 → d ≠ ↑1 → s0.power.target.get? d = none) ∧ ↑1 < 38 ∧ ↑1 ≠ 36 ∧
      s0.fld (PWR_SG_STAT_state ↑0) = 5) ∧
    (Holds ((tgt [(1, 0)] (gst 0 3 (wk 0 2 wg))).advanceTo 600000000) fun s0 => s0.power.target.wf = true ∧
      s0.power.target.get? ↑1 = some 0 ∧ 0 < 3 ∧ s0.power.due.getD (↑1) 0 ≤ s0.now ∧ (↑1 ∈ s0.members 0 ∧
      (∀ (h : SleepGroup), h ≠ 0 → ¬↑1 ∈ s0.members h) ∧
      ∀ (d : Nat), d ∈ s0.members 0 → d ≠ ↑1 → s0.power.target.get? d = none) ∧ ↑1 < 38 ∧ ↑1 ≠ 36 ∧
      ((s0.power.groups.get 0).wake.isSome) = true ∧ s0.fld (PWR_SG_STAT_state ↑0) = 3 ∧ s0.skipsWake ↑1 = false ∧
      (∀ (d : Nat), d ∈ s0.members 0 → d < 48)) ∧
    (Holds ((tgt [(17,0)] wg).advanceTo 600000000) fun s0 => s0.power.target.wf = true ∧
      s0.power.target.get? ↑17 = some 0 ∧ 0 < 3 ∧ s0.power.due.getD (↑17) 0 ≤ s0.now ∧
      (∀ (g : SleepGroup), ¬↑17 ∈ s0.members g)) := by
  refine ⟨?_, ?_, ?_, ?_, ?_, ?_, ?_, ?_, ?_, ?_⟩ <;> decide +kernel

theorem witness_Braces :
    (Holds (wb.advanceTo 600000000) fun s0 => s0.alive = true ∧ 0 < (s0.monitor ↑3).fst ∧
      s0.fld PWR_BRACE_active = 0) ∧
    (Holds (state_1.advanceTo 6000000000) fun s0 => s0.fld PWR_BRACE_alert = 1 ∧
      s0.elapsed s0.power.alertAt (edgesS 10) = true) ∧
    (Holds (state_2.advanceTo 600000000) fun s0 => s0.alive = true ∧ 0 < (s0.monitor ↑3).fst ∧
      s0.fld PWR_BRACE_active = 1) ∧
    (Holds (state_2.advanceTo 6000000000) fun s0 => s0.fld PWR_BRACE_active = 1 ∧ s0.power.braceSnap = false ∧
      s0.elapsed s0.power.braceAt (edgesUs 50) = true) ∧
    (Holds (state_2.advanceTo 6000000000) fun s0 => s0.fld PWR_BRACE_active = 1 ∧
      s0.elapsed s0.power.crossAt (edgesUs 100) = true ∧
      (List.map (fun (x : Nat × Dip) => x.fst) s0.power.dips).Nodup) := by
  refine ⟨?_, ?_, ?_, ?_, ?_⟩ <;> decide +kernel

theorem witness_SupplyResets :
    (Holds (wb.advanceTo 600000000) fun s0 => 0 < (s0.monitor ↑3).snd.fst ∧ s0.boot.phase ≠ Phase.inReset ∧
      s0.power.lossAt = none ∧ ¬↑3 ∈ [6, 9, 10, 13, 14]) ∧
    (Holds (wb.advanceTo 600000000) fun s0 => 0 < (s0.monitor ↑6).snd.fst ∧ s0.boot.phase ≠ Phase.inReset ∧
      s0.power.lossAt = none ∧ ↑6 = 6) ∧
    (Holds (wb.advanceTo 600000000) fun s0 => 0 < (s0.monitor ↑9).snd.fst ∧ s0.boot.phase ≠ Phase.inReset ∧
      s0.power.lossAt = none ∧ (↑9 = 9 ∨ ↑9 = 10)) ∧
    (Holds (wb.advanceTo 600000000) fun s0 => 0 < (s0.monitor ↑13).snd.fst ∧ s0.boot.phase ≠ Phase.inReset ∧
      s0.power.lossAt = none ∧ ↑13 = 13) ∧
    (Holds (wb.advanceTo 600000000) fun s0 => 0 < (s0.monitor ↑14).snd.fst ∧ s0.boot.phase ≠ Phase.inReset ∧
      s0.power.lossAt = none ∧ ↑14 = 14) ∧
    (Holds (wb.advanceTo 600000000) fun s0 => s0.boot.waiting = none ∧ (∃ (o : Output), s0.panelState o ≠ 0)) ∧
    (Holds ((pwr (fun p => {p with lossAt := some 5}) wb).advanceTo 600000000) fun s0 => 0 < (s0.monitor ↑3).snd.fst ∧
      s0.boot.phase ≠ Phase.inReset ∧ s0.power.lossAt ≠ none) ∧
    (Holds (state_3.advanceTo 600000000) fun s0 => s0.alive = true ∧ ↑9 ∈ s0.power.recovering ∧ ↑9 ≠ 14 ∧
      (9 ∈ List.filter (fun x => x != ↑9) s0.power.recovering ∨ 10 ∈ List.filter (fun x => x != ↑9) s0.power.recovering)) ∧
    (Holds (state_4.advanceTo 600000000) fun s0 => s0.alive = true ∧ ↑9 ∈ s0.power.recovering ∧ ↑9 ≠ 14 ∧
      ¬9 ∈ List.filter (fun x => x != ↑9) s0.power.recovering ∧
      ¬10 ∈ List.filter (fun x => x != ↑9) s0.power.recovering) ∧
    (Holds (state_4.advanceTo 600000000) fun s0 => s0.alive = true ∧ ↑14 ∈ s0.power.recovering ∧ ↑14 = 14) ∧
    (Holds (state_5.advanceTo 600000000) fun s0 => s0.boot.waiting = none ∧
      (¬∃ (o : Output), s0.panelState o ≠ 0)) := by
  refine ⟨?_, ?_, ?_, ?_, ?_, ?_, ?_, ?_, ?_, ?_, ?_⟩ <;> decide +kernel

end PowerStates

namespace Heat

def th (f : Thermal → Thermal) (s : State) : State := { s with therm := f s.therm }
def rr : List RailRec := [{ winMin := 100, winMax := 200, off := 20, gain := 256, ain := 3 }, { winMin := 100, winMax := 200, off := 20, gain := -300, offset := 7 }, { winMin := -200, winMax := -100, off := -20 }, { winMin := -50, winMax := 50, off := 5 }]
def tab : List (Nat × Int) := (List.range 17).map fun i => (i * 256, 1600 - 150 * (i : Int))
def cfgd : State := sets { wb with itin := { wb.itin with panel := #v[none, some { rails := rr, thermAin := [1, 2], table := tab }, some { rails := rr }, none] } } ([(THM_CFG_warning, 85), (THM_CFG_throttle, 95), (THM_CFG_throttle2, 100), (THM_CFG_shutdown, 110)])
def all0 (s : State) : State := sets s ((List.range 4).map fun o => (SCN_OUT_STAT_state o, 0))
def chv (f : Nat → Int) : List Int := (List.range 56).map fun n => if n < 24 then f n else if n < 40 then 700 + n else 900 + 50 * n
def steady (t : Int) : List Int := chv fun n => t * 16 + n % 3
def ent (a b c d : Bool) (s : State) := th (fun x => { x with entered := #v[a,b,c,d], above := #v[3,1,1,1], below := #v[7,7,7,7], level := if c then 2 else if b then 1 else 0 }) s
def listOfInt_1 : List Int := steady 50
def state_1 : State := th (fun x => {x with holdUntil := some 599999999}) (ent true true false false (all0 cfgd))

theorem witness_ThermalRounds :
    (56 ≤ listOfInt_1.length) ∧
    (Holds (state_1.advanceTo 600000000) fun s0 => (s0.therm.holdUntil.isSome) = true ∧
      s0.therm.holdUntil.getD default ≤ s0.now) := by
  refine ⟨?_, ?_⟩ <;> decide +kernel

end Heat

namespace Alcoves

def rr : List RailRec := [{ winMin := 100, winMax := 200, off := 20 }, { winMin := 100, winMax := 200, off := 20 }, { winMin := -200, winMax := -100, off := -20 }, { winMin := -50, winMax := 50, off := 5 }]
def pw : State := { wb with itin := { wb.itin with panel := #v[none, some { rails := rr, cdReady := true }, some { rails := rr }, none] } }
def ln (k : Nat) (s : State) : State := s.updScan 1 fun c => { c with line := k, rows := { c.rows with sent := some { y := 1, pol := true, phases := 4, rise := 5, width := 7 } } }
def pl : State := pw.updCycle 1 fun c => { c with ticked := true }
def camr : CameraRec := { lanes := 2, dtype := 0x2B, vc := 1, cfa := 0, width := 16, height := 4, output := 1, fsyncDiv := 2, fsync := 1, fsyncUs := 10, ring := 2, encode := true, chain := 9, legRows := 2, alloc := 4096, outFormat := 0, outWidth := 8, outHeight := 4 }
def iden : List (BitVec 16) := (List.range 3075).map fun i => BitVec.ofNat 16 (i % 1025 * 64)
def ispr : IspRec := { black := [64,64,64,64], dpcThr := 100, wb := [256,256,256,256], ccm := [4096,0,0,0,4096,0,0,0,4096], ccmOff := [0,0,0], csc := [4096,0,0,0,4096,0,0,0,4096], cscOff := [0,0,0], taps := [{ enable := true, decimation := 1, ring := 2, send := true }, {}, { enable := true, decimation := 2, ring := 1 }, {}], tone := iden, coefs := (List.range 512).map fun i => if i % 4 = 1 then 4096 else 0 }
def scr : List ScriptStep := [⟨5,0,0,0,1,0⟩, ⟨1,1,0,0x100,3,0xFF⟩, ⟨4,0,0,0,100,0⟩, ⟨2,1,0,0x101,5,0xFF⟩, ⟨3,2,0,0x102,7,0xFF⟩]
def scr3 : List ScriptStep := [⟨6,2,2,0x200,0,0xFFF⟩]
def cw (f : Cam → Cam) : State := sets { w with itin := { w.itin with camera := (w.itin.camera.set 4 (some camr)).set 5 (some { camr with output := 3 }), isp := w.itin.isp.set 4 (some ispr), scripts := (w.itin.scripts.set 16 scr).set 19 scr3 |>.set 20 scr }, cams := (w.cams.set 4 (f { (w.cam 4) with window := true })).set 5 { (w.cam 5) with nextGrid := 1100000000 } } [(CAM_P_STAT_state 4, 2), (CAM_P_STAT_state 5, 3), (LNK_STAT_up_state, 2)]
def f0 : CamFrame := { gen := 7, wb := [256,256,256,256], taps := [(0,0)] }
def cf (g : CamFrame → CamFrame) (h : Cam → Cam := id) : State := cw fun c => h { c with frame := some (g f0), started := true, ring := [⟨0, 7, 0, true, 0⟩], nextBuf := 1 }
def cmd (op : Nat) (c : BlitCmd) : Bytes := toLe 1 op ++ toLe 1 c.flags ++ toLe 1 c.sfmt ++ toLe 1 c.dfmt ++ toLe 2 c.width ++ toLe 2 c.height ++ toLe 1 c.sspace ++ [0] ++ toLe 2 c.dead ++ toLe 4 c.spitch ++ toLe 8 c.soffset ++ toLe 1 c.dspace ++ [0,0,0] ++ toLe 4 c.dpitch ++ toLe 8 c.doffset ++ toLe 4 c.colour.toNat ++ toLe 4 c.colour2.toNat
def fillc : BlitCmd := { op := 2, dfmt := 1, width := 5, height := 3, dspace := 7, dpitch := 64, doffset := 128, colour := 0xFF808040, reservedZero := true }
def copyc : BlitCmd := { op := 1, sfmt := 1, dfmt := 1, width := 5, height := 3, sspace := 10, spitch := 64, soffset := 0, dspace := 7, dpitch := 64, doffset := 128, flags := 1, reservedZero := true }
def hdr (o n : Nat) : Bytes := toLe 2 0xB175 ++ [1] ++ toLe 1 o ++ [2, 0] ++ toLe 2 n ++ toLe 4 7 ++ [0,0,0,0]
def lst (cs : List BlitCmd) : Bytes := hdr 1 cs.length ++ cs.flatMap fun c => cmd c.op c
def mkL (b : Bytes) (s : State) : State := { s.spaceWrite spLEG 0 b with rooms := { s.rooms with items := [{ kind := 1, out := 1, serial := 7, stream := 3, offset := 0, got := b.length, complete := true, order := 1 }] }, blt := {}, porter := { s.porter with qd := [.list 1 1, .card 2, .stats 4] }, itin := { s.itin with card := (s.itin.card.set 2 (some { plane := 2, cardAfter := 3, list := lst [copyc] })) } }
def Lb := mkL (lst [fillc, copyc]) wb
def lx : State := let s := ln 24 pl; s.updRender 1 fun r => { r with ring := (List.range 8).map fun k => (s.ringIndex 1 5 8 / 4 * 4 - 2 + k, 3) }
def ic : State := cf id (fun c => {c with buffer := [(7, List.replicate 16 3)]})
def D1e := after (.legDispatch 500000001 0 none) L1
def dd (own : Option Output) (port : Option Port) (stops : Bool) (spare : Nat) (s : State) : State := { s with rooms := { s.rooms with dead := [⟨20, own, port, stops⟩] } }.setFld INK_ALCOVE_spare spare

theorem witness_FailedAlcoves :
    (Holds (lx.advanceTo 600000000) fun s0 => (s0.out 1).scan.line = 24 ∧ (s0.outRec 1).blank ≤ 24 ∧
      24 < s0.frameLines 1 ∧ s0.lineReached 1 24 = true ∧ s0.panelSeq 1 ≠ 2 ∧ s0.scanning 1 = true ∧
      (s0.out 1).cycle.ticked = true ∧ 5 < s0.wsub 1) ∧
    (Holds (ic.advanceTo 600000000) fun s0 => (!(s0.cam 4).buffer.isEmpty) = true ∧ s0.isp.line = none ∧
      s0.pd 36 = 2 ∧ s0.nextPort = some 4) ∧
    (Holds (D1e.advanceTo 500000002) fun s0 => ((s0.codec 0).leg.isSome) = true ∧
      (decide ((s0.transact (rqCodec 0) (s0.ctxWrite ((s0.codec 0).leg.getD default).hdr.chain)).fst = Dma.done)) = true ∧
      s0.frozen = false ∧ ((s0.codec 0).leg.getD default).finished = true ∧
      s0.pastB (Fin.ofNat 4 ((s0.codec 0).leg.getD default).hdr.output) = false) ∧
    (Holds (Lb.advanceTo 600000000) fun s0 => s0.blitFree = true ∧
      ((leastOf (List.filterMap (fun w => match w with | ClassD.list q n => if q = 1 then some n else none | _ => none) s0.porter.qd)).isSome) = true ∧
      ((s0.item? ((leastOf (List.filterMap (fun w => match w with | ClassD.list q n => if q = 1 then some n else none | _ => none) s0.porter.qd)).getD default)).isSome) = true ∧
      (decide ((s0.transact rqBlitter (s0.itemXacts ((s0.item? ((leastOf (List.filterMap (fun w => match w with | ClassD.list q n => if q = 1 then some n else none | _ => none) s0.porter.qd)).getD default)).getD default) 0 ((s0.item? ((leastOf (List.filterMap (fun w => match w with | ClassD.list q n => if q = 1 then some n else none | _ => none) s0.porter.qd)).getD default)).getD default).got false)).fst = Dma.done)) = true) ∧
    (Holds (Lb.advanceTo 600000000) fun s0 => s0.blitFree = true ∧
      List.filterMap (fun w => match w with | ClassD.list q n => if q = 2 then some n else none | _ => none) s0.porter.qd = [] ∧
      ClassD.card 2 ∈ s0.porter.qd) ∧
    (Holds (wb.advanceTo 503000000) fun s0 => ((s0.tickInstant 1).isSome) = true ∧ s0.scanning 1 = true ∧
      s0.rooms.dead = []) ∧
    (Holds ((dd none none false 3 wb).advanceTo 503000000) fun s0 => ((s0.tickInstant 1).isSome) = true ∧
      s0.scanning 1 = true ∧ (!s0.rooms.dead.isEmpty) = true ∧ (decide (s0.rooms.dead.tail = [])) = true ∧
      ((s0.rooms.dead.headD default).owner = none ∨ (s0.rooms.dead.headD default).owner = some 1) ∧
      0 < s0.fld INK_ALCOVE_spare) ∧
    (Holds ((dd none none false 0 wb).advanceTo 503000000) fun s0 => ((s0.tickInstant 1).isSome) = true ∧
      s0.scanning 1 = true ∧ (!s0.rooms.dead.isEmpty) = true ∧ (decide (s0.rooms.dead.tail = [])) = true ∧
      ((s0.rooms.dead.headD default).owner = none ∨ (s0.rooms.dead.headD default).owner = some 1) ∧
      s0.fld INK_ALCOVE_spare = 0 ∧ (s0.rooms.dead.headD default).stops = false) ∧
    (Holds ((dd (some 1) none true 0 wb).advanceTo 503000000) fun s0 => ((s0.tickInstant 1).isSome) = true ∧
      s0.scanning 1 = true ∧ (!s0.rooms.dead.isEmpty) = true ∧ (decide (s0.rooms.dead.tail = [])) = true ∧
      ((s0.rooms.dead.headD default).owner = none ∨ (s0.rooms.dead.headD default).owner = some 1) ∧
      s0.fld INK_ALCOVE_spare = 0 ∧ (s0.rooms.dead.headD default).stops = true ∧
      (s0.rooms.dead.headD default).owner = some 1 ∧ (s0.rooms.dead.headD default).port = none ∧
      s0.panelState 1 ≠ 0 ∧ s0.panelSeq 1 < 2) ∧
    (Holds ((dd (some 1) (some 4) true 0 wb).advanceTo 503000000) fun s0 => ((s0.tickInstant 1).isSome) = true ∧
      s0.scanning 1 = true ∧ (!s0.rooms.dead.isEmpty) = true ∧ (decide (s0.rooms.dead.tail = [])) = true ∧
      ((s0.rooms.dead.headD default).owner = none ∨ (s0.rooms.dead.headD default).owner = some 1) ∧
      s0.fld INK_ALCOVE_spare = 0 ∧ (s0.rooms.dead.headD default).stops = true ∧
      (s0.rooms.dead.headD default).owner = some 1 ∧ ((s0.rooms.dead.headD default).port.isSome) = true) := by
  refine ⟨?_, ?_, ?_, ?_, ?_, ?_, ?_, ?_, ?_, ?_⟩ <;> decide +kernel

end Alcoves

namespace BringUps

def wagon (type vc addr flags seq off stream : Nat) (body : Bytes) : Wagon := { bytes := stampWagon (wagonBytes type vc addr flags body.length off stream body) seq false false }
def up2 : State := (({ wb with link := { wb.link with txUp := { wb.link.txUp with rowsAt := 599999990 }, txDn := { wb.link.txDn with rowsAt := 599999990 } } } : State).setFld LNK_STAT_up_state 2).setFld LNK_STAT_dn_state 2
def hs (u d : Nat) (s : State) : State := ((s.setFld LNK_STAT_up_state u).setFld LNK_STAT_dn_state d).setFld LNK_STAT_refclk_ok 1
def lt (i : Nat) : LaneTrain := { cdr := true, fom := 100, ctle := 3, slips := 4, marker := some (markerBlock false i), skewNs := 3 }
def good : List LaneTrain := (List.range 8).map lt
def hopx (f : HopSt → HopSt) (s : State) : State := (s.setHop .up (f (s.hop .up))).setHop .dn (f (s.hop .dn))
def hello (_ : Hop) (ver rate role fl : Nat) : Wagon := wagon 1 0 0xF0 3 0 0 0 (toLe 1 ver ++ toLe 1 role ++ [5] ++ toLe 1 rate ++ toLe 1 fl ++ zeros 3 ++ toLe 2 7 ++ toLe 2 9 ++ zeros 4)
def rep : List (BitVec 16 × Bytes) := [(4, wagonBytes 0x43 2 0xF0 3 20 0 0 (zeros 20)), (5, wagonBytes 0x43 2 0xF0 3 30 0 0 (zeros 30))]
def txs (f : TxGroup → TxGroup) (s : State) : State := (s.setTx .up (f (s.tx .up))).setTx .dn (f (s.tx .dn))
def rxs (f : RxGroup → RxGroup) (s : State) : State := (s.setRx .up (f (s.rx .up))).setRx .dn (f (s.rx .dn))
def lstate (ack fl : Nat) : Wagon := wagon 2 0 0xF0 3 0 0 0 (toLe 2 ack ++ toLe 1 fl ++ [0] ++ toLe 4 100 ++ toLe 4 200 ++ toLe 4 300 ++ zeros 8)
def instr_1 : Instr := .hopBringUp 1100000000 .up good
def state_1 : State := hopx (fun x => {x with tries := 3}) (hs 3 3 up2)
def state_2 : State := hopx (fun x => {x with lanesReady := true}) (hs 1 3 up2)
def wagon_1 : Wagon := hello .up 1 0 1 0
def wagon_2 : Wagon := hello .up 2 0 1 1
def wagon_3 : Wagon := lstate 5 0
def state_3 : State := rxs (fun r => {r with waiting := true, limits := #v[0xFFFFFF00,5000,7]}) up2

theorem witness_BringUp :
    (Holds ((hs 1 1 up2).advanceTo 1100000000) fun s0 => s0.fld LNK_STAT_refclk_ok ≠ 0 ∧ s0.link.stopped = false ∧
      (instr_1 = Instr.hopBringUp 1100000000 Hop.up good ∧ s0.hopState Hop.up = 1 ∧
      (s0.hop Hop.up).lanesReady = false ∧
      s0.inStep2 Hop.up = true ∨ instr_1 = Instr.coldBringUpRetry 1100000000 Hop.up good ∧
      (s0.hopState Hop.up = 1 ∨ s0.hopState Hop.up = 4) ∧ s0.elapsed (s0.hop Hop.up).since (edgesS 1) = true)) ∧
    (Holds ((hs 3 3 up2).advanceTo 1100000000) fun s0 => s0.hopState Hop.up = 3 ∧
      (s0.hop Hop.up).lanesReady = false ∧ (s0.hop Hop.up).tries < 3) ∧
    (Holds (state_1.advanceTo 1100000000) fun s0 => s0.hopState Hop.up = 3 ∧ (s0.hop Hop.up).lanesReady = false ∧
      3 ≤ (s0.hop Hop.up).tries) ∧
    (Holds (state_2.advanceTo 1100000000) fun s0 => (s0.hopState Hop.up = 1 ∨ s0.hopState Hop.up = 3) ∧
      (s0.hop Hop.up).lanesReady = true ∧
      Option.any (fun e => !s0.elapsed e (edgesUs 10)) (s0.hop Hop.up).lastHello = false) ∧
    (Holds (state_2.advanceTo 1100000000) fun s0 => (s0.hopState Hop.up = 1 ∨ s0.hopState Hop.up = 3) ∧
      (s0.hop Hop.up).lanesReady = true ∧ (parseWagon wagon_1.bytes).type = 1 ∧ wagonCheck Hop.up wagon_1 = 0 ∧
      (parseWagon wagon_1.bytes).vc = 0 ∧ (parseWagon wagon_1.bytes).length = 16 ∧
      leAt (slice wagon_1.bytes 16 16) 0 1 = 1 ∧ leAt (slice wagon_1.bytes 16 16) 3 1 = s0.laneRate ∧
      leAt (slice wagon_1.bytes 16 16) 1 1 = 1) ∧
    (Holds (state_2.advanceTo 1100000000) fun s0 => (s0.hopState Hop.up = 1 ∨ s0.hopState Hop.up = 3) ∧
      (s0.hop Hop.up).lanesReady = true ∧ (parseWagon wagon_2.bytes).type = 1 ∧ wagonCheck Hop.up wagon_2 = 0 ∧
      (parseWagon wagon_2.bytes).vc = 0 ∧ (parseWagon wagon_2.bytes).length = 16 ∧
      (leAt (slice wagon_2.bytes 16 16) 0 1 ≠ 1 ∨ leAt (slice wagon_2.bytes 16 16) 3 1 ≠ s0.laneRate)) ∧
    (Holds (up2.advanceTo 600000000) fun s0 => s0.hopState Hop.up = 2 ∧
      Option.any (fun e => !s0.elapsed e (edgesNs 100)) (s0.hop Hop.up).lastState = false) ∧
    (Holds (up2.advanceTo 600000000) fun s0 => s0.hopState Hop.up = 2 ∧ wagonCheck Hop.up wagon_3 = 0 ∧
      (parseWagon wagon_3.bytes).type = 2 ∧ (parseWagon wagon_3.bytes).vc = 0 ∧
      (parseWagon wagon_3.bytes).length = 24 ∧
      Option.any (fun e => !s0.elapsed e (edgesNs 100)) (s0.rx Hop.up).lastState = false) ∧
    (Holds (state_3.advanceTo 600000000) fun s0 => s0.hopState Hop.up = 2 ∧ (s0.rx Hop.up).waiting = true ∧
      s0.elapsed (s0.rx Hop.up).lastNak (edgesUs 4) = true) ∧
    (Holds ((txs (fun a => {a with replay := rep}) up2).advanceTo 600000000) fun s0 => s0.hopState Hop.up = 2 ∧
      (s0.tx Hop.up).replay ≠ [] ∧ s0.elapsed (s0.tx Hop.up).ackAt (edgesUs 50) = true) := by
  refine ⟨?_, ?_, ?_, ?_, ?_, ?_, ?_, ?_, ?_, ?_⟩ <;> decide +kernel

end BringUps

namespace Departures

def up2 : State := (({ wb with link := { wb.link with txUp := { wb.link.txUp with rowsAt := 599999990 }, txDn := { wb.link.txDn with rowsAt := 599999990 } } } : State).setFld LNK_STAT_up_state 2).setFld LNK_STAT_dn_state 2
def hs (u d : Nat) (s : State) : State := ((s.setFld LNK_STAT_up_state u).setFld LNK_STAT_dn_state d).setFld LNK_STAT_refclk_ok 1
def rep : List (BitVec 16 × Bytes) := [(4, wagonBytes 0x43 2 0xF0 3 20 0 0 (zeros 20)), (5, wagonBytes 0x43 2 0xF0 3 30 0 0 (zeros 30))]
def txs (f : TxGroup → TxGroup) (s : State) : State := (s.setTx .up (f (s.tx .up))).setTx .dn (f (s.tx .dn))
def q (vc n : Nat) (ty : Nat) : Bytes := wagonBytes ty vc 0xF0 3 n 0 0 (zeros n)
def cr (a : TxGroup) : TxGroup := { a with limit := #v[5,5,5] }
def lv (s : State) : State := { txs (fun a => {cr a with leaving := some 7, q2own := [q 2 50 0x44, q 2 60 0x43]}) s with rooms := { s.rooms with heldOwn := [] } }
def state_1 : State := txs (fun a => {cr a with q0 := [q 0 16 1, q 0 24 2], lastVc0 := some 599999999}) up2
def state_2 : State := txs (fun a => {cr a with replay := rep, resend := [5], corrupt := true}) up2
def state_3 : State := txs (fun a => {cr a with q1 := [⟨3,q 1 60 0x20⟩], q3 := [⟨4,q 3 70 0x60⟩]}) up2
def state_4 : State := txs (fun a => {cr a with q3 := [⟨4,q 3 70 0x60⟩], q1 := [⟨3,q 1 6000 0x20⟩]}) up2
def state_5 : State := txs (fun a => {cr a with q2own := [q 2 50 0x43], q2relay := [⟨3,q 2 60 0x40⟩], lastOwn := true}) up2
def state_6 : State := txs (fun a => {cr a with q2own := [q 2 50 0x43], q2relay := [⟨3,q 2 60 0x40⟩]}) up2

theorem witness_WagonTransmission :
    (Holds ((hs 0 4 up2).advanceTo 600000000) fun s0 => (s0.hopState Hop.up = 0 ∨ s0.hopState Hop.up = 4)) ∧
    (Holds (up2.advanceTo 600000000) fun s0 => s0.hopState Hop.up ≠ 0 ∧ s0.hopState Hop.up ≠ 4 ∧
      ((s0.leave Hop.up).boundary Hop.up).pickVc0 Hop.up = none ∧ s0.hopState Hop.up = 2 ∧
      (((s0.leave Hop.up).boundary Hop.up).tx Hop.up).resend = [] ∧
      (fun (vc : Nat) q => Option.any (fun w => mayStart (((s0.leave Hop.up).boundary Hop.up).tx Hop.up) vc w.bytes) q.head?) 1 (((s0.leave Hop.up).boundary Hop.up).tx Hop.up).q1 = false ∧
      Option.any (fun (x : Bytes × List Bytes) => mayStart (((s0.leave Hop.up).boundary Hop.up).tx Hop.up) 2 x.fst) (((s0.leave Hop.up).boundary Hop.up).nextOwn Hop.up) = false ∧
      (fun (vc : Nat) q => Option.any (fun w => mayStart (((s0.leave Hop.up).boundary Hop.up).tx Hop.up) vc w.bytes) q.head?) 2 (((s0.leave Hop.up).boundary Hop.up).tx Hop.up).q2relay = false ∧
      (fun (vc : Nat) q => Option.any (fun w => mayStart (((s0.leave Hop.up).boundary Hop.up).tx Hop.up) vc w.bytes) q.head?) 3 (((s0.leave Hop.up).boundary Hop.up).tx Hop.up).q3 = false) ∧
    (Holds (state_1.advanceTo 600000000) fun s0 => s0.hopState Hop.up ≠ 0 ∧ s0.hopState Hop.up ≠ 4 ∧
      ((((s0.leave Hop.up).boundary Hop.up).pickVc0 Hop.up).isSome) = true) ∧
    (Holds ((hs 1 3 up2).advanceTo 600000000) fun s0 => s0.hopState Hop.up ≠ 0 ∧ s0.hopState Hop.up ≠ 4 ∧
      ((s0.leave Hop.up).boundary Hop.up).pickVc0 Hop.up = none ∧ s0.hopState Hop.up ≠ 2) ∧
    (Holds (state_2.advanceTo 600000000) fun s0 => s0.hopState Hop.up ≠ 0 ∧ s0.hopState Hop.up ≠ 4 ∧
      ((s0.leave Hop.up).boundary Hop.up).pickVc0 Hop.up = none ∧ s0.hopState Hop.up = 2 ∧
      (!(((s0.leave Hop.up).boundary Hop.up).tx Hop.up).resend.isEmpty) = true ∧
      ((List.find? (fun (y : BitVec 16 × Bytes) => decide (y.fst = (((s0.leave Hop.up).boundary Hop.up).tx Hop.up).resend.headD default)) (((s0.leave Hop.up).boundary Hop.up).tx Hop.up).replay).isSome) = true) ∧
    (Holds (state_3.advanceTo 600000000) fun s0 => s0.hopState Hop.up ≠ 0 ∧ s0.hopState Hop.up ≠ 4 ∧
      ((s0.leave Hop.up).boundary Hop.up).pickVc0 Hop.up = none ∧ s0.hopState Hop.up = 2 ∧
      (((s0.leave Hop.up).boundary Hop.up).tx Hop.up).resend = [] ∧
      (!(((s0.leave Hop.up).boundary Hop.up).tx Hop.up).q1.isEmpty) = true ∧
      mayStart (((s0.leave Hop.up).boundary Hop.up).tx Hop.up) 1 ((((s0.leave Hop.up).boundary Hop.up).tx Hop.up).q1.headD default).bytes = true) ∧
    (Holds (state_4.advanceTo 600000000) fun s0 => s0.hopState Hop.up ≠ 0 ∧ s0.hopState Hop.up ≠ 4 ∧
      ((s0.leave Hop.up).boundary Hop.up).pickVc0 Hop.up = none ∧ s0.hopState Hop.up = 2 ∧
      (((s0.leave Hop.up).boundary Hop.up).tx Hop.up).resend = [] ∧
      (fun (vc : Nat) q => Option.any (fun w => mayStart (((s0.leave Hop.up).boundary Hop.up).tx Hop.up) vc w.bytes) q.head?) 1 (((s0.leave Hop.up).boundary Hop.up).tx Hop.up).q1 = false ∧
      Option.any (fun (x : Bytes × List Bytes) => mayStart (((s0.leave Hop.up).boundary Hop.up).tx Hop.up) 2 x.fst) (((s0.leave Hop.up).boundary Hop.up).nextOwn Hop.up) = false ∧
      (fun (vc : Nat) q => Option.any (fun w => mayStart (((s0.leave Hop.up).boundary Hop.up).tx Hop.up) vc w.bytes) q.head?) 2 (((s0.leave Hop.up).boundary Hop.up).tx Hop.up).q2relay = false ∧
      (!(((s0.leave Hop.up).boundary Hop.up).tx Hop.up).q3.isEmpty) = true ∧
      mayStart (((s0.leave Hop.up).boundary Hop.up).tx Hop.up) 3 ((((s0.leave Hop.up).boundary Hop.up).tx Hop.up).q3.headD default).bytes = true) ∧
    (Holds (state_5.advanceTo 600000000) fun s0 => ((s0.leave Hop.up).boundary Hop.up).frozen = false ∧
      (!(((s0.leave Hop.up).boundary Hop.up).tx Hop.up).q2own.isEmpty) = true) ∧
    (Holds (state_5.advanceTo 600000000) fun s0 => s0.hopState Hop.up ≠ 0 ∧ s0.hopState Hop.up ≠ 4 ∧
      ((s0.leave Hop.up).boundary Hop.up).pickVc0 Hop.up = none ∧ s0.hopState Hop.up = 2 ∧
      (((s0.leave Hop.up).boundary Hop.up).tx Hop.up).resend = [] ∧
      (fun (vc : Nat) q => Option.any (fun w => mayStart (((s0.leave Hop.up).boundary Hop.up).tx Hop.up) vc w.bytes) q.head?) 1 (((s0.leave Hop.up).boundary Hop.up).tx Hop.up).q1 = false ∧
      (!(((s0.leave Hop.up).boundary Hop.up).tx Hop.up).q2relay.isEmpty) = true ∧
      mayStart (((s0.leave Hop.up).boundary Hop.up).tx Hop.up) 2 ((((s0.leave Hop.up).boundary Hop.up).tx Hop.up).q2relay.headD default).bytes = true ∧
      (Option.any (fun (x : Bytes × List Bytes) => mayStart (((s0.leave Hop.up).boundary Hop.up).tx Hop.up) 2 x.fst) (((s0.leave Hop.up).boundary Hop.up).nextOwn Hop.up) = false ∨ (((s0.leave Hop.up).boundary Hop.up).tx Hop.up).lastOwn = true)) ∧
    (Holds (state_6.advanceTo 600000000) fun s0 => s0.hopState Hop.up ≠ 0 ∧ s0.hopState Hop.up ≠ 4 ∧
      ((s0.leave Hop.up).boundary Hop.up).pickVc0 Hop.up = none ∧ s0.hopState Hop.up = 2 ∧
      (((s0.leave Hop.up).boundary Hop.up).tx Hop.up).resend = [] ∧
      (fun (vc : Nat) q => Option.any (fun w => mayStart (((s0.leave Hop.up).boundary Hop.up).tx Hop.up) vc w.bytes) q.head?) 1 (((s0.leave Hop.up).boundary Hop.up).tx Hop.up).q1 = false ∧
      ((((s0.leave Hop.up).boundary Hop.up).nextOwn Hop.up).isSome) = true ∧
      mayStart (((s0.leave Hop.up).boundary Hop.up).tx Hop.up) 2 ((((s0.leave Hop.up).boundary Hop.up).nextOwn Hop.up).getD default).fst = true ∧
      ((fun (vc : Nat) q => Option.any (fun w => mayStart (((s0.leave Hop.up).boundary Hop.up).tx Hop.up) vc w.bytes) q.head?) 2 (((s0.leave Hop.up).boundary Hop.up).tx Hop.up).q2relay = false ∨ (((s0.leave Hop.up).boundary Hop.up).tx Hop.up).lastOwn = false)) ∧
    (Holds ((lv up2).advanceTo 600000000) fun s0 => (s0.tx Hop.up).leaving = some 7 ∧
      (s0.rooms.heldOwn.any fun w => decide (w.id = 7)) = false ∧
      ((s0.waitingRelays Hop.up).any fun w => decide (w.id = 7)) = false) ∧
    (Holds ((lv (wfrz up2)).advanceTo 600000000) fun s0 => ((s0.leave Hop.up).boundary Hop.up).frozen = true ∧
      ((((s0.leave Hop.up).boundary Hop.up).nextOwn Hop.up).isSome) = true) := by
  refine ⟨?_, ?_, ?_, ?_, ?_, ?_, ?_, ?_, ?_, ?_, ?_, ?_⟩ <;> decide +kernel

end Departures

namespace LogClasses

def up2 : State := (({ wb with link := { wb.link with txUp := { wb.link.txUp with rowsAt := 599999990 }, txDn := { wb.link.txDn with rowsAt := 599999990 } } } : State).setFld LNK_STAT_up_state 2).setFld LNK_STAT_dn_state 2
def hst : RosterEntry := { node := 3, tracker := false, host := true, tile := false, limit := 1538, mac := 0x020000000003 }
def trk : RosterEntry := { node := 4, tracker := true, host := false, tile := false, limit := 300, mac := 0x020000000004 }
def own : RosterEntry := { node := 9, tracker := false, host := false, tile := true, limit := 1000, mac := 0x020000000009 }
def key0 : Bytes := (List.range 32).map fun i => BitVec.ofNat 8 (i * 3)
def wrec : WallRec := { mac := 0x020000000009, plca := true, nodeId := 9, nodeCount := 10, roster := [hst, trk, own], key := key0 }
def ws : State := ({ up2 with itin := { up2.itin with wall := some wrec }, wall := { up2.wall with up := true, plca := true, mac := 0x020000000009 } }).setFld WBS_STAT_plca_ok 1
def pay (type node dst flags seq : Nat) (body : Bytes) : Bytes := let p := toLe 1 1 ++ toLe 1 type ++ toLe 1 node ++ toLe 1 dst ++ toLe 1 flags ++ [0] ++ toLe 2 seq ++ toLe 2 body.length ++ [0,0] ++ body; p ++ zeros (46 - p.length)
def fr (src : BitVec 48) (p : Bytes) : Frame := { dst := broadcastMac, src, etype := 0x88B5, payload := p, wire := wireBytes p.length }
def sgn (type node : Nat) (b : Bytes) (ctr ns : Nat) : Bytes :=
  let m := b ++ toLe 8 ctr ++ toLe 8 ns
  let h := toLe 1 1 ++ toLe 1 type ++ toLe 1 node ++ toLe 1 0xFF ++ [0,0] ++ toLe 2 55 ++ toLe 2 (m.length + 16) ++ [0,0] ++ m
  m ++ (hmacSha256 key0 h).take 16
def comd (code out arg : Nat) : Bytes := toLe 1 code ++ toLe 1 out ++ [0,0] ++ toLe 4 arg
def cmdf (code out arg : Nat) (ns : Nat := 1200000000) : Frame := fr 0x020000000003 (pay 7 3 0xFF 0 55 (sgn 7 3 (comd code out arg) 9 ns))
def rgf (a n : Nat) : Frame := fr 0x020000000003 (pay 5 3 0xFF 0 68 (toLe 4 a ++ toLe 1 n ++ [0,0,0]))
def T6 : Nat := 600000000
def harb (s : State) : State := { s with boot := { s.boot with phase := .safeHarbour } }
def lq : Frame := rgf 0x1000 3
def lst : Frame := fr 0x020000000009 (pay 2 9 0xFF 0 68 (zeros 144))
def machine_1 : State := { ws with wall := { ws.wall with txPush := [lst] } }
def machine_2 : State := { ws with wall := { ws.wall with txComplaint := [lq] } }
def machine_3 : State := { ws with wall := { ws.wall with txReply := [lq] } }
def machine_4 : State := { ws with wall := { ws.wall with txStatus := [lst] } }
def hw : State := let s := harb ws; { s with boot := { s.boot with otp := { s.boot.otp with safeKey := some key0 } } }
def frame_1 : Frame := cmdf 2 1 3

theorem witness_WallRequests_3 :
    (Holds (machine_1.advanceTo T6) fun s0 => s0.wall.up = true ∧ s0.pd 44 = 2 ∧ (!s0.wall.txPush.isEmpty) = true ∧
      (decide (s0.wall.txPush.headD default = lst)) = true) ∧
    (Holds (machine_4.advanceTo T6) fun s0 => s0.wall.up = true ∧ s0.pd 44 = 2 ∧ (!s0.wall.txStatus.isEmpty) = true ∧
      (decide (s0.wall.txStatus.headD default = lst)) = true ∧ s0.wall.txPush = [] ∧ s0.wall.txComplaint = [] ∧
      s0.wall.txReply = []) ∧
    (Holds (machine_2.advanceTo T6) fun s0 => s0.wall.up = true ∧ s0.pd 44 = 2 ∧
      (!s0.wall.txComplaint.isEmpty) = true ∧ (decide (s0.wall.txComplaint.headD default = lq)) = true ∧
      s0.wall.txPush = []) ∧
    (Holds (machine_3.advanceTo T6) fun s0 => s0.wall.up = true ∧ s0.pd 44 = 2 ∧ (!s0.wall.txReply.isEmpty) = true ∧
      (decide (s0.wall.txReply.headD default = lq)) = true ∧ s0.wall.txPush = [] ∧ s0.wall.txComplaint = []) := by
  refine ⟨?_, ?_, ?_, ?_⟩ <;> decide +kernel

theorem witness_WallCommands_2 :
    (Holds (hw.advanceTo T6) fun s0 => Holds (s0.wallReceive frame_1).1 fun s1 => Holds ((s0.wallReceive frame_1).2.getD ⟨0, [], frame_1⟩) fun m => Delivers (114, Instr.selectPlayback T6 frame_1).fst frame_1 s0 s1 m ∧
      s1.inHarbour = true) := delivers (by decide +kernel)

end LogClasses

end Sys2Proof.Tests
end

section
/-!
SUPPORT. Register accesses on a path (R3–R9, R491, R492): what the path itself does before and after an access, how the access
checks decide it, and what a write stores. The proofs below speak of an access through these laws only.
-/
namespace Sys2Proof.Machine

/-! ### The path's own part of a write -/

/-- A state in which a path's write meets the access checks: a write through the service port is a frame of it (R491). -/
def State.pathStart (s : State) : Path → State
  | .service => s.svcFrame
  | _ => s

/-- WSTAT's code of a checked access (R491): 0 OK, 2 DOMAIN_OFF, 1 ERROR. -/
def wstatCode (k : Nat) : Byte := if k = 0 then 0 else if k = 1 then 2 else 1

/-- What a path notes of the outcome k of an access: WSTAT of the service port, elsewhere nothing. -/
def State.pathEnd (s : State) (p : Path) (k : Nat) : State :=
  match p with
  | .service => s.setWstat (wstatCode k)
  | _ => s

theorem keeps_withSvc (s : State) (x : Service) : Keeps [.svc] [] s { s with svc := x } := by
  refine ⟨fun p hp => ?_, fun _ _ => rfl⟩
  cases p with
  | svc => exact absurd List.mem_cons_self hp
  | _ => rfl

theorem State.setWstat_keeps (s : State) (b : Byte) : Keeps [.svc] [] s (s.setWstat b) := keeps_withSvc s _

theorem State.svcFrame_keeps (s : State) : Keeps [.svc] [SVC_STAT] s s.svcFrame := by
  have unlock := s.setFld_keeps SVC_STAT_unlocked (b2n s.unlocked)
  exact ((unlock.trans (keeps_withSvc _ _)).trans (State.setFld_keeps _ SVC_STAT_frames _)).mono (by simp)
    (by simp [SVC_STAT_unlocked, SVC_STAT_frames])

/-- A frame leaves SVC_STAT's unlocked bit as the port now is: locked after 1 s without one (R492). -/
theorem State.fld_unlocked_svcFrame (s : State) : s.svcFrame.fld SVC_STAT_unlocked = b2n s.unlocked := by
  have counted (u : State) : (u.wrapFld SVC_STAT_frames).fld SVC_STAT_unlocked = u.fld SVC_STAT_unlocked :=
    State.fld_setFld_apart _ _ _ _ (by decide) (by decide)
  have written : (s.setFld SVC_STAT_unlocked (b2n s.unlocked)).fld SVC_STAT_unlocked = b2n s.unlocked := by
    rw [State.fld_setFld_self _ _ _ (by decide)]
    cases s.unlocked <;> rfl
  exact (counted _).trans written

theorem State.pathStart_keeps (s : State) (p : Path) : Keeps (pathParts p) (pathAddrs p) s (s.pathStart p) := by
  cases p with
  | service => exact s.svcFrame_keeps
  | wallBus => exact Keeps.refl _ _ s
  | concierge => exact Keeps.refl _ _ s

theorem State.pathEnd_keeps (s : State) (p : Path) (k : Nat) : Keeps (pathParts p) [] s (s.pathEnd p k) := by
  cases p with
  | service => exact s.setWstat_keeps _
  | wallBus => exact Keeps.refl _ _ s
  | concierge => exact Keeps.refl _ _ s

/-- What an access between the path's start and end keeps, the whole command keeps beside the path's own part. -/
theorem Keeps.onPath {ps : List Part} {as : List Nat} {s u : State} {p : Path} (h : Keeps ps as (s.pathStart p) u) (k : Nat) :
    Keeps (ps ++ pathParts p) (as ++ pathAddrs p) s (u.pathEnd p k) :=
  (((s.pathStart_keeps p).trans h).trans (u.pathEnd_keeps p k)).mono
    (by simp only [List.append_subset, List.subset_append_left, List.subset_append_right, and_self])
    (by simp only [List.append_subset, List.subset_append_left, List.subset_append_right, List.nil_subset, and_self])

@[simp] theorem State.reg_pathEnd (s : State) (p : Path) (k a : Nat) : (s.pathEnd p k).reg a = s.reg a :=
  (s.pathEnd_keeps p k).2 a List.not_mem_nil

@[simp] theorem State.fld_pathEnd (s : State) (p : Path) (k : Nat) (f : RegField) : (s.pathEnd p k).fld f = s.fld f := by
  simp [State.fld]

theorem State.reg_pathStart_ne (s : State) (p : Path) (a : Nat) (h : a ≠ SVC_STAT) : (s.pathStart p).reg a = s.reg a :=
  (s.pathStart_keeps p).2 a fun ha => by
    cases p with
    | service => exact h (List.mem_singleton.mp ha)
    | wallBus => cases ha
    | concierge => cases ha

@[simp] theorem State.pathStart_clock (s : State) (p : Path) : (s.pathStart p).clock = s.clock := by cases p <;> rfl
@[simp] theorem State.pathStart_evt (s : State) (p : Path) : (s.pathStart p).evt = s.evt := by cases p <;> rfl
@[simp] theorem State.pathStart_boot (s : State) (p : Path) : (s.pathStart p).boot = s.boot := by cases p <;> rfl
@[simp] theorem State.pathStart_lowWords (s : State) (p : Path) : (s.pathStart p).lowWords = s.lowWords := by cases p <;> rfl
@[simp] theorem State.pathEnd_evt (s : State) (p : Path) (k : Nat) : (s.pathEnd p k).evt = s.evt := by cases p <;> rfl
@[simp] theorem State.pathEnd_boot (s : State) (p : Path) (k : Nat) : (s.pathEnd p k).boot = s.boot := by cases p <;> rfl
@[simp] theorem State.pathEnd_lowWords (s : State) (p : Path) (k : Nat) : (s.pathEnd p k).lowWords = s.lowWords := by
  cases p <;> rfl

theorem State.wstat_pathEnd (s : State) {p : Path} (k : Nat) (h : p = .service) : (s.pathEnd p k).svc.wstat = wstatCode k := by
  subst h
  rfl

/-- An event logged by the access is logged by the command: the path raises none and takes no time. -/
theorem LogsOpen.onPath {s u : State} {p : Path} {n arg : Nat} (h : LogsOpen (s.pathStart p) u n arg) (k : Nat) :
    LogsOpen s (u.pathEnd p k) n arg := by
  simpa [LogsOpen, State.timeNs] using h

/-! ### The access checks (R3, R5, R6) -/

theorem regDomain_lt (n off : Nat) : regDomain n off < 48 := by
  unfold regDomain
  split <;> grind

/-- A frame of the service port changes no power domain's state. -/
theorem State.pd_pathStart (s : State) (p : Path) (k : Nat) (h : k < 48) : (s.pathStart p).pd k = s.pd k := by
  simp only [State.pd, State.fld]
  rw [s.reg_pathStart_ne p _ (by simp only [PWR_PD_STATE, SVC_STAT]; omega)]

theorem State.busCheck_pathStart (s : State) (p : Path) (a width : Nat) :
    (s.pathStart p).busCheck a width = s.busCheck a width := by
  simp only [State.busCheck, s.pd_pathStart p _ (regDomain_lt _ _)]

theorem State.busCheck_of_grants (s : State) (a : Nat) (h : s.grants a) : s.busCheck a 32 = 0 := by
  obtain ⟨aligned, inSpace, on⟩ := h
  simp [State.busCheck, aligned, inSpace, on]

theorem State.busCheck_malformed (s : State) (a width : Nat) (h : width ≠ 32 ∨ a % 4 ≠ 0 ∨ inRegSpace a = false) :
    s.busCheck a width = 2 := by
  have refused : (width != 32 || a % 4 != 0 || !inRegSpace a) = true := by simpa [or_assoc] using h
  simp only [State.busCheck, refused, if_true]

theorem State.busCheck_asleep (s : State) (a : Nat) (aligned : a % 4 = 0) (inSpace : inRegSpace a = true)
    (off : s.pd (regDomain (blockOf a) (a % 0x10000)) ≠ 2) : s.busCheck a 32 = 1 := by
  simp [State.busCheck, aligned, inSpace, off]

/-! ### A write on a path -/

/-- On a path that writes, the access checks decide: the word is written, or EV225 is raised, or nothing happens. -/
theorem State.pathWrite_eq (s : State) (p : Path) (a width : Nat) (v : Word) (h : s.writesOn p) :
    s.pathWrite p a width v =
      ((s.pathStart p).busWrite p a width v).2.pathEnd p ((s.pathStart p).busWrite p a width v).1 := by
  rcases h with rfl | ⟨rfl, unlocked⟩
  · rfl
  · have notLocked : s.svcFrame.fld SVC_STAT_unlocked = 1 := by rw [State.fld_unlocked_svcFrame, unlocked]; rfl
    simp only [State.pathWrite, State.svcWord, notLocked]
    rfl

theorem State.pathWrite_granted (s : State) (p : Path) (a : Nat) (v : Word) (h : s.writesOn p) (g : s.grants a) :
    s.pathWrite p a 32 v = ((s.pathStart p).writeReg p a v).pathEnd p 0 := by
  rw [s.pathWrite_eq p a 32 v h]
  simp only [State.busWrite, s.busCheck_pathStart, s.busCheck_of_grants a g]

theorem State.pathWrite_malformed (s : State) (p : Path) (a width : Nat) (v : Word) (h : s.writesOn p)
    (m : width ≠ 32 ∨ a % 4 ≠ 0 ∨ inRegSpace a = false) :
    s.pathWrite p a width v = (s.pathStart p).pathEnd p 2 := by
  rw [s.pathWrite_eq p a width v h]
  simp only [State.busWrite, s.busCheck_pathStart, s.busCheck_malformed a width m]

theorem State.pathWrite_asleep (s : State) (p : Path) (a : Nat) (v : Word) (h : s.writesOn p) (aligned : a % 4 = 0)
    (inSpace : inRegSpace a = true) (off : s.pd (regDomain (blockOf a) (a % 0x10000)) ≠ 2) :
    s.pathWrite p a 32 v = ((s.pathStart p).sleepingAccess a).pathEnd p 1 := by
  rw [s.pathWrite_eq p a 32 v h]
  simp only [State.busWrite, s.busCheck_pathStart, s.busCheck_asleep a aligned inSpace off]

/-- A locked service port notes the frame and refuses the word, whatever it is (R492). -/
theorem State.pathWrite_locked (s : State) (a width : Nat) (v : Word) (locked : s.unlocked = false) (h : a ≠ SVC_UNLOCK) :
    s.pathWrite .service a width v = s.svcFrame.setWstat 4 := by
  have shut : s.svcFrame.fld SVC_STAT_unlocked = 0 := by rw [State.fld_unlocked_svcFrame, locked]; rfl
  simp [State.pathWrite, State.svcWord, shut, h]

theorem State.sleepingAccess_keeps (s : State) (a : Nat) : Keeps [.evt] [EVT_LOST] s (s.sleepingAccess a) :=
  State.raiseWith_keeps _ _ _ _ _

/-! ### The commands -/

theorem completes_registerWrite (s : State) (t : Nat) (p : Path) (a width : Nat) (v : Word) (P : State → Prop) :
    Completes (.registerWrite t p a width v) s P ↔ P ((s.advanceTo t).pathWrite p a width v) :=
  ⟨fun ⟨_, h, hP⟩ => by cases h; exact hP, fun hP => ⟨_, rfl, hP⟩⟩

theorem completes_highWordWrite (s : State) (t : Nat) (p : Path) (a : Nat) (v : Word) (P : State → Prop) :
    Completes (.highWordWrite t p a v) s P ↔ P ((s.advanceTo t).pathWrite p a 32 v) :=
  ⟨fun ⟨_, h, hP⟩ => by cases h; exact hP, fun hP => ⟨_, rfl, hP⟩⟩

theorem completes_lowWordRead (s : State) (t : Nat) (p : Path) (a : Nat) (P : State → Prop) :
    Completes (.lowWordRead t p a) s P ↔ P ((s.advanceTo t).busRead p a 32).2.2 :=
  ⟨fun ⟨_, h, hP⟩ => by cases h; exact hP, fun hP => ⟨_, rfl, hP⟩⟩

/-! ### What a write stores (R9) -/

theorem writtenBits_writtenWord (d : RegDesc) (old v : Word) : WrittenBits d old v (writtenWord d old v) := by
  intro b hb
  simp only [writtenWord, BitVec.getLsbD_and, BitVec.getLsbD_or, BitVec.getLsbD_not, BitVec.getLsbD_ofNat, hb, decide_true,
    Bool.true_and]
  cases (accMask d .rw).testBit b <;> simp

theorem State.storeReg_eq (s : State) (a : Nat) (v : Word) {d : RegDesc} {i : Nat} (h : regAt a = some (d, i)) :
    s.storeReg a v = s.setReg a (writtenWord d (s.reg a) v) := by
  simp only [State.storeReg, h]

/-- A bit that is RW and not W1C takes the written word's bit. -/
theorem WrittenBits.getLsbD_rw {d : RegDesc} {old v new : Word} {b : Nat} (h : WrittenBits d old v new) (hb : b < 32)
    (isRw : (accMask d .rw).testBit b = true) (notW1c : (accMask d .w1c).testBit b = false) :
    new.getLsbD b = v.getLsbD b := by
  rw [h b hb, isRw, notW1c]
  simp

/-- A field whose bits are all RW and none W1C takes the written word's field. -/
theorem WrittenBits.bits_eq {d : RegDesc} {old v new : Word} {hi lo : Nat} (h : WrittenBits d old v new) (hi_lt : hi < 32)
    (allRw : ∀ b, b ≤ hi → lo ≤ b → (accMask d .rw).testBit b = true ∧ (accMask d .w1c).testBit b = false) :
    bits new.toNat hi lo = bits v.toNat hi lo := by
  apply Nat.eq_of_testBit_eq
  intro i
  rw [bits_testBit, bits_testBit, BitVec.testBit_toNat, BitVec.testBit_toNat]
  by_cases inField : i < hi + 1 - lo
  · obtain ⟨isRw, notW1c⟩ := allRw (lo + i) (by omega) (by omega)
    rw [h.getLsbD_rw (by omega) isRw notW1c]
  · simp [inField]

/-- Such a field reads, after the write of its register, as the written word's field. -/
theorem State.fld_storeReg (s : State) (f : RegField) (v : Word) {d : RegDesc} {i : Nat} (found : regAt f.addr = some (d, i))
    (hi_lt : f.hi < 32)
    (allRw : ∀ b, b ≤ f.hi → f.lo ≤ b → (accMask d .rw).testBit b = true ∧ (accMask d .w1c).testBit b = false) :
    (s.storeReg f.addr v).fld f = bits v.toNat f.hi f.lo := by
  rw [s.storeReg_eq _ v found, State.fld, State.reg_setReg_self]
  exact (writtenBits_writtenWord d _ v).bits_eq hi_lt allRw

theorem State.storeReg_keeps (s : State) (a : Nat) (v : Word) : Keeps [] [a] s (s.storeReg a v) := by
  unfold State.storeReg
  split
  · exact s.setReg_keeps a _
  · exact Keeps.refl _ _ s

theorem State.writeReg_plain (s : State) (p : Path) (a : Nat) (v : Word) (h : plainRegister a = true) :
    s.writeReg p a v = s.storeReg a v := by
  simp only [plainRegister, Bool.and_eq_true, Option.isNone_iff_eq_none] at h
  obtain ⟨⟨⟨⟨named, prbs⟩, slip⟩, peak⟩, route⟩ := h
  simp only [List.contains_eq_mem, List.mem_cons, List.not_mem_nil, or_false, Bool.not_eq_true', decide_eq_false_iff_not,
    not_or] at named
  simp only [State.writeReg, named, prbs, slip, peak, route, if_false]

end Sys2Proof.Machine
end

section
/-!
PROOFS. Writes of registers (O13): the routing bytes of EVT_ROUTE (R477) and each outcome of the access checks.
-/
namespace Sys2Proof.Machine

/-! ### Routing bytes (R477) -/

/-- A number whose bit 1 is taken out and put in again as c has c there and its own bits elsewhere. -/
theorem testBit_withBit1 (x : Nat) (c : Bool) (b : Nat) :
    (x - bits x 1 1 * 2 + if c then 2 else 0).testBit b = if b = 1 then c else x.testBit b := by
  have parts : x - bits x 1 1 * 2 + (if c then 2 else 0) = x % 2 + 2 * b2n c + 4 * (x / 4) := by
    cases c <;> simp [bits, b2n] <;> omega
  rw [parts]
  have b2n_le : b2n c ≤ 1 := by cases c <;> decide
  match b with
  | 0 =>
    rw [Nat.testBit_zero, Nat.testBit_zero, show (x % 2 + 2 * b2n c + 4 * (x / 4)) % 2 = x % 2 by omega]
    rfl
  | 1 =>
    rw [Nat.testBit_succ, Nat.testBit_zero, show (x % 2 + 2 * b2n c + 4 * (x / 4)) / 2 % 2 = b2n c by omega]
    cases c <;> rfl
  | b + 2 =>
    simp only [Nat.testBit_succ, Nat.div_div_eq_div_mul]
    rw [show (x % 2 + 2 * b2n c + 4 * (x / 4)) / (2 * 2) = x / (2 * 2) by omega]
    simp

/-- A routing byte is its byte of EVT_ROUTE but for bit 1, which the firmware sets. -/
theorem State.testBit_route (s : State) (i : Nat) (j : Fin 4) (b : Nat) (hb : b < 8) :
    (s.route (4 * i + j.val)).testBit b =
      if b = 1 then s.boot.romDone && firmwareIrq (4 * i + j.val) else (s.reg (EVT_ROUTE i)).getLsbD (8 * j.val + b) := by
  simp only [State.route, show (4 * i + j.val) / 4 = i by omega, show (4 * i + j.val) % 4 = j.val by omega]
  rw [testBit_withBit1, bits_testBit, BitVec.testBit_toNat]
  simp [show b < 8 * j.val + 7 + 1 - 8 * j.val by omega]

/-- The description of EVT_ROUTE: 64 registers of one RW field. -/
def routeDesc : RegDesc := ⟨0, 4, 64, [⟨31, 0, .rw, 0⟩]⟩

theorem regAt_route (i : Fin 64) : regAt (EVT_ROUTE i.val) = some (routeDesc, i.val) := by
  revert i
  decide

theorem State.writeReg_route (s : State) (p : Path) (i : Fin 64) (v : Word) :
    s.writeReg p (EVT_ROUTE i.val) v = s.storeReg (EVT_ROUTE i.val) (v &&& 0xFDFDFDFD) := by
  have shape : ∀ i : Fin 64, EVT_ROUTE i.val ∉ [SVC_UNLOCK, EVT_INJECT, SBX_CTRL, DRC_THAW_CTRL, LNK_INJECT,
      DRC_THAW_ADDR_LO, DRC_THAW_ADDR_HI] ∧ inArray (EVT_ROUTE i.val) (LPH_PRBS 0) 0x400 32 = none ∧
      inArray (EVT_ROUTE i.val) (LPH_SLIP 0) 0x400 32 = none ∧ inArray (EVT_ROUTE i.val) (ENG_SPAN_PEAK 0) 4 4 = none ∧
      inArray (EVT_ROUTE i.val) (EVT_ROUTE 0) 4 64 = some i.val := by decide
  obtain ⟨named, prbs, slip, peak, route⟩ := shape i
  simp only [List.mem_cons, List.not_mem_nil, or_false, not_or] at named
  simp only [State.writeReg, named, prbs, slip, peak, route, if_false]

/-- The write mask of EVT_ROUTE leaves out bit 1 of each routing byte. -/
theorem routeMask_getLsbD :
    ∀ (j : Fin 4) (b : Fin 8), (0xFDFDFDFD : Word).getLsbD (8 * j.val + b.val) = decide (b.val ≠ 1) := by decide

theorem State.getLsbD_storeRoute (s : State) (i : Fin 64) (v : Word) (j : Fin 4) (b : Nat) (hb : b < 8) (h1 : b ≠ 1) :
    ((s.storeReg (EVT_ROUTE i.val) (v &&& 0xFDFDFDFD)).reg (EVT_ROUTE i.val)).getLsbD (8 * j.val + b) =
      v.getLsbD (8 * j.val + b) := by
  have inWord : 8 * j.val + b < 32 := by omega
  have allRw : accMask routeDesc .rw = 2 ^ 32 - 1 := by decide
  have noW1c : accMask routeDesc .w1c = 0 := by decide
  rw [s.storeReg_eq _ _ (regAt_route i), State.reg_setReg_self,
    (writtenBits_writtenWord _ _ _).getLsbD_rw inWord (by rw [allRw, Nat.testBit_two_pow_sub_one, decide_eq_true inWord])
      (by rw [noW1c, Nat.zero_testBit]),
    BitVec.getLsbD_and, routeMask_getLsbD j ⟨b, hb⟩, decide_eq_true h1, Bool.and_true]

/-! ### Each outcome of a write -/

theorem State.pathWrite_plain (s : State) (p : Path) (a : Nat) (v : Word) {d : RegDesc} {i : Nat} (h : s.writesOn p)
    (g : s.grants a) (plain : plainRegister a = true) (ne : a ≠ SVC_STAT) (found : regAt a = some (d, i)) :
    WrittenBits d (s.reg a) v ((s.pathWrite p a 32 v).reg a) ∧
      Keeps (pathParts p) (a :: pathAddrs p) s (s.pathWrite p a 32 v) := by
  rw [s.pathWrite_granted p a v h g, State.writeReg_plain _ p a v plain, State.storeReg_eq _ a v found]
  refine ⟨?_, (State.setReg_keeps _ _ _).onPath 0⟩
  rw [State.reg_pathEnd, State.reg_setReg_self, s.reg_pathStart_ne p a ne]
  exact writtenBits_writtenWord d _ v

theorem State.pathWrite_route (s : State) (p : Path) (i : Fin 64) (v : Word) (h : s.writesOn p)
    (g : s.grants (EVT_ROUTE i.val)) (j : Fin 4) (b : Nat) (hb : b < 8) :
    ((s.pathWrite p (EVT_ROUTE i.val) 32 v).route (4 * i.val + j.val)).testBit b =
      if b = 1 then s.boot.romDone && firmwareIrq (4 * i.val + j.val) else v.getLsbD (8 * j.val + b) := by
  rw [s.pathWrite_granted p _ v h g, State.writeReg_route, State.testBit_route _ _ _ _ hb]
  by_cases h1 : b = 1
  · rw [if_pos h1, if_pos h1, State.storeReg_eq _ _ _ (regAt_route i)]
    simp
  · rw [if_neg h1, if_neg h1, State.reg_pathEnd, State.getLsbD_storeRoute _ i v j b hb h1]

theorem State.pathWrite_route_keeps (s : State) (p : Path) (i : Fin 64) (v : Word) (h : s.writesOn p)
    (g : s.grants (EVT_ROUTE i.val)) :
    Keeps (pathParts p) (EVT_ROUTE i.val :: pathAddrs p) s (s.pathWrite p (EVT_ROUTE i.val) 32 v) := by
  rw [s.pathWrite_granted p _ v h g, State.writeReg_route]
  exact (State.storeReg_keeps _ _ _).onPath 0

theorem mod_two_of_testBit_zero {n : Nat} {c : Bool} (h : n.testBit 0 = c) : n % 2 = b2n c := by
  subst h
  rw [Nat.testBit_zero]
  rcases Nat.mod_two_eq_zero_or_one n with even | odd
  · rw [even]; rfl
  · rw [odd]; rfl

/-- Settles O13: the outcome of the access checks selects the law of `pathWrite` that gives the clause. -/
theorem registerWrites : Obligations.RegisterWrites := by
  refine ⟨fun s t p a v d i => ⟨fun path granted plain ne found => ?plain, ?wallBus⟩,
    fun s t p v i path granted => ?route,
    fun s t p a width v =>
      ⟨fun path malformed => ?malformed, fun path aligned inSpace off => ?asleep, fun locked ne => ?locked⟩⟩
  all_goals rw [completes_registerWrite]
  case plain =>
    exact State.pathWrite_plain _ p a v path granted plain ne found
  case wallBus =>
    rfl
  case route =>
    have byte (j : Fin 4) (b : Nat) (hb : b < 8) := State.pathWrite_route _ p i v path granted j b hb
    exact ⟨fun j => ⟨mod_two_of_testBit_zero (byte j 0 (by omega)), byte j 1 (by omega), fun b h1 h5 => by
      rw [byte j b (by omega), if_neg (by omega)]⟩, State.pathWrite_route_keeps _ p i v path granted⟩
  case malformed =>
    rw [State.pathWrite_malformed _ p a width v path malformed]
    exact ⟨(Keeps.refl [] [] _).onPath 2, State.wstat_pathEnd _ 2⟩
  case asleep =>
    rw [State.pathWrite_asleep _ p a v path aligned inSpace off]
    exact ⟨(State.logsOpen_raiseOpen _ _ _).onPath 1, (State.sleepingAccess_keeps _ a).onPath 1, State.wstat_pathEnd _ 1⟩
  case locked =>
    rw [State.pathWrite_locked _ a width v locked ne]
    exact ⟨rfl, (State.svcFrame_keeps _).trans (State.setWstat_keeps _ 4) |>.mono (by simp) (by simp)⟩

end Sys2Proof.Machine
end

section
/-!
PROOFS. 64-bit register pairs (O14): the low word that DRC_THAW_ADDR keeps for each path (R8), and the words that the read of a
low word latches for its path (R7).
-/
namespace Sys2Proof.Machine

/-! ### Keys of a path -/

theorem pathIx_injective : Function.Injective pathIx := by
  intro p q h
  cases p <;> cases q <;> simp_all [pathIx]

theorem shadowKey_injective (p : Path) : Function.Injective (shadowKey p) :=
  fun _ _ h => Nat.add_left_cancel h

theorem shadowKey_ne {p q : Path} {a b : Nat} (h : p ≠ q) (ha : a < 2 ^ 32) (hb : b < 2 ^ 32) :
    shadowKey p a ≠ shadowKey q b := by
  intro same
  have index : pathIx p = pathIx q := by simp only [shadowKey] at same; omega
  exact h (pathIx_injective index)

/-! ### Several keys written -/

theorem Sparse.getD_foldl_set_of_ne {α : Type} (key : Nat → Nat) (val : Nat → α) (x : Nat) (d : α) (hs : List Nat)
    (m : Sparse α) (h : ∀ y ∈ hs, key y ≠ x) :
    Sparse.getD (hs.foldl (fun m y => Sparse.set m (key y) (val y)) m) x d = Sparse.getD m x d := by
  induction hs generalizing m with
  | nil => rfl
  | cons y ys ih =>
    obtain ⟨hy, hys⟩ := List.forall_mem_cons.mp h
    rw [List.foldl_cons, ih _ hys, Sparse.getD_set, if_neg hy]

theorem Sparse.getD_foldl_set_of_mem {α : Type} {key : Nat → Nat} (inj : Function.Injective key) (val : Nat → α) (d : α)
    (x : Nat) (hs : List Nat) (m : Sparse α) (h : x ∈ hs) :
    Sparse.getD (hs.foldl (fun m y => Sparse.set m (key y) (val y)) m) (key x) d = val x := by
  induction hs generalizing m with
  | nil => cases h
  | cons y ys ih =>
    rw [List.foldl_cons]
    by_cases later : x ∈ ys
    · exact ih _ later
    · obtain rfl : x = y := (List.mem_cons.mp h).resolve_right later
      have others : ∀ z ∈ ys, key z ≠ key x := fun z hz same => later (inj same ▸ hz)
      rw [Sparse.getD_foldl_set_of_ne key val _ _ _ _ others, Sparse.getD_set, if_pos rfl]

/-! ### Reading (R7) -/

/-- What a register shows does not depend on what paths have latched. -/
theorem State.regValue_withShadow (s : State) (m : Sparse Word) (a : Nat) :
    ({ s with shadow := m }).regValue a = s.regValue a := rfl

/-- What a read latches: TIM_NS_LO the high word and the fraction of TIME_NS, the low word of a pair its high word. -/
theorem eq_of_mem_latchedBy {a h : Nat} (hh : h ∈ latchedBy a) :
    h = TIM_NS_HI ∨ h = TIM_NS_FRAC ∨ pairLow a = true ∧ h = a + 4 := by
  unfold latchedBy at hh
  split at hh
  · simp only [List.mem_cons, List.not_mem_nil, or_false] at hh
    exact hh.imp_right Or.inl
  · split at hh
    · next pair => exact Or.inr (Or.inr ⟨pair, List.mem_singleton.mp hh⟩)
    · cases hh

theorem isShadowed_of_mem_latchedBy {a h : Nat} (hh : h ∈ latchedBy a) : isShadowed h = true := by
  rcases eq_of_mem_latchedBy hh with rfl | rfl | ⟨pair, rfl⟩
  · rfl
  · rfl
  · rw [isShadowed, Nat.add_sub_cancel, pair, Bool.or_true]

theorem lt_of_mem_latchedBy {a h : Nat} (ha : inRegSpace a = true) (hh : h ∈ latchedBy a) : h < 2 ^ 32 := by
  simp only [inRegSpace, Bool.and_eq_true, decide_eq_true_eq] at ha
  rcases eq_of_mem_latchedBy hh with rfl | rfl | ⟨-, rfl⟩
  · decide
  · decide
  · omega

/-- The state after a granted read of an unshadowed word: what it latches stands in the path's shadow. -/
def State.latched (s : State) (p : Path) (a : Nat) : State :=
  { s with shadow := (latchedBy a).foldl (fun m h => Sparse.set m (shadowKey p h) (s.regValue h)) s.shadow }

theorem State.busRead_latched (s : State) (p : Path) (a : Nat) (g : s.grants a) (h : isShadowed a = false) :
    s.busRead p a 32 = (0, s.regValue a, s.latched p a) := by
  simp only [State.busRead, s.busCheck_of_grants a g, State.readReg, h]
  rfl

theorem State.latched_keeps (s : State) (p : Path) (a : Nat) : Keeps [.shadow] [] s (s.latched p a) := by
  refine ⟨fun q hq => ?_, fun _ _ => rfl⟩
  cases q with
  | shadow => exact absurd List.mem_cons_self hq
  | _ => rfl

theorem State.readReg_shadowed (s : State) (p : Path) (h : Nat) (sh : isShadowed h = true) :
    (s.readReg p h).1 = Sparse.getD s.shadow (shadowKey p h) (s.shadowReset h) := by
  simp only [State.readReg, sh, if_true]

theorem State.readReg_unshadowed (s : State) (p : Path) (h : Nat) (sh : isShadowed h = false) :
    (s.readReg p h).1 = s.regValue h := by
  simp only [State.readReg, sh]
  rfl

/-- A latched word reads, on the path that latched it, as it was at the read of its low word. -/
theorem State.readReg_latched_same (s : State) (p : Path) (a h : Nat) (hh : h ∈ latchedBy a) :
    ((s.latched p a).readReg p h).1 = s.regValue h := by
  rw [State.readReg_shadowed _ _ _ (isShadowed_of_mem_latchedBy hh)]
  exact Sparse.getD_foldl_set_of_mem (shadowKey_injective p) _ _ _ _ _ hh

/-- On another path every word reads as before. -/
theorem State.readReg_latched_other (s : State) (p q : Path) (a h : Nat) (ha : inRegSpace a = true) (hq : q ≠ p)
    (hh : h < 2 ^ 32) : ((s.latched p a).readReg q h).1 = (s.readReg q h).1 := by
  have sameReset : (s.latched p a).shadowReset h = s.shadowReset h := rfl
  cases sh : isShadowed h with
  | true =>
    rw [State.readReg_shadowed _ _ _ sh, State.readReg_shadowed _ _ _ sh, sameReset]
    exact Sparse.getD_foldl_set_of_ne _ _ _ _ _ _ fun y hy => shadowKey_ne hq.symm (lt_of_mem_latchedBy ha hy) hh
  | false =>
    rw [State.readReg_unshadowed _ _ _ sh, State.readReg_unshadowed _ _ _ sh]
    exact s.regValue_withShadow _ h

/-! ### Writing DRC_THAW_ADDR (R8) -/

/-- The low word that a path has written last, or the Reset value: what the pair takes when its high word is written. -/
def State.thawLow (s : State) (p : Path) : Word :=
  Sparse.getD s.lowWords (shadowKey p DRC_THAW_ADDR_LO) (resetOf DRC_THAW_ADDR_LO)

theorem regAt_thawHigh : regAt DRC_THAW_ADDR_HI = some (⟨0xA008, 4, 1, [⟨31, 5, .ro, 0⟩, ⟨4, 0, .rw, 0⟩]⟩, 0) := by
  decide

/-- The two registers of the pair lie in one power domain. -/
theorem State.grants_thawLow (s : State) (h : s.grants DRC_THAW_ADDR_HI) : s.grants DRC_THAW_ADDR_LO :=
  ⟨by decide, by decide, h.2.2⟩

theorem State.writeReg_thawLow (s : State) (p : Path) (v : Word) :
    s.writeReg p DRC_THAW_ADDR_LO v =
      { s with lowWords := Sparse.set s.lowWords (shadowKey p DRC_THAW_ADDR_LO) v } := rfl

theorem State.writeReg_thawHigh (s : State) (p : Path) (v : Word) :
    s.writeReg p DRC_THAW_ADDR_HI v = (s.setReg DRC_THAW_ADDR_LO (s.thawLow p)).storeReg DRC_THAW_ADDR_HI v := rfl

theorem keeps_withLowWords (s : State) (m : Sparse Word) : Keeps [.lowWords] [] s { s with lowWords := m } := by
  refine ⟨fun p hp => ?_, fun _ _ => rfl⟩
  cases p with
  | lowWords => exact absurd List.mem_cons_self hp
  | _ => rfl

theorem State.pathWrite_thawLow (s : State) (p : Path) (v : Word) (h : s.writesOn p) (g : s.grants DRC_THAW_ADDR_HI) :
    (s.pathWrite p DRC_THAW_ADDR_LO 32 v).thawLow p = v ∧
      Keeps (.lowWords :: pathParts p) (pathAddrs p) s (s.pathWrite p DRC_THAW_ADDR_LO 32 v) := by
  rw [s.pathWrite_granted p _ v h (s.grants_thawLow g), State.writeReg_thawLow]
  refine ⟨?_, (keeps_withLowWords _ _).onPath 0⟩
  rw [State.thawLow, State.pathEnd_lowWords, Sparse.getD_set, if_pos rfl]

theorem State.pathWrite_thawHigh (s : State) (p : Path) (v : Word) (h : s.writesOn p) (g : s.grants DRC_THAW_ADDR_HI) :
    (s.pathWrite p DRC_THAW_ADDR_HI 32 v).reg DRC_THAW_ADDR_LO = s.thawLow p ∧
      (s.pathWrite p DRC_THAW_ADDR_HI 32 v).fld DRC_THAW_ADDR_HI_addr_hi = v.toNat % 2 ^ 5 ∧
      Keeps (pathParts p) (DRC_THAW_ADDR_LO :: DRC_THAW_ADDR_HI :: pathAddrs p) s (s.pathWrite p DRC_THAW_ADDR_HI 32 v) := by
  rw [s.pathWrite_granted p _ v h g, State.writeReg_thawHigh]
  refine ⟨?low, ?high, ((State.setReg_keeps _ _ _).trans (State.storeReg_keeps _ _ _)).onPath 0⟩
  case low =>
    rw [State.reg_pathEnd, State.storeReg_eq _ _ _ regAt_thawHigh, State.reg_setReg_ne _ _ _ _ (by decide),
      State.reg_setReg_self]
    simp only [State.thawLow, State.pathStart_lowWords]
  case high =>
    rw [State.fld_pathEnd]
    have field := ((s.pathStart p).setReg DRC_THAW_ADDR_LO ((s.pathStart p).thawLow p)).fld_storeReg DRC_THAW_ADDR_HI_addr_hi v
      regAt_thawHigh (by decide) (by decide)
    simpa [bits, DRC_THAW_ADDR_HI_addr_hi] using field

/-- Settles O14: the low word's write and read change only what the path keeps of it, and the high word's write takes it. -/
theorem wordPairs : Obligations.WordPairs := by
  refine ⟨fun s t p v path granted => ⟨?_, ?_⟩, fun s t p a granted unshadowed => ?_⟩
  · rw [completes_registerWrite]
    exact State.pathWrite_thawLow _ p v path granted
  · rw [completes_highWordWrite]
    exact State.pathWrite_thawHigh _ p v path granted
  · rw [completes_lowWordRead, State.busRead_latched _ p a granted unshadowed]
    exact ⟨fun h hh => State.readReg_latched_same _ p a h hh,
      fun q h hq hh => State.readReg_latched_other _ p q a h granted.2.1 hq hh, State.latched_keeps _ p a⟩

end Sys2Proof.Machine
end
